-- ==== Sys2Proof/Word.lean ====
section
/-! DEFINITION. The plain words of the part: bytes of the host link and of the field line, and the
internal millisecond base, which runs modulo 2^32 (spec 00_scope, "Time"). -/

namespace Sys2Proof

/-- A byte as the host and the field stations see it (R174). -/
abbrev Byte := BitVec 8

/-- A moment on the internal millisecond base, modulo 2^32 ms. -/
abbrev Time := BitVec 32

/-- The moment `ms` milliseconds after `t`. -/
def after (t : Time) (ms : Nat) : Time := t + BitVec.ofNat 32 ms

/-- The elapsed time in ms from `earlier` to `later`, a difference modulo 2^32. -/
def elapsedMs (later earlier : Time) : Nat := (later - earlier).toNat

/-- `a / b` rounded up, and 0 when `b` is 0. -/
def ceilDiv (a b : Nat) : Nat := if b = 0 then 0 else (a + (b - 1)) / b

end Sys2Proof
end

