-- ==== Sys2Proof/Config.lean ====
section
/-! DEFINITION. What the spec fixes for this part once, and the one free value of the model. -/

namespace Sys2Proof.Config

/-- Greatest fuel power of an entry field, in kW (R18, R22). -/
def maxPower : Nat := 2000000

/-- Greatest gas flow or holder draw, in Nm³/h (R1, R8). -/
def maxFlow : Nat := 999999

/-- Greatest net calorific value, in kJ/Nm³ (R1). -/
def maxNcv : Nat := 40000

/-- The value at which the admission sequence counter has saturated (R25). -/
def counterEnd : Nat := 4294967295

/-- Greatest account number, and greatest billing-close number (R114). -/
def maxNumber : Nat := 4294967295

/-- Where a heat meter's volume register rolls over, in litres (R119). -/
def volumeModulus : Nat := 100000000

/-- Where the export meter's register rolls over, in Wh (R144). -/
def registerModulus : Nat := 1000000000

/-- Greatest content of a billing band, in Wh: 999,999,999 kWh 999 Wh (R122). -/
def maxBandWh : Nat := 999999999999

/-- Greatest flare total, in kWh (R70). -/
def maxFlare : Nat := 999999999

/-- One kilowatt-hour in kW·ms, and the period of the flare timer in ms (R69). -/
def kwhMs : Nat := 3600000

/-- Delivered energy of a settlement period saturates here, in Wh (R138). -/
def maxDelivered : Nat := 281474976710655

/-- The fixed pause after an exchange, in ms (R97). -/
def gapMs : Nat := 2

/-- Which of several timers that are due at one moment is taken first: the spec leaves it open
("either may be taken first"), so it is a FREE VALUE (assumption log 3). It is applied to a plain
counter of `State`, so every such choice is a fresh one. -/
opaque firstDue : Nat → Nat

end Sys2Proof.Config
end

