-- ==== Sys2Proof/Syntax.lean ====
section
/-! DEFINITION. The commands and events of the part, one constructor of `Instr` for each row of
spec/opcode_table.json, and the small vocabulary their operands are written in. A host command carries
the payload bytes of its frame; a field-line event carries the bytes that arrived; a reset carries what
it did to the nonvolatile store. -/

namespace Sys2Proof

/-- The three by-product gases, in their fixed order CVG, BFG, COG. -/
inductive Source where
  | cvg | bfg | cog
  deriving DecidableEq, Repr

/-- The conditions watched for each gas, in the order of R76. -/
inductive GasCondition where
  | ncvLow | ncvHigh | flowHigh | stale
  deriving DecidableEq, Repr

/-- The fifteen monitors (R76). -/
inductive Monitor where
  | gas (src : Source) (kind : GasCondition)
  | levelLowTrip
  | levelHighTrip
  | holderStale
  deriving DecidableEq, Repr

/-- A set of sources (R174: one byte, bit 0 CVG, bit 1 BFG, bit 2 COG). -/
structure SourceSet where
  cvg : Bool
  bfg : Bool
  cog : Bool
  deriving DecidableEq, Repr

/-- The stored record of an offtake slot as it stands in the store (R46): codes and numbers as
written, which a failing record may hold out of their ranges (R34). A state code of 0 is FREE. -/
structure StoredOfftake where
  number : Nat
  cls : Nat
  zone : Nat
  yield : Nat
  priority : Nat
  accepted : SourceSet
  floor : Nat
  ceiling : Nat
  fallback : Nat
  state : Nat
  sequence : Nat
  damaged : Bool
  deriving DecidableEq, Repr

/-- A billing band: whole kWh and a Wh part (R114). -/
structure EnergyBand where
  kwh : Nat
  wh : Nat
  deriving DecidableEq, Repr

/-- The last reading an account was billed against (R114). Temperatures in hundredths of °C. -/
structure Baseline where
  volume : Nat
  flowTemp : Int
  returnTemp : Int
  deriving DecidableEq, Repr

/-- Both bands as moved aside at a billing close, with that close's number (R114, R127). -/
structure ClosedCopy where
  recovered : EnergyBand
  fired : EnergyBand
  number : Nat
  deriving DecidableEq, Repr

/-- Both bands as frozen at the end of an account (R114, R129). -/
structure FinalTotals where
  recovered : EnergyBand
  fired : EnergyBand
  deriving DecidableEq, Repr

/-- The five event marks of an account (R114). -/
structure EventMarks where
  saturated : Bool
  implausible : Bool
  reverse : Bool
  finalReady : Bool
  uncollected : Bool
  deriving DecidableEq, Repr

/-- The stored record of an account slot as it stands in the store (R136): every field of R114 but the
last reading time. A state code of 0 is FREE. -/
structure StoredAccount where
  number : Nat
  station : Nat
  zone : Nat
  flowLimit : Nat
  state : Nat
  damaged : Bool
  baseline : Option Baseline
  residue : Nat
  recovered : EnergyBand
  fired : EnergyBand
  gaps : Nat
  implausibles : Nat
  reverses : Nat
  marks : EventMarks
  closed : Option ClosedCopy
  final : Option FinalTotals
  deriving DecidableEq, Repr

/-- What a reset did to one item of the nonvolatile store: the item was being written when the reset
fell, or the store was disturbed, so that it fails its check at the next start-up (R34, R46, R70, R132,
R136, R168). The content a failing record is left with is the environment's to say. -/
inductive Torn where
  | offtake (slot : Fin 48) (content : StoredOfftake)
  | account (slot : Fin 64) (content : StoredAccount)
  | sequenceCounter
  /-- The reset fell between an admission's record write and its counter write (R46). -/
  | counterUnwritten
  | closeNumber
  | flareRecord
  | settings
  deriving DecidableEq, Repr

/-- The commands and events of the part: one constructor for each row of spec/opcode_table.json. -/
inductive Instr where
  | powerOn (torn : List Torn)
  | resetLine (torn : List Torn)
  | startUpComplete
  | lockLineChange (asserted : Bool)
  | transactionBegin
  | frameError
  | checkError
  | unknownCommand (code : Byte) (payload : List Byte)
  | noOp (payload : List Byte)
  | resetPart (payload : List Byte) (torn : List Torn)
  | resumeLink (payload : List Byte)
  | readResetCause (payload : List Byte)
  | setSetting (payload : List Byte)
  | readSettings (payload : List Byte)
  | saveSettings (payload : List Byte)
  | saveCompletion
  | restoreSettings (payload : List Byte)
  | clearSettingsFault (payload : List Byte)
  | readSupply (payload : List Byte)
  | admitOfftake (payload : List Byte)
  | amendOfftake (payload : List Byte)
  | setDemand (payload : List Byte)
  | suspendOfftake (payload : List Byte)
  | reinstateOfftake (payload : List Byte)
  | retireOfftake (payload : List Byte)
  | setProtection (payload : List Byte)
  | lockPermanently (payload : List Byte)
  | readTable (payload : List Byte)
  | readOfftake (payload : List Byte)
  | findOfftakes (payload : List Byte)
  | readNextOfftake (payload : List Byte)
  | readGrants (payload : List Byte)
  | startRun (payload : List Byte)
  | abortRun (payload : List Byte)
  | readRunSummary (payload : List Byte)
  | readFlareTotals (payload : List Byte)
  | readFaults (payload : List Byte)
  | readCounters (payload : List Byte)
  | clearFaults (payload : List Byte)
  | readAlert (payload : List Byte)
  | clearAlert (payload : List Byte)
  | setAlertMask (payload : List Byte)
  | setPollList (payload : List Byte)
  | readStation (payload : List Byte)
  | gapTimerExpiry
  | querySent
  /-- The bytes that had arrived in AWAIT when the reply timer expired (R99). -/
  | replyTimerExpiry (arrived : List Byte)
  | reportComplete (report : List Byte)
  | openAccount (payload : List Byte)
  | closeBillingPeriod (payload : List Byte)
  | collectAccount (payload : List Byte)
  | closeAccount (payload : List Byte)
  | forceFinal (payload : List Byte)
  | clearAccountMarks (payload : List Byte)
  | readAccount (payload : List Byte)
  | findAccounts (payload : List Byte)
  | readNextAccount (payload : List Byte)
  | startSettlement (payload : List Byte)
  | declare (payload : List Byte)
  | stopSettlement (payload : List Byte)
  | readSettlement (payload : List Byte)
  | periodTimerExpiry
  | dispatchTimerExpiry
  | runCompletion
  | flareTimerExpiry
  | retryTimerExpiry (monitor : Monitor)
  | linkSilenceTimerExpiry
  deriving DecidableEq, Repr

end Sys2Proof
end

