-- ==== Sys2Proof/Decode.lean ====
section
/-! DEFINITION. From bytes to commands. `decodeTableWord` answers for the rows of spec/opcode_table.json that
give bits, and no row gives any. The rest is the request frame of the host link: the command codes of
R176, how a frame is laid out (R158, R159), and what the end of a transaction brings (R158 to R160,
R163). -/

namespace Sys2Proof

/-- The command a word spells by the bits of the opcode table: no row of the table gives bits, so no word
spells one. -/
def decodeTableWord (_nbits _w : Nat) : Option Instr := none

/-- The command a good frame carries, by its command byte (R176). A byte that names no command is
UNKNOWN_COMMAND (R163). `torn` is what a reset by RESET PART finds in the store. -/
def commandOf (torn : List Torn) (code : Byte) (p : List Byte) : Instr :=
  match code.toNat with
  | 0x00 => .noOp p
  | 0x01 => .resetPart p torn
  | 0x02 => .resumeLink p
  | 0x03 => .readResetCause p
  | 0x08 => .setSetting p
  | 0x09 => .readSettings p
  | 0x0A => .saveSettings p
  | 0x0B => .restoreSettings p
  | 0x0C => .clearSettingsFault p
  | 0x10 => .readSupply p
  | 0x20 => .admitOfftake p
  | 0x21 => .amendOfftake p
  | 0x22 => .setDemand p
  | 0x23 => .suspendOfftake p
  | 0x24 => .reinstateOfftake p
  | 0x25 => .retireOfftake p
  | 0x26 => .setProtection p
  | 0x27 => .lockPermanently p
  | 0x28 => .readTable p
  | 0x29 => .readOfftake p
  | 0x2A => .findOfftakes p
  | 0x2B => .readNextOfftake p
  | 0x2C => .readGrants p
  | 0x30 => .startRun p
  | 0x31 => .abortRun p
  | 0x32 => .readRunSummary p
  | 0x33 => .readFlareTotals p
  | 0x40 => .readFaults p
  | 0x41 => .readCounters p
  | 0x42 => .clearFaults p
  | 0x43 => .readAlert p
  | 0x44 => .clearAlert p
  | 0x45 => .setAlertMask p
  | 0x50 => .setPollList p
  | 0x51 => .readStation p
  | 0x60 => .openAccount p
  | 0x61 => .closeBillingPeriod p
  | 0x62 => .collectAccount p
  | 0x63 => .closeAccount p
  | 0x64 => .forceFinal p
  | 0x65 => .clearAccountMarks p
  | 0x66 => .readAccount p
  | 0x67 => .findAccounts p
  | 0x68 => .readNextAccount p
  | 0x70 => .startSettlement p
  | 0x71 => .declare p
  | 0x72 => .stopSettlement p
  | 0x73 => .readSettlement p
  | _ => .unknownCommand code p

/-- The command byte and the payload of a command of the host link; an event has none (R176). -/
def Instr.hostFrame : Instr → Option (Byte × List Byte)
  | .noOp p => some (0x00, p)
  | .resetPart p _ => some (0x01, p)
  | .resumeLink p => some (0x02, p)
  | .readResetCause p => some (0x03, p)
  | .setSetting p => some (0x08, p)
  | .readSettings p => some (0x09, p)
  | .saveSettings p => some (0x0A, p)
  | .restoreSettings p => some (0x0B, p)
  | .clearSettingsFault p => some (0x0C, p)
  | .readSupply p => some (0x10, p)
  | .admitOfftake p => some (0x20, p)
  | .amendOfftake p => some (0x21, p)
  | .setDemand p => some (0x22, p)
  | .suspendOfftake p => some (0x23, p)
  | .reinstateOfftake p => some (0x24, p)
  | .retireOfftake p => some (0x25, p)
  | .setProtection p => some (0x26, p)
  | .lockPermanently p => some (0x27, p)
  | .readTable p => some (0x28, p)
  | .readOfftake p => some (0x29, p)
  | .findOfftakes p => some (0x2A, p)
  | .readNextOfftake p => some (0x2B, p)
  | .readGrants p => some (0x2C, p)
  | .startRun p => some (0x30, p)
  | .abortRun p => some (0x31, p)
  | .readRunSummary p => some (0x32, p)
  | .readFlareTotals p => some (0x33, p)
  | .readFaults p => some (0x40, p)
  | .readCounters p => some (0x41, p)
  | .clearFaults p => some (0x42, p)
  | .readAlert p => some (0x43, p)
  | .clearAlert p => some (0x44, p)
  | .setAlertMask p => some (0x45, p)
  | .setPollList p => some (0x50, p)
  | .readStation p => some (0x51, p)
  | .openAccount p => some (0x60, p)
  | .closeBillingPeriod p => some (0x61, p)
  | .collectAccount p => some (0x62, p)
  | .closeAccount p => some (0x63, p)
  | .forceFinal p => some (0x64, p)
  | .clearAccountMarks p => some (0x65, p)
  | .readAccount p => some (0x66, p)
  | .findAccounts p => some (0x67, p)
  | .readNextAccount p => some (0x68, p)
  | .startSettlement p => some (0x70, p)
  | .declare p => some (0x71, p)
  | .stopSettlement p => some (0x72, p)
  | .readSettlement p => some (0x73, p)
  | .unknownCommand code p => some (code, p)
  | .powerOn _ => none
  | .resetLine _ => none
  | .startUpComplete => none
  | .lockLineChange _ => none
  | .transactionBegin => none
  | .frameError => none
  | .checkError => none
  | .saveCompletion => none
  | .gapTimerExpiry => none
  | .querySent => none
  | .replyTimerExpiry _ => none
  | .reportComplete _ => none
  | .periodTimerExpiry => none
  | .dispatchTimerExpiry => none
  | .runCompletion => none
  | .flareTimerExpiry => none
  | .retryTimerExpiry _ => none
  | .linkSilenceTimerExpiry => none

/-- The greatest payload length of a request frame (R158). -/
def maxPayload : Nat := 60

/-- The exclusive-or of a run of bytes (R159). -/
def xorOf (p : List Byte) : Byte := p.foldl (· ^^^ ·) 0

/-- The bytes of a frame before its check byte. -/
def frameBody (code : Byte) (p : List Byte) : List Byte := code :: BitVec.ofNat 8 p.length :: p

/-- A request frame: command byte, length byte, payload, check byte (R158, R159). -/
def frameBytes (code : Byte) (p : List Byte) : List Byte :=
  frameBody code p ++ [xorOf (frameBody code p)]

/-- What the end of a transaction brings, from the whole bytes the host clocked and the number of stray
bits after them: nothing where no bit was clocked, a discarded frame, or a command (R158 to R160,
R163). Bytes after the check byte are filler. -/
def endOfTransaction (torn : List Torn) (bytes : List Byte) (strayBits : Nat) : Option Instr :=
  match bytes with
  | [] => if strayBits = 0 then none else some .frameError
  | [_] => some .frameError
  | code :: len :: rest =>
    if maxPayload < len.toNat ∨ strayBits ≠ 0 then some .frameError
    else match rest.drop len.toNat with
      | [] => some .frameError
      | check :: _ =>
        if xorOf (code :: len :: rest.take len.toNat) = check then
          some (commandOf torn code (rest.take len.toNat))
        else some .checkError

end Sys2Proof
end

