-- ==== Sys2Proof/Machine/State.lean ====
section
/-! DEFINITION. The state of the part as plain data, block by block, and the state right after reset.
Which rule names each piece, and its reset value, is listed in INVENTORY.md under "State". -/

namespace Sys2Proof.Machine

/-- Why a step stops with a fault. The spec gives every command and event of the part an outcome the
part goes on from, so no meaning raises a fault and there is no constructor (safe: nothing is hidden). -/
inductive Fault where
  deriving DecidableEq, Repr

/-- Why a step is refused. -/
inductive Refusal where
  /-- Raised by `exec` alone, for a row of the table that has no meaning yet. Safe: nothing can be
  claimed of such a command. No arm of `exec` raises it now. -/
  | notModelled (mnemonic : String)
  deriving DecidableEq, Repr

/-- Three like things, one for each source, in the order CVG, BFG, COG. -/
structure PerSource (α : Type) where
  cvg : α
  bfg : α
  cog : α
  deriving DecidableEq, Repr

def PerSource.get {α : Type} (p : PerSource α) : Source → α
  | .cvg => p.cvg
  | .bfg => p.bfg
  | .cog => p.cog

def PerSource.put {α : Type} (p : PerSource α) (src : Source) (x : α) : PerSource α :=
  match src with
  | .cvg => { p with cvg := x }
  | .bfg => { p with bfg := x }
  | .cog => { p with cog := x }

/-- The four heating zones (R18). -/
inductive Zone where
  | z1 | z2 | z3 | z4
  deriving DecidableEq, Repr

/-- Four like things, one for each zone. -/
structure PerZone (α : Type) where
  z1 : α
  z2 : α
  z3 : α
  z4 : α
  deriving DecidableEq, Repr

def PerZone.get {α : Type} (p : PerZone α) : Zone → α
  | .z1 => p.z1
  | .z2 => p.z2
  | .z3 => p.z3
  | .z4 => p.z4

def PerZone.put {α : Type} (p : PerZone α) (z : Zone) (x : α) : PerZone α :=
  match z with
  | .z1 => { p with z1 := x }
  | .z2 => { p with z2 := x }
  | .z3 => { p with z3 := x }
  | .z4 => { p with z4 := x }

/-! ## Settings (R167, table 10.1) -/

/-- Fault modes (R76, R82). -/
inductive FaultMode where
  | off | report | latch | retry
  deriving DecidableEq, Repr

/-- Sides of the protected band (R36). -/
inductive BandSide where
  | low | high
  deriving DecidableEq, Repr

/-- Lock modes of the protected band (R36). -/
inductive LockMode where
  | none | line
  deriving DecidableEq, Repr

/-- Limits of one source's gas monitors (R77). -/
structure GasLimits where
  ncvMin : Nat
  ncvMax : Nat
  flowMax : Nat
  deriving DecidableEq, Repr

/-- The holder settings (section 1.5), less the role address. -/
structure HolderSettings where
  lLo : Nat
  lHi : Nat
  hyst : Nat
  dNom : Nat
  dMax : Nat
  tripLow : Nat
  tripHigh : Nat
  deriving DecidableEq, Repr

/-- The five role addresses, 0 meaning no station (R7, R8, R101). -/
structure RoleAddresses where
  gas : PerSource Nat
  holder : Nat
  export_ : Nat
  deriving DecidableEq, Repr

/-- The parameters of table 10.1, as the live settings and the stored record both hold them. -/
structure Settings where
  dispatchInterval : Nat
  limits : PerSource GasLimits
  holder : HolderSettings
  modes : Vector FaultMode 15
  retryTime : Nat
  roles : RoleAddresses
  replyTimeout : Nat
  staleThreshold : Nat
  pollList : List Nat
  periodLength : Nat
  tolerance : Nat
  boostStep : Nat
  boostMax : Nat
  exportLimit : Nat
  stationLoad : Nat
  linkTimeout : Nat
  alertMask : BitVec 12
  bandSide : BandSide
  bandSize : Nat
  lockMode : LockMode
  deriving DecidableEq, Repr

/-! ## Supply Monitor -/

/-- How far a last reading may be trusted (R1, R2). -/
inductive ReadingState where
  | noReading | fresh | held
  deriving DecidableEq, Repr

/-- A source record (R1). -/
structure SourceRecord where
  address : Nat
  reading : ReadingState
  flow : Nat
  ncv : Nat
  availability : Nat
  deriving DecidableEq, Repr

/-- The holder band (R8, R10, R11). -/
inductive HolderBand where
  | unknown | low | normal | high
  deriving DecidableEq, Repr

/-- The holder record (R8). -/
structure HolderRecord where
  address : Nat
  reading : ReadingState
  level : Nat
  band : HolderBand
  belowTrip : Bool
  aboveTrip : Bool
  draw : Nat
  deriving DecidableEq, Repr

structure Supply where
  sources : PerSource SourceRecord
  holder : HolderRecord
  deriving DecidableEq, Repr

/-! ## Offtake Table -/

/-- Classes of offtake (R18). -/
inductive OfftakeClass where
  | works | steam | townHeat | power
  deriving DecidableEq, Repr

/-- An entry's class with the field that only this class has (R18: zone, yield). -/
inductive Use where
  | works
  | steam
  | townHeat (zone : Zone)
  | power (yield : Nat)
  deriving DecidableEq, Repr

def Use.cls : Use → OfftakeClass
  | .works => .works
  | .steam => .steam
  | .townHeat _ => .townHeat
  | .power _ => .power

/-- States of a non-free entry (R18). A FREE slot holds no entry. -/
inductive OfftakeState where
  | pending | active | suspended | retiring
  deriving DecidableEq, Repr

/-- A published grant (R19). Its total is the sum of the three parts. -/
structure Grant where
  parts : PerSource Nat
  short : Bool
  run : Nat
  deriving DecidableEq, Repr

def Grant.total (g : Grant) : Nat := g.parts.cvg + g.parts.bfg + g.parts.cog

/-- A grant of zero with the SHORT mark clear and run number 0 (R19). -/
def Grant.zero : Grant := ⟨⟨0, 0, 0⟩, false, 0⟩

/-- An offtake entry (R18), without the run part, which the engine holds. -/
structure Offtake where
  number : Nat
  use : Use
  priority : Nat
  accepted : SourceSet
  floor : Nat
  ceiling : Nat
  demand : Nat
  fallback : Nat
  boost : Nat
  state : OfftakeState
  sequence : Nat
  damaged : Bool
  grant : Grant
  deriving DecidableEq, Repr

/-- The filter of FIND OFFTAKES; `none` is "any" (R43). -/
structure OfftakeFilter where
  cls : Option OfftakeClass
  state : Option OfftakeState
  priority : Option Nat
  deriving DecidableEq, Repr

/-- The offtake cursor; a position of `none` is the end (R43). -/
structure OfftakeCursor where
  filter : OfftakeFilter
  position : Option (Fin 48)
  deriving DecidableEq, Repr

structure OfftakeTable where
  entries : Vector (Option Offtake) 48
  counter : Nat
  cursor : OfftakeCursor
  permanentLock : Bool
  deriving DecidableEq, Repr

/-! ## Allocation Engine -/

/-- A participant's run part (R53), with the slot it belongs to and its seniority. -/
structure RunPart where
  slot : Fin 48
  sequence : Nat
  priority : Nat
  accepted : SourceSet
  need : Nat
  floor : Nat
  grant : PerSource Nat
  short : Bool
  released : Bool
  deriving DecidableEq, Repr

/-- The items of R48 that exist while a run is in flight. The run parts stand in the order in which
the passes serve them: ascending priority, then ascending seniority. -/
structure Run where
  pools : PerSource Nat
  startPools : PerSource Nat
  ncvAtStart : Nat
  standaloneAtStart : Bool
  retiring : List (Fin 48)
  parts : List RunPart
  deriving DecidableEq, Repr

/-- One figure for each of the two flared gases. -/
structure PerFlare where
  bfg : Nat
  cog : Nat
  deriving DecidableEq, Repr

/-- The engine's state (R48). The run state is RUNNING exactly while `run` is present. -/
structure Engine where
  run : Option Run
  runNumber : Nat
  lastCompleted : Nat
  rerunPending : Bool
  dispatch : Option Time
  lastPools : PerSource Nat
  lastNcv : Nat
  surplus : PerSource Nat
  setpoint : Nat
  zoneGrant : PerZone Nat
  zoneNeed : PerZone Nat
  coverage : PerZone Nat
  yieldSum : Nat
  exportEstimate : Nat
  short : Bool
  flareTotal : PerFlare
  flareResidue : PerFlare
  flarePoint : Time
  flareTimer : Option Time
  deriving DecidableEq, Repr

/-! ## Fault Supervisor -/

/-- A monitor's record (R76), less the fault mode, which is a live setting. A retry timer of `none` is
IDLE; a running one holds its expiry. -/
structure MonitorRecord where
  raw : Bool
  latched : Bool
  hold : Bool
  counter : Nat
  timer : Option Time
  deriving DecidableEq, Repr

/-- Admission of a source (R87). -/
inductive Admission where
  | admitted | withdrawn
  deriving DecidableEq, Repr

/-- The supervisor's state; bit k of `alerts` is the k-th flag of the table of section 4.6. -/
structure Supervisor where
  monitors : Vector MonitorRecord 15
  admission : PerSource Admission
  alerts : BitVec 12
  deriving DecidableEq, Repr

/-! ## Field Line Controller -/

/-- Whether the walk is running (R96). -/
inductive Polling where
  | stopped | empty | running
  deriving DecidableEq, Repr

/-- Where the walk stands while RUNNING (R96). -/
inductive Phase where
  | query | await | gap
  deriving DecidableEq, Repr

/-- What the part believes of a station (R100). -/
inductive StationState where
  | unknown | live | stale
  deriving DecidableEq, Repr

/-- Outcome of a station's latest exchange (R100). -/
inductive LastEvent where
  | none | good | timeout | check | address | kind | stationFault | range | unbound
  deriving DecidableEq, Repr

/-- A station record (R100). -/
structure StationRecord where
  state : StationState
  misses : Nat
  errors : Nat
  last : LastEvent
  lastGood : Option Time
  deriving DecidableEq, Repr

/-- The line as a whole (R96). `queried` is the station of the exchange in flight; the record of
address a stands at index a − 1. -/
structure FieldLine where
  polling : Polling
  position : Nat
  phase : Option Phase
  queried : Nat
  replyTimer : Option Time
  gapTimer : Option Time
  staged : Option (List Nat)
  replacementWaiting : Bool
  stations : Vector StationRecord 127
  deriving DecidableEq, Repr

/-! ## Heat Account Unit -/

/-- States of a non-free account (R114). A FREE slot holds no account. -/
inductive AccountState where
  | opened | holding | closing | final
  deriving DecidableEq, Repr

/-- A heat account (R114). -/
structure Account where
  number : Nat
  station : Nat
  zone : Zone
  flowLimit : Nat
  state : AccountState
  damaged : Bool
  baseline : Option Baseline
  lastReading : Option Time
  residue : Nat
  recovered : EnergyBand
  fired : EnergyBand
  gaps : Nat
  implausibles : Nat
  reverses : Nat
  marks : EventMarks
  closed : Option ClosedCopy
  final : Option FinalTotals
  deriving DecidableEq, Repr

/-- The marks FIND ACCOUNTS can name (R135, R175). -/
inductive AccountMark where
  | saturated | implausible | reverse | finalReady | uncollected | damaged
  deriving DecidableEq, Repr

structure AccountFilter where
  state : Option AccountState
  zone : Option Zone
  mark : Option AccountMark
  deriving DecidableEq, Repr

/-- The account cursor; a position of `none` is the end (R135). -/
structure AccountCursor where
  filter : AccountFilter
  position : Option (Fin 64)
  deriving DecidableEq, Repr

structure HeatAccounts where
  accounts : Vector (Option Account) 64
  cursor : AccountCursor
  closeNumber : Nat
  deriving DecidableEq, Repr

/-! ## Export Settlement Unit -/

/-- The meter baseline (R138). -/
structure MeterBaseline where
  register : Nat
  time : Time
  deriving DecidableEq, Repr

/-- The current period (R138). `length` is in seconds; `start` is on the internal base. -/
structure Period where
  number : Nat
  declared : Nat
  start : Time
  length : Nat
  delivered : Nat
  projection : Option Nat
  gap : Bool
  carried : Bool
  deriving DecidableEq, Repr

structure Declaration where
  number : Nat
  declared : Nat
  deriving DecidableEq, Repr

/-- How a period closed (R147). -/
inductive PeriodOutcome where
  | within | short | over
  deriving DecidableEq, Repr

/-- The last-closed record (R138, R147). -/
structure ClosedPeriod where
  number : Nat
  declared : Nat
  delivered : Nat
  deviation : Int
  outcome : PeriodOutcome
  gap : Bool
  carried : Bool
  deriving DecidableEq, Repr

/-- The settlement unit's state (R138). The settlement state is OPEN exactly while `current` is
present. -/
structure Settlement where
  baseline : Option MeterBaseline
  silent : Bool
  current : Option Period
  timer : Option Time
  next : Option Declaration
  lastClosed : Option ClosedPeriod
  outOfBand : Nat
  deriving DecidableEq, Repr

/-! ## Command Link -/

/-- Result codes (R163). -/
inductive ResultCode where
  | ok | queued | end_ | none | busy | unknownCommand | badLength | badValue | notFound | duplicate
  | tableFull | protected_ | wrongState | uncollected | standalone | settingsFault | checkError
  | frameError
  deriving DecidableEq, Repr

/-- A response as the response buffer holds it, less its length and check bytes, which its content
gives (R161). -/
structure Reply where
  code : ResultCode
  payload : List Byte
  deriving DecidableEq, Repr

/-- Kinds of reset (R172). -/
inductive ResetCause where
  | powerOn | resetLine | command
  deriving DecidableEq, Repr

/-- The reset-cause record (R172). -/
structure ResetRecord where
  cause : ResetCause
  standalone : Bool
  runInFlight : Bool
  saveInFlight : Bool
  deriving DecidableEq, Repr

/-- The link's state. `shiftOut` is present while chip select is asserted, and holds the bytes this
transaction shifts out before the zeros (R161, R162). -/
structure Link where
  response : Reply
  shiftOut : Option (List Byte)
  silence : Option Time
  standalone : Bool
  resetCause : ResetRecord
  deriving DecidableEq, Repr

/-! ## Nonvolatile Store -/

/-- The volatile part of the store's block (R168, R171). A save in flight holds the settings it took. -/
structure SettingsState where
  unsaved : Bool
  saving : Option Settings
  settingsFault : Bool
  deriving DecidableEq, Repr

/-- A stored item and whether it passes its check. -/
structure Checked (α : Type) where
  value : α
  good : Bool
  deriving DecidableEq, Repr

/-- The flare record (R70). -/
structure FlareRecord where
  total : PerFlare
  residue : PerFlare
  deriving DecidableEq, Repr

/-- The permanent-lock item, with the side and size held with the mark (R39). -/
structure LockItem where
  mark : Bool
  side : BandSide
  size : Nat
  deriving DecidableEq, Repr

/-- What survives every reset. The stored-record state of R168 is VALID exactly when
`settings.good`. -/
structure Store where
  settings : Checked Settings
  offtakes : Vector (Checked StoredOfftake) 48
  accounts : Vector (Checked StoredAccount) 64
  counter : Checked Nat
  closeNumber : Checked Nat
  flare : Checked FlareRecord
  lock : LockItem
  deriving DecidableEq, Repr

/-! ## The whole part -/

/-- The part, its pins, and the queue of commands waiting. `picks` is the model's own counter behind
the free value `Config.firstDue`. -/
structure State where
  pending : List Instr
  now : Time
  picks : Nat
  startingUp : Bool
  lockLine : Bool
  settings : Settings
  sm : Supply
  ot : OfftakeTable
  ae : Engine
  fs : Supervisor
  flc : FieldLine
  hau : HeatAccounts
  esu : Settlement
  cl : Link
  nvs : SettingsState
  store : Store
  deriving DecidableEq, Repr

/-! ## Values after reset -/

/-- The fault modes a part starts from, in the order of R89 (R86). -/
def Settings.defaultModes : Vector FaultMode 15 :=
  #v[.retry, .report, .report, .retry, .retry, .report, .report, .retry,
     .retry, .report, .report, .retry, .retry, .report, .retry]

/-- The defaults of table 10.1. -/
def Settings.defaults : Settings where
  dispatchInterval := 30
  limits := ⟨⟨0, 40000, 999999⟩, ⟨0, 40000, 999999⟩, ⟨0, 40000, 999999⟩⟩
  holder := ⟨250, 800, 50, 0, 0, 50, 950⟩
  modes := Settings.defaultModes
  retryTime := 60
  roles := ⟨⟨0, 0, 0⟩, 0, 0⟩
  replyTimeout := 40
  staleThreshold := 3
  pollList := []
  periodLength := 1800
  tolerance := 50
  boostStep := 5000
  boostMax := 0
  exportLimit := 2000000
  stationLoad := 0
  linkTimeout := 20
  alertMask := 0
  bandSide := .low
  bandSize := 0
  lockMode := .none

/-- A source record in NO_READING (R1, R17). -/
def SourceRecord.blank (address : Nat) : SourceRecord := ⟨address, .noReading, 0, 0, 0⟩

/-- A holder record in its reset condition (R14, R17). -/
def HolderRecord.blank (address : Nat) : HolderRecord :=
  ⟨address, .noReading, 0, .unknown, false, false, 0⟩

def Supply.blank (roles : RoleAddresses) : Supply where
  sources := ⟨SourceRecord.blank roles.gas.cvg, SourceRecord.blank roles.gas.bfg,
    SourceRecord.blank roles.gas.cog⟩
  holder := HolderRecord.blank roles.holder

def OfftakeCursor.atEnd : OfftakeCursor := ⟨⟨none, none, none⟩, none⟩

/-- The table before its records are loaded (R47). -/
def OfftakeTable.blank : OfftakeTable := ⟨Vector.replicate 48 none, 1, OfftakeCursor.atEnd, false⟩

/-- The engine after a reset (R75), before its flare record is loaded. -/
def Engine.blank : Engine where
  run := none
  runNumber := 0
  lastCompleted := 0
  rerunPending := false
  dispatch := none
  lastPools := ⟨0, 0, 0⟩
  lastNcv := 0
  surplus := ⟨0, 0, 0⟩
  setpoint := 0
  zoneGrant := ⟨0, 0, 0, 0⟩
  zoneNeed := ⟨0, 0, 0, 0⟩
  coverage := ⟨0, 0, 0, 0⟩
  yieldSum := 0
  exportEstimate := 0
  short := false
  flareTotal := ⟨0, 0⟩
  flareResidue := ⟨0, 0⟩
  flarePoint := 0
  flareTimer := none

/-- A monitor after a reset (R95). -/
def MonitorRecord.blank : MonitorRecord := ⟨false, false, false, 0, none⟩

/-- The supervisor after a reset (R95). -/
def Supervisor.blank : Supervisor :=
  ⟨Vector.replicate 15 MonitorRecord.blank, ⟨.admitted, .admitted, .admitted⟩, 0⟩

/-- A station record after a reset (R113). -/
def StationRecord.blank : StationRecord := ⟨.unknown, 0, 0, .none, none⟩

/-- The field line after a reset (R113). -/
def FieldLine.blank : FieldLine where
  polling := .stopped
  position := 0
  phase := none
  queried := 0
  replyTimer := none
  gapTimer := none
  staged := none
  replacementWaiting := false
  stations := Vector.replicate 127 StationRecord.blank

def AccountCursor.atEnd : AccountCursor := ⟨⟨none, none, none⟩, none⟩

/-- The accounts before their records are loaded (R137). -/
def HeatAccounts.blank : HeatAccounts := ⟨Vector.replicate 64 none, AccountCursor.atEnd, 0⟩

/-- The settlement unit after a reset; the silent mark follows the EXPORT role address (R150). -/
def Settlement.blank (exportAddress : Nat) : Settlement where
  baseline := none
  silent := exportAddress == 0
  current := none
  timer := none
  next := none
  lastClosed := none
  outOfBand := 0

/-- The link after a reset (R157, R166), with the reset-cause record of R172. -/
def Link.blank (r : ResetRecord) : Link := ⟨⟨.none, []⟩, none, none, false, r⟩

/-- An offtake slot stored FREE (R173). -/
def StoredOfftake.free : StoredOfftake := ⟨0, 0, 0, 0, 0, ⟨false, false, false⟩, 0, 0, 0, 0, 0, false⟩

/-- An account slot stored FREE (R173). -/
def StoredAccount.free : StoredAccount :=
  ⟨0, 0, 0, 0, 0, false, none, 0, ⟨0, 0⟩, ⟨0, 0⟩, 0, 0, 0, ⟨false, false, false, false, false⟩,
    none, none⟩

/-- The store as a part leaves the factory (R173). -/
def Store.factory : Store where
  settings := ⟨Settings.defaults, true⟩
  offtakes := Vector.replicate 48 ⟨StoredOfftake.free, true⟩
  accounts := Vector.replicate 64 ⟨StoredAccount.free, true⟩
  counter := ⟨1, true⟩
  closeNumber := ⟨0, true⟩
  flare := ⟨⟨⟨0, 0⟩, ⟨0, 0⟩⟩, true⟩
  lock := ⟨false, .low, 0⟩

/-- The part with all volatile state discarded and start-up begun, over a given store, reset-cause
record, LOCK level and queue (R171). The live settings stand at the defaults until start-up loads them
(assumption log 6), and the time base starts from 0 (log 4). -/
def State.begun (store : Store) (cause : ResetRecord) (lockLine : Bool) (picks : Nat)
    (pending : List Instr) : State where
  pending := pending
  now := 0
  picks := picks
  startingUp := true
  lockLine := lockLine
  settings := Settings.defaults
  sm := Supply.blank Settings.defaults.roles
  ot := OfftakeTable.blank
  ae := Engine.blank
  fs := Supervisor.blank
  flc := FieldLine.blank
  hau := HeatAccounts.blank
  esu := Settlement.blank 0
  cl := Link.blank cause
  nvs := ⟨false, none, false⟩
  store := store

/-- A part fresh from the factory (R173) whose power has just come up (R171, R172): start-up has begun
and no command waits. -/
def State.reset : State :=
  State.begun Store.factory ⟨.powerOn, false, false, false⟩ false 0 []

end Sys2Proof.Machine
end

