-- ==== Sys2Proof/Machine/Flags.lean ====
section
/-! DEFINITION. Every flag and set of marks of the part, and how each is laid out in bits: the twelve alert
flags and the ALERT line (R91, R92), the status byte (R162, R176), and the sets of R174. -/

namespace Sys2Proof.Machine

/-- The twelve alert flags, in the order of the table of section 4.6. -/
inductive AlertFlag where
  | sourceFault | runAborted | shortfall | flareStarted | holderBand | exportDeviation
  | accountEvent | stationStale | linkError | standaloneEntered | settingsFault | recordDamaged
  deriving DecidableEq, Repr

/-- The place of a flag in the flags and in the mask (R174). -/
def AlertFlag.index : AlertFlag → Nat
  | .sourceFault => 0
  | .runAborted => 1
  | .shortfall => 2
  | .flareStarted => 3
  | .holderBand => 4
  | .exportDeviation => 5
  | .accountEvent => 6
  | .stationStale => 7
  | .linkError => 8
  | .standaloneEntered => 9
  | .settingsFault => 10
  | .recordDamaged => 11

def AlertFlag.bit (f : AlertFlag) : BitVec 12 := 1#12 <<< f.index

/-- An owner reports its event: the flag is set, and stays set if it was (R91). -/
def State.raise (s : State) (f : AlertFlag) : State :=
  { s with fs := { s.fs with alerts := s.fs.alerts ||| f.bit } }

/-- `raise` under a condition. -/
def State.raiseIf (s : State) (b : Bool) (f : AlertFlag) : State := if b then s.raise f else s

/-- Whether a flag is set. -/
def State.alert (s : State) (f : AlertFlag) : Bool := s.fs.alerts &&& f.bit != 0

/-- The level of the ALERT line: at least one flag is both set and unmasked (R92). The line is an output
that always shows this level, so it is computed and not stored. -/
def State.alertLine (s : State) : Bool := s.fs.alerts &&& ~~~s.settings.alertMask != 0

/-- BFG or COG surplus is greater than 0 (R48, R162). -/
def Engine.flaring (e : Engine) : Bool := decide (0 < e.surplus.bfg) || decide (0 < e.surplus.cog)

/-- Eight flags as a byte, the first named in bit 7. -/
def byteOfFlags (b7 b6 b5 b4 b3 b2 b1 b0 : Bool) : Byte :=
  BitVec.ofNat 8 (128 * b7.toNat + 64 * b6.toNat + 32 * b5.toNat + 16 * b4.toNat + 8 * b3.toNat +
    4 * b2.toNat + 2 * b1.toNat + b0.toNat)

/-- The status byte (R162), in the layout of R176. -/
def State.statusByte (s : State) : Byte :=
  byteOfFlags s.alertLine s.ae.run.isSome s.cl.standalone s.nvs.settingsFault s.nvs.saving.isSome
    s.esu.current.isSome s.ae.short s.ae.flaring

end Sys2Proof.Machine

namespace Sys2Proof

/-! ## Sets of sources and of event marks -/

def SourceSet.has (a : SourceSet) : Source → Bool
  | .cvg => a.cvg
  | .bfg => a.bfg
  | .cog => a.cog

def SourceSet.isEmpty (a : SourceSet) : Bool := !(a.cvg || a.bfg || a.cog)

def SourceSet.all : SourceSet := ⟨true, true, true⟩

/-- A set of sources as received: bits 0, 1 and 2, the others ignored (R174). -/
def SourceSet.ofByte (n : Nat) : SourceSet := ⟨n.testBit 0, n.testBit 1, n.testBit 2⟩

def SourceSet.toByte (a : SourceSet) : Byte :=
  Machine.byteOfFlags false false false false false a.cog a.bfg a.cvg

/-- The event marks as the account record shows them (R178). -/
def EventMarks.toByte (m : EventMarks) : Byte :=
  Machine.byteOfFlags false false false m.uncollected m.finalReady m.reverse m.implausible m.saturated

def EventMarks.none : EventMarks := ⟨false, false, false, false, false⟩

end Sys2Proof
end

