-- ==== Sys2Proof/Machine/Operands.lean ====
section
/-! DEFINITION. The operand forms: how the payload of each request is read, how a report is read, and how
each record returned to the host is laid out (chapter 11). Fields are big-endian and take the fewest of
1, 2, 3, 4 or 6 bytes (R174). -/

namespace Sys2Proof.Machine

/-! ## Integers in bytes (R174) -/

/-- The number a run of bytes holds, the most significant first. -/
def beNat : List Byte → Nat := fun p => p.foldl (fun n b => n * 256 + b.toNat) 0

/-- The low `w` bytes of a number, the most significant first. -/
def beBytes : Nat → Nat → List Byte
  | 0, _ => []
  | w + 1, n => BitVec.ofNat 8 (n / 256 ^ w) :: beBytes w n

/-- A signed field in two's complement. -/
def beInt (w : Nat) (i : Int) : List Byte := beBytes w (i % (256 ^ w : Nat)).toNat

/-- A two-byte signed field as received. -/
def signed16 (n : Nat) : Int := (BitVec.ofNat 16 n).toInt

/-- A lone mark in a response: one byte, 1 when set (assumption log 12). -/
def markByte (b : Bool) : List Byte := [BitVec.ofNat 8 b.toNat]

/-- A payload of fixed form cut into its fields; `none` when its length does not fit the form. -/
def splitFields : List Nat → List Byte → Option (List Nat)
  | [], [] => some []
  | [], _ :: _ => none
  | w :: ws, p =>
    if p.length < w then none
    else (splitFields ws (p.drop w)).map (fun ns => beNat (p.take w) :: ns)

/-- The fields of a form laid out as a payload. -/
def joinFields : List Nat → List Nat → List Byte
  | w :: ws, n :: ns => beBytes w n ++ joinFields ws ns
  | _, _ => []

/-! ## Codes: positions in the list the owning rule gives first (R174) -/

def Zone.number : Zone → Nat
  | .z1 => 1 | .z2 => 2 | .z3 => 3 | .z4 => 4

def Zone.ofNumber : Nat → Option Zone
  | 1 => some .z1 | 2 => some .z2 | 3 => some .z3 | 4 => some .z4 | _ => none

def OfftakeClass.code : OfftakeClass → Nat
  | .works => 0 | .steam => 1 | .townHeat => 2 | .power => 3

def OfftakeClass.ofCode : Nat → Option OfftakeClass
  | 0 => some .works | 1 => some .steam | 2 => some .townHeat | 3 => some .power | _ => none

/-- FREE is 0 (R174). -/
def OfftakeState.code : OfftakeState → Nat
  | .pending => 1 | .active => 2 | .suspended => 3 | .retiring => 4

def OfftakeState.ofCode : Nat → Option OfftakeState
  | 1 => some .pending | 2 => some .active | 3 => some .suspended | 4 => some .retiring | _ => none

/-- FREE is 0 (R114, R174). -/
def AccountState.code : AccountState → Nat
  | .opened => 1 | .holding => 2 | .closing => 3 | .final => 4

def AccountState.ofCode : Nat → Option AccountState
  | 1 => some .opened | 2 => some .holding | 3 => some .closing | 4 => some .final | _ => none

def AccountMark.ofCode : Nat → Option AccountMark
  | 0 => some .saturated | 1 => some .implausible | 2 => some .reverse | 3 => some .finalReady
  | 4 => some .uncollected | 5 => some .damaged | _ => none

def FaultMode.code : FaultMode → Nat
  | .off => 0 | .report => 1 | .latch => 2 | .retry => 3

def FaultMode.ofCode : Nat → Option FaultMode
  | 0 => some .off | 1 => some .report | 2 => some .latch | 3 => some .retry | _ => none

def BandSide.code : BandSide → Nat
  | .low => 0 | .high => 1

def BandSide.ofCode : Nat → Option BandSide
  | 0 => some .low | 1 => some .high | _ => none

def LockMode.code : LockMode → Nat
  | .none => 0 | .line => 1

def LockMode.ofCode : Nat → Option LockMode
  | 0 => some .none | 1 => some .line | _ => Option.none

/-- The sizes a protected band may have (R36). -/
def bandSizes : List Nat := [0, 4, 8, 16, 32, 48]

def ReadingState.code : ReadingState → Nat
  | .noReading => 0 | .fresh => 1 | .held => 2

def HolderBand.code : HolderBand → Nat
  | .unknown => 0 | .low => 1 | .normal => 2 | .high => 3

def Admission.code : Admission → Nat
  | .admitted => 0 | .withdrawn => 1

def Polling.code : Polling → Nat
  | .stopped => 0 | .empty => 1 | .running => 2

def Phase.code : Phase → Nat
  | .query => 0 | .await => 1 | .gap => 2

def StationState.code : StationState → Nat
  | .unknown => 0 | .live => 1 | .stale => 2

def LastEvent.code : LastEvent → Nat
  | .none => 0 | .good => 1 | .timeout => 2 | .check => 3 | .address => 4 | .kind => 5
  | .stationFault => 6 | .range => 7 | .unbound => 8

def PeriodOutcome.code : PeriodOutcome → Nat
  | .within => 0 | .short => 1 | .over => 2

def ResetCause.code : ResetCause → Nat
  | .powerOn => 0 | .resetLine => 1 | .command => 2

/-- Result codes as bytes (R176). -/
def ResultCode.code : ResultCode → Nat
  | .ok => 0x00 | .queued => 0x01 | .end_ => 0x02 | .none => 0x0F | .busy => 0x20
  | .unknownCommand => 0x21 | .badLength => 0x22 | .badValue => 0x23 | .notFound => 0x27
  | .duplicate => 0x28 | .tableFull => 0x29 | .protected_ => 0x2A | .wrongState => 0x2B
  | .uncollected => 0x2C | .standalone => 0x2D | .settingsFault => 0x2E | .checkError => 0x30
  | .frameError => 0x31

end Sys2Proof.Machine

namespace Sys2Proof

/-! ## The monitors in the order of R89 -/

def Source.index : Source → Nat
  | .cvg => 0 | .bfg => 1 | .cog => 2

def GasCondition.index : GasCondition → Nat
  | .ncvLow => 0 | .ncvHigh => 1 | .flowHigh => 2 | .stale => 3

/-- A monitor's place in the order of R89. -/
def Monitor.index : Monitor → Fin 15
  | .gas .cvg .ncvLow => 0 | .gas .cvg .ncvHigh => 1 | .gas .cvg .flowHigh => 2
  | .gas .cvg .stale => 3
  | .gas .bfg .ncvLow => 4 | .gas .bfg .ncvHigh => 5 | .gas .bfg .flowHigh => 6
  | .gas .bfg .stale => 7
  | .gas .cog .ncvLow => 8 | .gas .cog .ncvHigh => 9 | .gas .cog .flowHigh => 10
  | .gas .cog .stale => 11
  | .levelLowTrip => 12 | .levelHighTrip => 13 | .holderStale => 14

/-- The fifteen monitors in the order of R89. -/
def Monitor.all : List Monitor :=
  [.gas .cvg .ncvLow, .gas .cvg .ncvHigh, .gas .cvg .flowHigh, .gas .cvg .stale,
   .gas .bfg .ncvLow, .gas .bfg .ncvHigh, .gas .bfg .flowHigh, .gas .bfg .stale,
   .gas .cog .ncvLow, .gas .cog .ncvHigh, .gas .cog .flowHigh, .gas .cog .stale,
   .levelLowTrip, .levelHighTrip, .holderStale]

/-- A monitor named by target (CVG, BFG, COG, HOLDER) and kind, by the order of R76 (R175). -/
def Monitor.ofCodes (target kind : Nat) : Option Monitor :=
  let src : Option Source := match target with
    | 0 => some .cvg | 1 => some .bfg | 2 => some .cog | _ => none
  match src, kind with
  | some g, 0 => some (.gas g .ncvLow)
  | some g, 1 => some (.gas g .ncvHigh)
  | some g, 2 => some (.gas g .flowHigh)
  | some g, 3 => some (.gas g .stale)
  | some _, _ => none
  | none, 4 => if target = 3 then some .levelLowTrip else none
  | none, 5 => if target = 3 then some .levelHighTrip else none
  | none, 6 => if target = 3 then some .holderStale else none
  | none, _ => none

/-- The three sources in their fixed order. -/
def Source.all : List Source := [.cvg, .bfg, .cog]

end Sys2Proof

namespace Sys2Proof.Machine

/-! ## Request payloads -/

/-- "any" in a filter and in the slot choice, and "all" of CLEAR FAULTS (R175). -/
def anyCode : Nat := 255

/-- The payload of ADMIT OFFTAKE (R22): 21 bytes. -/
structure AdmitRequest where
  number : Nat
  cls : Nat
  zone : Nat
  yield : Nat
  priority : Nat
  accepted : SourceSet
  floor : Nat
  ceiling : Nat
  demand : Nat
  fallback : Nat
  choice : Nat
  deriving DecidableEq, Repr

def AdmitRequest.widths : List Nat := [2, 1, 1, 2, 1, 1, 3, 3, 3, 3, 1]

def AdmitRequest.read (p : List Byte) : Option AdmitRequest :=
  match splitFields AdmitRequest.widths p with
  | some [number, cls, zone, yield, priority, set, floor, ceiling, demand, fallback, choice] =>
    some ⟨number, cls, zone, yield, priority, SourceSet.ofByte set, floor, ceiling, demand, fallback,
      choice⟩
  | _ => none

/-- The payload of AMEND OFFTAKE (R26): number, presence marks, then the five values (assumption log
14). A field not marked present is `none`. -/
structure AmendRequest where
  number : Nat
  priority : Option Nat
  accepted : Option SourceSet
  floor : Option Nat
  ceiling : Option Nat
  fallback : Option Nat
  deriving DecidableEq, Repr

def AmendRequest.widths : List Nat := [2, 1, 1, 1, 3, 3, 3]

def AmendRequest.read (p : List Byte) : Option AmendRequest :=
  match splitFields AmendRequest.widths p with
  | some [number, present, priority, set, floor, ceiling, fallback] =>
    let field {α : Type} (bit : Nat) (x : α) : Option α := if present.testBit bit then some x else none
    some ⟨number, field 0 priority, field 1 (SourceSet.ofByte set), field 2 floor, field 3 ceiling,
      field 4 fallback⟩
  | _ => none

/-- The pairs of SET DEMAND (R27): number (2), demand (3). -/
def demandPairs : List Byte → Option (List (Nat × Nat))
  | [] => some []
  | n1 :: n0 :: d2 :: d1 :: d0 :: rest =>
    (demandPairs rest).map (fun l => (beNat [n1, n0], beNat [d2, d1, d0]) :: l)
  | _ => none

/-- The numbers of READ GRANTS (R45). -/
def numberList : List Byte → Option (List Nat)
  | [] => some []
  | n1 :: n0 :: rest => (numberList rest).map (fun l => beNat [n1, n0] :: l)
  | _ => none

/-- The items of SET SETTING (R167, R175): a parameter code and a four-byte value. -/
def settingItems : List Byte → Option (List (Nat × Nat))
  | [] => some []
  | c :: v3 :: v2 :: v1 :: v0 :: rest =>
    (settingItems rest).map (fun l => (c.toNat, beNat [v3, v2, v1, v0]) :: l)
  | _ => none

/-- The target and kind pairs of CLEAR FAULTS (R175). -/
def monitorCodes : List Byte → Option (List (Nat × Nat))
  | [] => some []
  | t :: k :: rest => (monitorCodes rest).map (fun l => (t.toNat, k.toNat) :: l)
  | _ => none

/-- A part of a filter: "any", or a code its list must name. `none` when it names nothing. -/
def filterPart {α : Type} (ofCode : Nat → Option α) (n : Nat) : Option (Option α) :=
  if n = anyCode then some none else (ofCode n).map some

/-! ## Reports of the field line (R99, R177) -/

/-- The kinds of report (R99). -/
inductive ReportKind where
  | gas | holder | export_ | heat
  deriving DecidableEq, Repr

/-- The kind a kind byte names, if any (R177). -/
def ReportKind.ofByte (b : Byte) : Option ReportKind :=
  if b = 0x01 then some .gas
  else if b = 0x02 then some .holder
  else if b = 0x03 then some .export_
  else if b = 0x04 then some .heat
  else none

/-- Total length of a report of each kind (R177). -/
def ReportKind.length : ReportKind → Nat
  | .gas => 9 | .holder => 6 | .export_ => 8 | .heat => 15

/-- The payload values of a report (R177). -/
inductive Reading where
  | gas (flow ncv : Nat)
  | holder (level : Nat)
  | export_ (register : Nat)
  | heat (volume rate : Nat) (flowTemp returnTemp : Int)
  deriving DecidableEq, Repr

def Reading.kind : Reading → ReportKind
  | .gas _ _ => .gas
  | .holder _ => .holder
  | .export_ _ => .export_
  | .heat _ _ _ _ => .heat

/-- A temperature in the range of R102. -/
def tempInRange (t : Int) : Bool := decide (-2000 ≤ t) && decide (t ≤ 15000)

/-- Every payload value lies in its range (R102, check 6). -/
def Reading.inRange : Reading → Bool
  | .gas flow ncv => decide (flow ≤ Config.maxFlow) && decide (ncv ≤ Config.maxNcv)
  | .holder level => decide (level ≤ 1000)
  | .export_ register => decide (register < Config.registerModulus)
  | .heat volume rate tf tr =>
    decide (volume < Config.volumeModulus) && decide (rate ≤ 2000000) && tempInRange tf &&
      tempInRange tr

/-- A complete report taken apart. -/
structure Report where
  sum : Byte
  address : Nat
  reading : Reading
  status : Byte
  deriving DecidableEq, Repr

/-- The sum of all bytes modulo 256 (R98, R102). -/
def byteSum (p : List Byte) : Byte := p.foldl (· + ·) 0

/-- The payload of a report after its kind byte, with the status byte behind it. -/
def Reading.read (k : ReportKind) (p : List Byte) : Option (Reading × Byte) :=
  match k with
  | .gas => match splitFields [3, 2, 1, 1] p with
    | some [flow, ncv, status, _] => some (.gas flow ncv, BitVec.ofNat 8 status)
    | _ => none
  | .holder => match splitFields [2, 1, 1] p with
    | some [level, status, _] => some (.holder level, BitVec.ofNat 8 status)
    | _ => none
  | .export_ => match splitFields [4, 1, 1] p with
    | some [register, status, _] => some (.export_ register, BitVec.ofNat 8 status)
    | _ => none
  | .heat => match splitFields [4, 3, 2, 2, 1, 1] p with
    | some [volume, rate, tf, tr, status, _] =>
      some (.heat volume rate (signed16 tf) (signed16 tr), BitVec.ofNat 8 status)
    | _ => none

/-- A complete report: its kind byte names a kind and exactly the bytes of that kind have arrived
(R99). -/
def Report.read (p : List Byte) : Option Report :=
  match p with
  | a :: k :: rest =>
    match ReportKind.ofByte k with
    | none => none
    | some kind => (Reading.read kind rest).map (fun (r, st) => ⟨byteSum p, a.toNat, r, st⟩)
  | _ => none

/-- The bytes that arrived hold a kind byte that names no kind, so they cannot be delimited (R99). -/
def undelimited (arrived : List Byte) : Bool :=
  match arrived with
  | _ :: k :: _ => (ReportKind.ofByte k).isNone
  | _ => false

/-- The query to a station (R98, R177). -/
def queryBytes (address : Nat) : List Byte :=
  let a : Byte := BitVec.ofNat 8 address
  [a, 0x52, 0 - (a + 0x52)]

/-! ## Records returned to the host (R178 and, where it gives no layout, the order of the owning rule) -/

def OfftakeState.encode (st : OfftakeState) : List Byte := beBytes 1 st.code

/-- Zone of an entry, 0 when absent (R175). -/
def Use.zoneNumber : Use → Nat
  | .townHeat z => z.number
  | _ => 0

/-- Yield of an entry, 0 when absent (R175). -/
def Use.yieldValue : Use → Nat
  | .power y => y
  | _ => 0

def PerSource.encode3 (g : PerSource Nat) : List Byte :=
  beBytes 3 g.cvg ++ beBytes 3 g.bfg ++ beBytes 3 g.cog

/-- The offtake record, 44 bytes (R178). -/
def Offtake.encode (slot : Fin 48) (e : Offtake) (participant : Bool) : List Byte :=
  beBytes 1 slot.val ++ beBytes 2 e.number ++ beBytes 1 e.use.cls.code ++ beBytes 1 e.use.zoneNumber ++
  beBytes 2 e.use.yieldValue ++ beBytes 1 e.priority ++ [e.accepted.toByte] ++ beBytes 3 e.floor ++
  beBytes 3 e.ceiling ++ beBytes 3 e.demand ++ beBytes 3 e.fallback ++ beBytes 3 e.boost ++
  e.state.encode ++ beBytes 4 e.sequence ++
  [byteOfFlags false false false false false e.grant.short participant e.damaged] ++
  e.grant.parts.encode3 ++ beBytes 3 e.grant.total ++ beBytes 2 e.grant.run

/-- One record of READ GRANTS (R45); a number that names no entry is marked, with zeros. That every record
ends with the not-found mark, clear where the grant stands, is the model's choice (assumption log 38). -/
def grantRecord (number : Nat) (g : Option Grant) : List Byte :=
  let v := g.getD Grant.zero
  beBytes 2 number ++ v.parts.encode3 ++ beBytes 3 v.total ++ markByte v.short ++ beBytes 2 v.run ++
    markByte g.isNone

end Sys2Proof.Machine

namespace Sys2Proof

def EnergyBand.encode (b : EnergyBand) : List Byte := Machine.beBytes 4 b.kwh ++ Machine.beBytes 2 b.wh

end Sys2Proof

namespace Sys2Proof.Machine

/-- The account record, 71 bytes (R134, R178). -/
def Account.encode (slot : Fin 64) (a : Account) (now : Time) : List Byte :=
  let base := a.baseline.getD ⟨0, 0, 0⟩
  let copy := a.closed.getD ⟨⟨0, 0⟩, ⟨0, 0⟩, 0⟩
  let fin := a.final.getD ⟨⟨0, 0⟩, ⟨0, 0⟩⟩
  beBytes 1 slot.val ++ beBytes 4 a.number ++ beBytes 1 a.station ++ beBytes 1 a.zone.number ++
  beBytes 3 a.flowLimit ++ beBytes 1 a.state.code ++
  [byteOfFlags false false false a.final.isSome a.closed.isSome a.lastReading.isSome
    a.baseline.isSome a.damaged] ++
  [a.marks.toByte] ++ beBytes 4 base.volume ++ beInt 2 base.flowTemp ++ beInt 2 base.returnTemp ++
  beBytes 4 (match a.lastReading with | some t => elapsedMs now t | none => 0) ++
  beBytes 3 a.residue ++ a.recovered.encode ++ a.fired.encode ++ beBytes 1 a.gaps ++
  beBytes 1 a.implausibles ++ beBytes 1 a.reverses ++ copy.recovered.encode ++ copy.fired.encode ++
  beBytes 4 copy.number ++ fin.recovered.encode ++ fin.fired.encode

/-- The run summary, 38 bytes (R74, R178). -/
def Engine.encode (e : Engine) : List Byte :=
  beBytes 1 e.run.isSome.toNat ++ beBytes 2 e.runNumber ++ beBytes 2 e.lastCompleted ++
  [byteOfFlags false false false false false false e.short e.rerunPending] ++
  e.lastPools.encode3 ++ e.surplus.encode3 ++ beBytes 3 e.setpoint ++ beBytes 2 e.coverage.z1 ++
  beBytes 2 e.coverage.z2 ++ beBytes 2 e.coverage.z3 ++ beBytes 2 e.coverage.z4 ++
  beBytes 3 e.exportEstimate

/-- Time left in ms of a period of `length` seconds begun at `start`, 0 once its end is reached (R145;
assumption log 23 for the modular base). -/
def remainingMs (start : Time) (length : Nat) (at_ : Time) : Nat :=
  length * 1000 - elapsedMs at_ start

/-- The settlement record, 62 bytes (R149, R178). -/
def Settlement.encode (e : Settlement) (now : Time) : List Byte :=
  let flags (gap carried proj : Bool) : List Byte :=
    [byteOfFlags false false false false false proj carried gap]
  let cur : List Byte := match e.current with
    | some c => beBytes 4 c.number ++ beBytes 3 c.declared ++ beBytes 4 (elapsedMs now c.start) ++
        beBytes 4 (remainingMs c.start c.length now) ++ beBytes 2 c.length ++ beBytes 6 c.delivered ++
        beBytes 6 (c.projection.getD 0) ++ flags c.gap c.carried c.projection.isSome
    | none => List.replicate 30 0
  let nxt : List Byte := match e.next with
    | some d => beBytes 4 d.number ++ beBytes 3 d.declared
    | none => List.replicate 7 0
  let lst : List Byte := match e.lastClosed with
    | some c => beBytes 4 c.number ++ beBytes 3 c.declared ++ beBytes 6 c.delivered ++
        beInt 6 c.deviation ++ beBytes 1 c.outcome.code ++ flags c.gap c.carried false
    | none => List.replicate 21 0
  beBytes 1 e.current.isSome.toNat ++
  [byteOfFlags false false false false e.lastClosed.isSome e.next.isSome e.current.isSome e.silent] ++
  cur ++ nxt ++ lst ++ beBytes 2 e.outOfBand

def SourceRecord.encode (r : SourceRecord) : List Byte :=
  beBytes 1 r.address ++ beBytes 1 r.reading.code ++ beBytes 3 r.flow ++ beBytes 2 r.ncv ++
    beBytes 3 r.availability

def HolderRecord.encode (h : HolderRecord) : List Byte :=
  beBytes 1 h.address ++ beBytes 1 h.reading.code ++ beBytes 2 h.level ++ beBytes 1 h.band.code ++
    markByte h.belowTrip ++ markByte h.aboveTrip ++ beBytes 3 h.draw

/-- The response of READ SUPPLY (R16). -/
def Supply.encode (m : Supply) (h : HolderSettings) : List Byte :=
  m.sources.cvg.encode ++ m.sources.bfg.encode ++ m.sources.cog.encode ++ m.holder.encode ++
    beBytes 3 h.dNom ++ beBytes 3 h.dMax

/-- Whole seconds to a timer's expiry, rounded up, 0 for a timer that is due (R89). -/
def secondsLeft (expiry now : Time) : Nat :=
  let d := elapsedMs expiry now
  if d < 2147483648 then ceilDiv d 1000 else 0

/-- One monitor of READ FAULTS (R89). -/
def MonitorRecord.encode (m : MonitorRecord) (mode : FaultMode) (now : Time) : List Byte :=
  beBytes 1 mode.code ++ markByte m.raw ++ markByte m.latched ++ markByte m.hold ++
    beBytes 1 m.timer.isSome.toNat ++
    beBytes 2 (match m.timer with | some e => secondsLeft e now | none => 0)

def GasLimits.encode (l : GasLimits) : List Byte :=
  beBytes 2 l.ncvMin ++ beBytes 2 l.ncvMax ++ beBytes 3 l.flowMax

/-- Every parameter but the poll list, in the order of the parameter codes (R170, R176). -/
def Settings.encode (c : Settings) : List Byte :=
  beBytes 2 c.dispatchInterval ++ c.limits.cvg.encode ++ c.limits.bfg.encode ++ c.limits.cog.encode ++
  beBytes 2 c.holder.lLo ++ beBytes 2 c.holder.lHi ++ beBytes 1 c.holder.hyst ++
  beBytes 3 c.holder.dNom ++ beBytes 3 c.holder.dMax ++ beBytes 2 c.holder.tripLow ++
  beBytes 2 c.holder.tripHigh ++ (c.modes.toList.map FaultMode.code).flatMap (beBytes 1) ++
  beBytes 2 c.retryTime ++ beBytes 1 c.roles.gas.cvg ++ beBytes 1 c.roles.gas.bfg ++
  beBytes 1 c.roles.gas.cog ++ beBytes 1 c.roles.holder ++ beBytes 1 c.roles.export_ ++
  beBytes 1 c.replyTimeout ++ beBytes 1 c.staleThreshold ++ beBytes 2 c.periodLength ++
  beBytes 1 c.tolerance ++ beBytes 3 c.boostStep ++ beBytes 3 c.boostMax ++ beBytes 3 c.exportLimit ++
  beBytes 3 c.stationLoad ++ beBytes 2 c.linkTimeout ++ beBytes 2 c.alertMask.toNat ++
  beBytes 1 c.bandSide.code ++ beBytes 1 c.bandSize ++ beBytes 1 c.lockMode.code

/-- The response of READ RESET CAUSE (R172). -/
def ResetRecord.encode (r : ResetRecord) : List Byte :=
  beBytes 1 r.cause.code ++ markByte r.standalone ++ markByte r.runInFlight ++ markByte r.saveInFlight

/-- What the part shifts out after the status byte: result, length, payload, check byte (R161). -/
def Reply.encode (r : Reply) : List Byte :=
  let body := beBytes 1 r.code.code ++ beBytes 1 r.payload.length ++ r.payload
  body ++ [body.foldl (· ^^^ ·) 0]

end Sys2Proof.Machine
end

