-- ==== Sys2Proof/Machine/Ops.lean ====
section
/-! DEFINITION. The named operations the meanings share: reading and writing the tables, the stored records,
the protected band, timers, and how the link takes a frame and places its response. -/

namespace Sys2Proof.Machine

/-! ## Tables -/

def setAt {α : Type} {n : Nat} (v : Vector α n) (i : Fin n) (x : α) : Vector α n :=
  v.set i.val x i.isLt

def mapTable {α β : Type} {n : Nat} (f : α → β) (v : Vector α n) : Vector β n :=
  ⟨(v.toList.map f).toArray, by simp⟩

/-- The 48 slots of the offtake table, lowest first. -/
def slots48 : List (Fin 48) := List.finRange 48

/-- The 64 slots of the account table, lowest first. -/
def slots64 : List (Fin 64) := List.finRange 64

/-- A value saturated into lo..hi. -/
def saturate (lo hi v : Nat) : Nat := max lo (min hi v)

/-- A counter increased by 1 that stays at `top` (R82, R103, R119). -/
def bump (top n : Nat) : Nat := min top (n + 1)

/-! ## Timers -/

/-- A timer started now for a period in seconds; a period of 0 leaves it stopped (R50, R151). -/
def secondsTimer (now : Time) (secs : Nat) : Option Time :=
  if secs = 0 then none else some (after now (secs * 1000))

/-- A running timer whose expiry has been reached (log 3: within half of the modular base). -/
def isDue (t : Option Time) (now : Time) : Bool :=
  match t with
  | some e => decide (elapsedMs now e < 2147483648)
  | none => false

/-- The moment at which a timer that runs to `expiry` expires: the internal base stands at the expiry, or
where it was when that had been passed (assumption log 2). -/
def State.atExpiry (s : State) (expiry : Time) : State :=
  if isDue (some expiry) s.now then s else { s with now := expiry }

/-! ## Offtake entries and their stored records -/

def State.entry (s : State) (i : Fin 48) : Option Offtake := s.ot.entries[i]

/-- Write a live entry; the store is not touched. -/
def State.setEntry (s : State) (i : Fin 48) (e : Option Offtake) : State :=
  { s with ot := { s.ot with entries := setAt s.ot.entries i e } }

/-- The lasting fields of an entry as its stored record holds them (R46). -/
def Offtake.stored (e : Offtake) : StoredOfftake where
  number := e.number
  cls := e.use.cls.code
  zone := e.use.zoneNumber
  yield := e.use.yieldValue
  priority := e.priority
  accepted := e.accepted
  floor := e.floor
  ceiling := e.ceiling
  fallback := e.fallback
  state := e.state.code
  sequence := e.sequence
  damaged := e.damaged

/-- The stored record of a slot (R46); a FREE slot is stored FREE. -/
def storedOfftake (e : Option Offtake) : StoredOfftake :=
  match e with
  | some e => e.stored
  | none => StoredOfftake.free

/-- Write a live entry and its whole stored record with a good check value (R46). -/
def State.writeEntry (s : State) (i : Fin 48) (e : Option Offtake) : State :=
  let t := s.setEntry i e
  { t with store := { t.store with offtakes := setAt t.store.offtakes i ⟨storedOfftake e, true⟩ } }

/-- The slot and entry that hold an offtake number, found among the non-free slots (R21). -/
def State.findOfftake (s : State) (number : Nat) : Option (Fin 48 × Offtake) :=
  if number = 0 then none
  else slots48.findSome? fun i =>
    match s.entry i with
    | some e => if e.number = number then some (i, e) else none
    | none => none

/-! ## The protected band (R36) -/

/-- The band is enforced: the permanent-lock mark is set, or the mode is LINE and LOCK is asserted. -/
def State.bandEnforced (s : State) : Bool :=
  s.ot.permanentLock || (s.settings.lockMode == .line && s.lockLine)

/-- The slots of a band: 0..N−1 on side LOW, 48−N..47 on side HIGH. -/
def bandHolds (side : BandSide) (size : Nat) (i : Fin 48) : Bool :=
  match side with
  | .low => decide (i.val < size)
  | .high => decide (48 - size ≤ i.val)

/-- The slot lies inside the band while the band is enforced. -/
def State.isProtected (s : State) (i : Fin 48) : Bool :=
  s.bandEnforced && bandHolds s.settings.bandSide s.settings.bandSize i

/-! ## Heat accounts and their stored records -/

def State.account (s : State) (i : Fin 64) : Option Account := s.hau.accounts[i]

def State.setAccount (s : State) (i : Fin 64) (a : Option Account) : State :=
  { s with hau := { s.hau with accounts := setAt s.hau.accounts i a } }

/-- Every field of an account but the last reading time, as its stored record holds them (R136). -/
def Account.stored (a : Account) : StoredAccount where
  number := a.number
  station := a.station
  zone := a.zone.number
  flowLimit := a.flowLimit
  state := a.state.code
  damaged := a.damaged
  baseline := a.baseline
  residue := a.residue
  recovered := a.recovered
  fired := a.fired
  gaps := a.gaps
  implausibles := a.implausibles
  reverses := a.reverses
  marks := a.marks
  closed := a.closed
  final := a.final

def storedAccount (a : Option Account) : StoredAccount :=
  match a with
  | some a => a.stored
  | none => StoredAccount.free

/-- Write a live account and its whole stored record (R136). -/
def State.writeAccount (s : State) (i : Fin 64) (a : Option Account) : State :=
  let t := s.setAccount i a
  { t with store := { t.store with accounts := setAt t.store.accounts i ⟨storedAccount a, true⟩ } }

/-- The slot and account that hold an account number; 0 is held by none (R115). -/
def State.findAccount (s : State) (number : Nat) : Option (Fin 64 × Account) :=
  if number = 0 then none
  else slots64.findSome? fun i =>
    match s.account i with
    | some a => if a.number = number then some (i, a) else none
    | none => none

/-- The slot and account bound to a station address (R101, R116); address 0 is bound to none. -/
def State.boundAccount (s : State) (address : Nat) : Option (Fin 64 × Account) :=
  if address = 0 then none
  else slots64.findSome? fun i =>
    match s.account i with
    | some a => if a.station = address then some (i, a) else none
    | none => none

/-- The address is bound to a non-free account. -/
def State.isBound (s : State) (address : Nat) : Bool := (s.boundAccount address).isSome

/-! ## Stations (R100) -/

/-- The record of an address 1..127; no other address has one. -/
def State.station (s : State) (address : Nat) : StationRecord :=
  if address = 0 then StationRecord.blank
  else (s.flc.stations[address - 1]?).getD StationRecord.blank

def State.setStation (s : State) (address : Nat) (r : StationRecord) : State :=
  if h : 1 ≤ address ∧ address ≤ 127 then
    { s with flc := { s.flc with stations := setAt s.flc.stations ⟨address - 1, by omega⟩ r } }
  else s

/-! ## Monitors (R76) -/

def State.monitor (s : State) (m : Monitor) : MonitorRecord := s.fs.monitors[m.index]

def State.setMonitor (s : State) (m : Monitor) (r : MonitorRecord) : State :=
  { s with fs := { s.fs with monitors := setAt s.fs.monitors m.index r } }

def Settings.mode (c : Settings) (m : Monitor) : FaultMode := c.modes[m.index]

/-- The live fault mode of a monitor. -/
def State.mode (s : State) (m : Monitor) : FaultMode := s.settings.mode m

/-! ## The role addresses -/

/-- The five role addresses in the order GAS_CVG, GAS_BFG, GAS_COG, HOLDER, EXPORT. -/
def RoleAddresses.list (r : RoleAddresses) : List Nat :=
  [r.gas.cvg, r.gas.bfg, r.gas.cog, r.holder, r.export_]

/-- A non-zero address that holds one of the five roles. -/
def RoleAddresses.holds (r : RoleAddresses) (address : Nat) : Bool :=
  decide (address ≠ 0) && r.list.contains address

/-! ## The host link -/

/-- What an owner answers to a command, and the state it leaves. -/
structure Answer where
  reply : Reply
  state : State

/-- The command is taken: OK with a payload. -/
def State.ok (s : State) (payload : List Byte) : Answer := ⟨⟨.ok, payload⟩, s⟩

/-- The command is refused with an empty payload and changes nothing (R163). -/
def State.refuse (s : State) (code : ResultCode) : Answer := ⟨⟨code, []⟩, s⟩

/-- Place a response in the response buffer, replacing the one there (R161). -/
def State.respond (s : State) (r : Reply) : State := { s with cl := { s.cl with response := r } }

/-- Chip select rises: nothing more is shifted out (R158). -/
def State.endTransaction (s : State) : State := { s with cl := { s.cl with shiftOut := none } }

/-- The end of a good frame restarts the link-silence timer while the standalone flag is clear
(R152). -/
def State.restartSilence (s : State) : State :=
  if s.cl.standalone then s
  else { s with cl := { s.cl with silence := secondsTimer s.now s.settings.linkTimeout } }

/-- A frame that ends now is taken: a transaction is in progress and start-up is complete (R158,
R166). -/
def State.hearsFrame (s : State) : Bool := s.cl.shiftOut.isSome && !s.startingUp

/-- The transaction's end with a good frame, before its command is handed to an owner: chip select has
risen and the link-silence timer is restarted (R152, R159). -/
def State.frameTaken (s : State) : State := s.endTransaction.restartSilence

/-- Take a good frame at the end of its transaction: the owner's answer goes into the response buffer
(R159). A frame that is not heard is discarded and the buffer is left as it was (R166). -/
def State.takeFrame (s : State) (own : State → Answer) : State :=
  if s.hearsFrame then (own s.frameTaken).state.respond (own s.frameTaken).reply
  else s.endTransaction

/-- The owner's checks behind the refusal of R155: in standalone operation a command not served there
is answered STANDALONE as soon as its code is recognised. -/
def gated (own : State → Answer) (s : State) : Answer :=
  if s.cl.standalone then s.refuse .standalone else own s

/-- A command without payload: any other length is BAD_LENGTH (R163). -/
def bare (payload : List Byte) (own : State → Answer) (s : State) : Answer :=
  if payload.isEmpty then own s else s.refuse .badLength

/-- The bytes the part shifts out in a transaction that begins now: status byte, then the response
buffer as it stands (R161). -/
def State.output (s : State) : List Byte := s.statusByte :: s.cl.response.encode

/-- The byte shifted out for the n-th byte the host clocks, counting from 0; 0x00 after the check byte
(R161). -/
def Link.outByte (l : Link) (n : Nat) : Byte := ((l.shiftOut.getD [])[n]?).getD 0

end Sys2Proof.Machine
end

