-- ==== Sys2Proof/Machine/Allocation.lean ====
section
/-! DEFINITION. The Allocation Engine (chapter 3): requests, run start, the two passes, completion, released
energy, flare energy, aborts, and the commands and events it owns. -/

namespace Sys2Proof.Machine

/-! ## Run start (R52, R53) -/

def State.restartDispatch (s : State) : State :=
  { s with ae := { s.ae with dispatch := secondsTimer s.now s.settings.dispatchInterval } }

/-- The run need of an entry (R28, R53). -/
def Offtake.runNeed (e : Offtake) (standalone : Bool) : Nat :=
  if standalone then min e.fallback e.ceiling else min (e.demand + e.boost) e.ceiling

/-- A participant's run part at run start (R53). -/
def Offtake.runPart (e : Offtake) (slot : Fin 48) (standalone : Bool) : RunPart where
  slot := slot
  sequence := e.sequence
  priority := e.priority
  accepted := e.accepted
  need := e.runNeed standalone
  floor := min e.floor (e.runNeed standalone)
  grant := ⟨0, 0, 0⟩
  short := false
  released := false

/-- `a` is served no later than `b`: by ascending priority, then ascending admission sequence (R55). -/
def RunPart.noLater (a b : RunPart) : Bool :=
  decide (a.priority < b.priority) || (decide (a.priority = b.priority) && decide (a.sequence ≤ b.sequence))

def insertPart (p : RunPart) : List RunPart → List RunPart
  | [] => [p]
  | q :: qs => if p.noLater q then p :: q :: qs else q :: insertPart p qs

/-- Run parts put in the order in which the passes serve them. -/
def inServiceOrder (ps : List RunPart) : List RunPart := ps.foldr insertPart []

/-- The entry is counted by a run that starts now (R52, step 6). -/
def Offtake.takesPart (e : Offtake) : Bool := e.state == .pending || e.state == .active

def State.participants (s : State) : List RunPart :=
  inServiceOrder (slots48.filterMap fun i =>
    match s.entry i with
    | some e => if e.takesPart then some (e.runPart i s.cl.standalone) else none
    | none => none)

def State.retiringSlots (s : State) : List (Fin 48) :=
  slots48.filter fun i =>
    match s.entry i with
    | some e => e.state == .retiring
    | none => false

/-- The pool of a source: its availability while admitted, 0 while withdrawn (R52, step 4). -/
def State.pool (s : State) (src : Source) : Nat :=
  match s.fs.admission.get src with
  | .admitted => (s.sm.sources.get src).availability
  | .withdrawn => 0

def State.poolsNow (s : State) : PerSource Nat := ⟨s.pool .cvg, s.pool .bfg, s.pool .cog⟩

/-- The picture a run that starts now takes (R52, steps 4 to 7). -/
def State.runPicture (s : State) : Run where
  pools := s.poolsNow
  startPools := s.poolsNow
  ncvAtStart := s.sm.sources.cvg.ncv
  standaloneAtStart := s.cl.standalone
  retiring := s.retiringSlots
  parts := s.participants

/-- The number of the next run: never 0 (R52, step 2). -/
def nextRunNumber (n : Nat) : Nat := if 65535 ≤ n then 1 else n + 1

/-- A run starts (R52). -/
def State.startRun (s : State) : State :=
  { s with ae := { s.ae with
      run := some s.runPicture
      runNumber := nextRunNumber s.ae.runNumber
      dispatch := secondsTimer s.now s.settings.dispatchInterval } }

/-- A request for a run reaches the engine (R49). -/
def State.requestRun (s : State) : State :=
  if s.nvs.settingsFault then s
  else match s.ae.run with
    | none => s.startRun
    | some _ => { s with ae := { s.ae with rerunPending := true } }

/-! ## Flare energy (R69, R70) -/

/-- One gas over `ms` milliseconds: the new total and the new residue. -/
def flareStep (surplus ms total residue : Nat) : Nat × Nat :=
  let x := surplus * ms + residue
  (min Config.maxFlare (total + x / Config.kwhMs), x % Config.kwhMs)

def Engine.flareRecord (e : Engine) : FlareRecord := ⟨e.flareTotal, e.flareResidue⟩

/-- Write the flare record (R70). -/
def State.writeFlare (s : State) : State :=
  { s with store := { s.store with flare := ⟨s.ae.flareRecord, true⟩ } }

/-- An integration point: both gases are integrated over the time since the last one, the timer is
restarted, and the flare record is written when any of its values changed (R69, R70). -/
def State.integrateFlare (s : State) : State :=
  let ms := elapsedMs s.now s.ae.flarePoint
  let b := flareStep s.ae.surplus.bfg ms s.ae.flareTotal.bfg s.ae.flareResidue.bfg
  let c := flareStep s.ae.surplus.cog ms s.ae.flareTotal.cog s.ae.flareResidue.cog
  let t : State := { s with ae := { s.ae with
    flareTotal := ⟨b.1, c.1⟩
    flareResidue := ⟨b.2, c.2⟩
    flarePoint := s.now
    flareTimer := some (after s.now Config.kwhMs) } }
  if t.ae.flareRecord = s.ae.flareRecord then t else t.writeFlare

/-- BFG or COG surplus was 0 before and is greater than 0 after (R65, R67). -/
def flareStarts (before after_ : PerSource Nat) : Bool :=
  (before.bfg == 0 && decide (0 < after_.bfg)) || (before.cog == 0 && decide (0 < after_.cog))

/-! ## Pass F: floors (R55) -/

def RunPart.total (p : RunPart) : Nat := p.grant.cvg + p.grant.bfg + p.grant.cog

/-- The run need less the running grant total (R53). -/
def RunPart.remaining (p : RunPart) : Nat := p.need - p.total

/-- Add to the running grant for a source. -/
def RunPart.give (p : RunPart) (src : Source) (kw : Nat) : RunPart :=
  { p with grant := p.grant.put src (p.grant.get src + kw) }

/-- Pools left, and a participant being served from them. -/
abbrev Serving := PerSource Nat × RunPart

/-- Grant towards the floor from one source. -/
def floorFrom (w : Serving) (src : Source) : Serving :=
  if w.2.accepted.has src then
    let kw := min (w.2.floor - w.2.total) (w.1.get src)
    (w.1.put src (w.1.get src - kw), w.2.give src kw)
  else w

/-- Serve one participant's floor and set its SHORT mark when it is not met. -/
def serveFloor (pools : PerSource Nat) (p : RunPart) : Serving :=
  let w := floorFrom (floorFrom (floorFrom (pools, p) .cvg) .bfg) .cog
  (w.1, { w.2 with short := w.2.short || decide (w.2.total < w.2.floor) })

/-- Pass F over the participants in service order. -/
def passF (pools : PerSource Nat) : List RunPart → PerSource Nat × List RunPart
  | [] => (pools, [])
  | p :: ps =>
    let w := serveFloor pools p
    let r := passF w.1 ps
    (r.1, w.2 :: r.2)

/-! ## Pass S: shares (R56, R57) -/

/-- Membership of the eligible set of a priority and a source. -/
def RunPart.eligible (p : RunPart) (prio : Nat) (src : Source) : Bool :=
  decide (p.priority = prio) && p.accepted.has src && decide (0 < p.remaining)

/-- N: the sum of the remaining needs of the eligible set. -/
def sumNeed (prio : Nat) (src : Source) (ps : List RunPart) : Nat :=
  ((ps.filter fun p => p.eligible prio src).map RunPart.remaining).sum

/-- A member's share of a short pool, before the odd kilowatts (R57). -/
def RunPart.share (p : RunPart) (pool n : Nat) : Nat := p.remaining * pool / n

def sumShares (prio : Nat) (src : Source) (pool n : Nat) (ps : List RunPart) : Nat :=
  ((ps.filter fun p => p.eligible prio src).map fun p => p.share pool n).sum

/-- Give every member its whole remaining need. -/
def giveWhole (prio : Nat) (src : Source) (ps : List RunPart) : List RunPart :=
  ps.map fun p => if p.eligible prio src then p.give src p.remaining else p

/-- Give every member its share, and 1 kW more to each of the first `k` members (R57). -/
def giveShares (prio : Nat) (src : Source) (pool n : Nat) : Nat → List RunPart → List RunPart
  | _, [] => []
  | k, p :: ps =>
    if p.eligible prio src then
      p.give src (p.share pool n + (if 0 < k then 1 else 0)) :: giveShares prio src pool n (k - 1) ps
    else p :: giveShares prio src pool n k ps

/-- The engine's one act for a priority and a source (R56). -/
def shareSource (w : PerSource Nat × List RunPart) (prio : Nat) (src : Source) :
    PerSource Nat × List RunPart :=
  let pool := w.1.get src
  let n := sumNeed prio src w.2
  if n = 0 ∨ pool = 0 then w
  else if n ≤ pool then (w.1.put src (pool - n), giveWhole prio src w.2)
  else (w.1.put src 0,
    giveShares prio src pool n (pool - sumShares prio src pool n w.2) w.2)

/-- The sources of one priority, in the order CVG, BFG, COG. -/
def sharePriority (w : PerSource Nat × List RunPart) (prio : Nat) : PerSource Nat × List RunPart :=
  shareSource (shareSource (shareSource w prio .cvg) prio .bfg) prio .cog

/-- Pass S: the priorities 0 to 7 in turn. -/
def passS (w : PerSource Nat × List RunPart) : PerSource Nat × List RunPart :=
  [0, 1, 2, 3, 4, 5, 6, 7].foldl sharePriority w

/-- Both passes: the pools left and the run parts with their computed grants (R58). -/
def Run.compute (r : Run) : PerSource Nat × List RunPart := passS (passF r.startPools r.parts)

/-! ## Completion (R59 to R65) -/

/-- What a completion does to the live entry of a participant (R59). -/
def Offtake.published (e : Offtake) (p : RunPart) (run : Nat) : Offtake :=
  { e with
    grant := ⟨p.grant, p.short, run⟩
    state := if e.state = .pending then .active else e.state }

/-- Publish one participant's grant, unless it has the released mark. A change from PENDING to ACTIVE
is written to the store (R46, R59). -/
def State.publishPart (s : State) (run : Nat) (p : RunPart) : State :=
  if p.released then s
  else match s.entry p.slot with
    | none => s
    | some e =>
      if e.state = .pending then s.writeEntry p.slot (some (e.published p run))
      else s.setEntry p.slot (some (e.published p run))

/-- Free the slots of the retiring set (R32, R60). -/
def State.freeSlots (s : State) (is : List (Fin 48)) : State :=
  is.foldl (fun t i => t.writeEntry i none) s

/-- Computed grants of one source that go to the surplus (R61). -/
def releasedSum (src : Source) (ps : List RunPart) : Nat :=
  ((ps.filter RunPart.released).map fun p => p.grant.get src).sum

/-- The surplus of R61: the pool that Pass S left, plus the released computed grants. -/
def surplusAfter (left : PerSource Nat) (ps : List RunPart) : PerSource Nat where
  cvg := left.cvg + releasedSum .cvg ps
  bfg := left.bfg + releasedSum .bfg ps
  cog := left.cog + releasedSum .cog ps

/-- The sum of the published CVG grants over all non-free entries (R62). -/
def State.cvgGranted (s : State) : Nat :=
  (slots48.map fun i => match s.entry i with | some e => e.grant.parts.cvg | none => 0).sum

/-- The rate that delivers `kw` of converter gas, rounded up; 0 when the NCV is 0 (R62). -/
def setpointFor (kw ncv : Nat) : Nat := ceilDiv (kw * 3600) ncv

/-- The participant's entry is TOWN_HEAT in zone z. -/
def State.servesZone (s : State) (z : Zone) (p : RunPart) : Bool :=
  match s.entry p.slot with
  | some e => e.use == .townHeat z
  | none => false

/-- The total a completion publishes for a participant: zero under the released mark (R63). -/
def RunPart.publishedTotal (p : RunPart) : Nat := if p.released then 0 else p.total

def State.zoneGrantSum (s : State) (ps : List RunPart) (z : Zone) : Nat :=
  ((ps.filter (s.servesZone z)).map RunPart.publishedTotal).sum

def State.zoneNeedSum (s : State) (ps : List RunPart) (z : Zone) : Nat :=
  ((ps.filter (s.servesZone z)).map RunPart.need).sum

/-- c_z = floor(1000 × G_z / D_z), and 0 when D_z is 0 (R63). -/
def coverageOf (g d : Nat) : Nat := if d = 0 then 0 else 1000 * g / d

def coverages (g d : PerZone Nat) : PerZone Nat :=
  ⟨coverageOf g.z1 d.z1, coverageOf g.z2 d.z2, coverageOf g.z3 d.z3, coverageOf g.z4 d.z4⟩

/-- The yield term of a participant of class POWER (R64). -/
def State.yieldTerm (s : State) (p : RunPart) : Nat :=
  match s.entry p.slot with
  | some e => match e.use with
    | .power y => p.publishedTotal * y / 1000
    | _ => 0
  | none => 0

/-- P_est from W and the live station load (R64). -/
def State.recomputeEstimate (s : State) : State :=
  { s with ae := { s.ae with exportEstimate := s.ae.yieldSum - s.settings.stationLoad } }

/-- The figures a completion recomputes from what it published (R61 to R65), over the state in which
the grants are published and the retiring set is freed. -/
def State.settleFigures (s : State) (r : Run) (left : PerSource Nat) (ps : List RunPart) : State :=
  let g : PerZone Nat := ⟨s.zoneGrantSum ps .z1, s.zoneGrantSum ps .z2, s.zoneGrantSum ps .z3,
    s.zoneGrantSum ps .z4⟩
  let d : PerZone Nat := ⟨s.zoneNeedSum ps .z1, s.zoneNeedSum ps .z2, s.zoneNeedSum ps .z3,
    s.zoneNeedSum ps .z4⟩
  let w := (ps.map s.yieldTerm).sum
  let short := ps.any RunPart.short
  { s with ae := { s.ae with
    run := none
    lastCompleted := s.ae.runNumber
    lastPools := r.startPools
    lastNcv := r.ncvAtStart
    surplus := surplusAfter left ps
    setpoint := setpointFor s.cvgGranted r.ncvAtStart
    zoneGrant := g
    zoneNeed := d
    coverage := coverages g d
    yieldSum := w
    exportEstimate := w - s.settings.stationLoad
    short := short } }

/-- A rerun starts at once when one is pending; the flag is cleared either way (R65). -/
def State.rerunIfPending (s : State) : State :=
  let t : State := { s with ae := { s.ae with rerunPending := false } }
  if s.ae.rerunPending then t.startRun else t

/-- The completion of a run, one event (R59 to R65). -/
def State.completeRun (s : State) (r : Run) : State :=
  let c := r.compute
  let before := s.ae.surplus
  let published := c.2.foldl (fun t p => t.publishPart s.ae.runNumber p) s.integrateFlare
  let freed := published.freeSlots r.retiring
  let settled := freed.settleFigures r c.1 c.2
  ((settled.raiseIf (flareStarts before settled.ae.surplus) .flareStarted).raiseIf settled.ae.short
    .shortfall).rerunIfPending

/-! ## Released energy (R67, R68) -/

/-- Step 5 of R67 for a TOWN_HEAT entry of zone z. -/
def Engine.lowerZone (e : Engine) (z : Zone) (kw : Nat) : Engine :=
  let g := e.zoneGrant.put z (e.zoneGrant.get z - kw)
  { e with
    zoneGrant := g
    coverage := e.coverage.put z (coverageOf (g.get z) (e.zoneNeed.get z)) }

/-- The figures of R67, steps 5 and 6, by the class of the suspended entry. -/
def State.lowerFigures (s : State) (use : Use) (kw : Nat) : State :=
  match use with
  | .townHeat z => { s with ae := s.ae.lowerZone z kw }
  | .power y =>
    State.recomputeEstimate { s with ae := { s.ae with yieldSum := s.ae.yieldSum - kw * y / 1000 } }
  | _ => s

/-- The engine takes the released amounts of a suspension (R67). The entry's grant is zero already. -/
def State.takeReleased (s : State) (use : Use) (g : Grant) : State :=
  let t := s.integrateFlare
  let before := t.ae.surplus
  let after_ : PerSource Nat :=
    ⟨before.cvg + g.parts.cvg, before.bfg + g.parts.bfg, before.cog + g.parts.cog⟩
  let u : State := { t with ae := { t.ae with surplus := after_ } }
  let v := u.raiseIf (flareStarts before after_) .flareStarted
  let w : State := { v with ae := { v.ae with setpoint := setpointFor v.cvgGranted v.ae.lastNcv } }
  w.lowerFigures use g.total

/-- The suspended entry is a participant of the run in flight: its run part takes the released mark
(R68). -/
def Run.release (r : Run) (slot : Fin 48) : Run :=
  { r with parts := r.parts.map fun p => if p.slot = slot then { p with released := true } else p }

def State.markReleased (s : State) (slot : Fin 48) : State :=
  { s with ae := { s.ae with run := s.ae.run.map fun r => r.release slot } }

/-- The entry of a slot is a participant of the run in flight (R42). -/
def State.isParticipant (s : State) (slot : Fin 48) : Bool :=
  match s.ae.run with
  | some r => r.parts.any fun p => decide (p.slot = slot)
  | none => false

/-! ## Aborts (R72) -/

/-- The run in flight is discarded without publication. -/
def State.abortRun (s : State) : State :=
  let t := s.integrateFlare
  State.raise { t with ae := { t.ae with run := none } } .runAborted

/-- A withdrawal reaches the engine: it aborts a run in flight and starts a new one; in IDLE it starts
a run; under the settings-fault condition it is discarded (R49, R72, R87). -/
def State.withdrawalAtEngine (s : State) : State :=
  if s.nvs.settingsFault then s
  else match s.ae.run with
    | none => s.startRun
    | some _ =>
      let t := s.abortRun
      State.startRun { t with ae := { t.ae with rerunPending := false } }

/-! ## Commands and events -/

/-- START RUN (R51). -/
def startRunCommand (s : State) : Answer :=
  if s.nvs.settingsFault then s.refuse .settingsFault
  else ⟨⟨if s.ae.run.isSome then .queued else .ok, []⟩, s.requestRun⟩

def execStartRun (payload : List Byte) (s : State) : Host.Outcome State Fault Refusal :=
  .next (s.takeFrame (gated (bare payload startRunCommand)))

/-- ABORT RUN (R73). A dispatch timer that stands stopped after an expiry is restarted. -/
def abortRunCommand (s : State) : Answer :=
  if s.nvs.settingsFault then s.refuse .wrongState
  else match s.ae.run with
    | none => s.refuse .wrongState
    | some _ =>
      let t := s.abortRun
      let u : State := { t with ae := { t.ae with rerunPending := false } }
      State.ok (if u.ae.dispatch.isNone then u.restartDispatch else u) []

def execAbortRun (payload : List Byte) (s : State) : Host.Outcome State Fault Refusal :=
  .next (s.takeFrame (gated (bare payload abortRunCommand)))

/-- READ RUN SUMMARY (R74). -/
def execReadRunSummary (payload : List Byte) (s : State) : Host.Outcome State Fault Refusal :=
  .next (s.takeFrame (bare payload fun t => t.ok t.ae.encode))

/-- The response of READ FLARE TOTALS (R71). -/
def Engine.encodeFlare (e : Engine) : List Byte :=
  beBytes 4 e.flareTotal.bfg ++ beBytes 4 e.flareTotal.cog ++ beBytes 3 e.surplus.bfg ++
    beBytes 3 e.surplus.cog ++ beBytes 2 e.lastCompleted

/-- READ FLARE TOTALS (R71): option 0 reads, option 1 reads and zeroes. In standalone operation R155 serves
option 0 and refuses option 1, and names no other form; that a wrong length or another option is then
answered BAD_LENGTH or BAD_VALUE is the model's choice (assumption log 35). -/
def readFlareCommand (payload : List Byte) (s : State) : Answer :=
  match splitFields [1] payload with
  | some [option] =>
    if 1 < option then s.refuse .badValue
    else if option = 1 ∧ s.cl.standalone then s.refuse .standalone
    else
      let t := s.integrateFlare
      if option = 0 then t.ok t.ae.encodeFlare
      else
        let z : State := { t with ae := { t.ae with flareTotal := ⟨0, 0⟩ } }
        z.writeFlare.ok t.ae.encodeFlare
  | _ => s.refuse .badLength

def execReadFlareTotals (payload : List Byte) (s : State) : Host.Outcome State Fault Refusal :=
  .next (s.takeFrame (readFlareCommand payload))

/-- The dispatch timer expires (R50): a request, or a restart while the settings-fault condition
stands. -/
def execDispatchTimerExpiry (s : State) : Host.Outcome State Fault Refusal :=
  .next (match s.ae.dispatch with
    | none => s
    | some e =>
      if s.nvs.settingsFault then (s.atExpiry e).restartDispatch
      else State.requestRun { s.atExpiry e with ae := { s.ae with dispatch := none } })

/-- The run in flight completes (R65). -/
def execRunCompletion (s : State) : Host.Outcome State Fault Refusal :=
  .next (match s.ae.run with
    | none => s
    | some r => s.completeRun r)

/-- The flare timer expires (R69). -/
def execFlareTimerExpiry (s : State) : Host.Outcome State Fault Refusal :=
  .next (match s.ae.flareTimer with
    | none => s
    | some e => (s.atExpiry e).integrateFlare)

end Sys2Proof.Machine
end

