-- ==== Sys2Proof/Machine/Supervisor.lean ====
section
/-! DEFINITION. The Fault Supervisor (chapter 4): the evaluation of a monitor, its fault mode, admission of a
source, and the commands and events of monitors and alert flags. -/

namespace Sys2Proof.Machine

/-! ## Appearance and disappearance of a condition (R82, R84) -/

/-- The retry timer's expiry when it starts now (R84). -/
def State.retryExpiry (s : State) : Time := after s.now (s.settings.retryTime * 1000)

/-- The record after the condition appears, by the mode (R82). -/
def MonitorRecord.appear (m : MonitorRecord) (mode : FaultMode) : MonitorRecord :=
  let n := { m with raw := true, counter := bump 255 m.counter }
  match mode with
  | .off => n
  | .report => { n with latched := true }
  | .latch => { n with latched := true, hold := true, timer := none }
  | .retry => { n with latched := true, hold := true, timer := none }

/-- The record after the condition goes absent: a held RETRY monitor starts its timer (R82, R84). -/
def MonitorRecord.disappear (m : MonitorRecord) (mode : FaultMode) (expiry : Time) : MonitorRecord :=
  let n := { m with raw := false }
  if mode = .retry ∧ m.hold = true then { n with timer := some expiry } else n

/-- Evaluate a monitor against its condition; only a change acts (R78 to R82). -/
def State.evaluate (s : State) (m : Monitor) (present : Bool) : State :=
  let r := s.monitor m
  match r.raw, present with
  | false, true =>
    (s.setMonitor m (r.appear (s.mode m))).raiseIf (decide (s.mode m ≠ .off)) .sourceFault
  | true, false => s.setMonitor m (r.disappear (s.mode m) s.retryExpiry)
  | _, _ => s

/-! ## Admission (R87) -/

/-- The monitors that act on the admission of a source (R76, R87). -/
def actingOn : Source → List Monitor
  | .cvg => [.gas .cvg .ncvLow, .gas .cvg .ncvHigh, .gas .cvg .flowHigh, .gas .cvg .stale,
      .levelLowTrip, .levelHighTrip, .holderStale]
  | .bfg => [.gas .bfg .ncvLow, .gas .bfg .ncvHigh, .gas .bfg .flowHigh, .gas .bfg .stale]
  | .cog => [.gas .cog .ncvLow, .gas .cog .ncvHigh, .gas .cog .flowHigh, .gas .cog .stale]

/-- Some monitor acting on the source holds it withdrawn. -/
def State.anyHold (s : State) (src : Source) : Bool :=
  (actingOn src).any fun m => (s.monitor m).hold

def State.setAdmission (s : State) (src : Source) (a : Admission) : State :=
  { s with fs := { s.fs with admission := s.fs.admission.put src a } }

/-- Settle a source's admission from its holds, and hand a change to the engine (R87). -/
def State.settle (s : State) (src : Source) : State :=
  match s.fs.admission.get src, s.anyHold src with
  | .admitted, true => (s.setAdmission src .withdrawn).withdrawalAtEngine
  | .withdrawn, false => (s.setAdmission src .admitted).requestRun
  | _, _ => s

/-- Settle every source once, in the order CVG, BFG, COG (assumption log 19). -/
def State.settleAll (s : State) : State := ((s.settle .cvg).settle .bfg).settle .cog

/-- The source a monitor acts on (R76). -/
def actsOn : Monitor → Source
  | .gas src _ => src
  | _ => .cvg

/-! ## Evaluation at reports and role changes (R78 to R81) -/

/-- The NCV and flow monitors of a source against its record, in order (R78). -/
def State.evaluateGas (s : State) (src : Source) : State :=
  let r := s.sm.sources.get src
  let l := s.settings.limits.get src
  ((s.evaluate (.gas src .ncvLow) (decide (r.ncv < l.ncvMin))).evaluate
    (.gas src .ncvHigh) (decide (l.ncvMax < r.ncv))).evaluate
    (.gas src .flowHigh) (decide (l.flowMax < r.flow))

/-- The trip monitors from the trip marks (R79). -/
def State.evaluateTrips (s : State) : State :=
  (s.evaluate .levelLowTrip s.sm.holder.belowTrip).evaluate .levelHighTrip s.sm.holder.aboveTrip

/-- The station at an address is STALE; address 0 names none (R81). -/
def State.isStale (s : State) (address : Nat) : Bool :=
  decide (address ≠ 0) && (s.station address).state == .stale

/-- Re-evaluation of a gas target whose role address changed (R81). -/
def State.reevaluateGas (s : State) (src : Source) : State :=
  (((s.evaluate (.gas src .ncvLow) false).evaluate (.gas src .ncvHigh) false).evaluate
    (.gas src .flowHigh) false).evaluate (.gas src .stale) (s.isStale (s.settings.roles.gas.get src))

/-- Re-evaluation of the holder whose role address changed (R81). -/
def State.reevaluateHolder (s : State) : State :=
  ((s.evaluate .levelLowTrip false).evaluate .levelHighTrip false).evaluate .holderStale
    (s.isStale s.settings.roles.holder)

/-! ## Change of a fault mode (R85) -/

/-- The record set for a new mode from its state at that moment (R85). -/
def MonitorRecord.forMode (m : MonitorRecord) (mode : FaultMode) (expiry : Time) : MonitorRecord :=
  match mode, m.raw with
  | .off, _ => { m with hold := false, timer := none }
  | .report, _ => { m with hold := false, timer := none }
  | .latch, true => { m with latched := true, hold := true, timer := none }
  | .latch, false => { m with timer := none }
  | .retry, true => { m with latched := true, hold := true, timer := none }
  | .retry, false => if m.hold then { m with timer := some expiry } else { m with timer := none }

/-- A mode change that latches a flag that was clear sets SOURCE_FAULT (R85). -/
def MonitorRecord.latchesAnew (m : MonitorRecord) (mode : FaultMode) : Bool :=
  m.raw && !m.latched && (mode == .latch || mode == .retry)

def State.changeMode (s : State) (m : Monitor) : State :=
  let r := s.monitor m
  (s.setMonitor m (r.forMode (s.mode m) s.retryExpiry)).raiseIf (r.latchesAnew (s.mode m)) .sourceFault

/-- LEVEL_HIGH_TRIP takes OFF and REPORT; LATCH and RETRY are stored as REPORT (R86). -/
def storedMode (m : Monitor) (mode : FaultMode) : FaultMode :=
  match m, mode with
  | .levelHighTrip, .latch => .report
  | .levelHighTrip, .retry => .report
  | _, mode => mode

/-- The owner's changes at the supervisor when new settings have been written over `old`: first the
targets whose role address changed (R81), then the monitors whose mode changed (R85). The admission of
each source is settled once behind all the changes of the command (R85, R87; `State.applySettings`). -/
def State.superviseChange (s : State) (old : Settings) : State :=
  let gas := Source.all.foldl (fun t src =>
    if t.settings.roles.gas.get src ≠ old.roles.gas.get src then t.reevaluateGas src else t) s
  let holder := if gas.settings.roles.holder ≠ old.roles.holder then gas.reevaluateHolder else gas
  Monitor.all.foldl (fun t m => if t.mode m ≠ old.mode m then t.changeMode m else t) holder

/-! ## CLEAR FAULTS (R88) -/

/-- The record after a clear, by its raw condition and mode (R88). -/
def MonitorRecord.clear (m : MonitorRecord) (mode : FaultMode) : MonitorRecord :=
  match m.raw, mode with
  | false, _ => { m with latched := false, hold := false, timer := none }
  | true, .off => { m with latched := false }
  | true, .report => { m with latched := true }
  | true, .latch => { m with latched := true }
  | true, .retry => { m with latched := true }

/-- The clear finds the condition present under a mode that latches again (R88). -/
def State.relatches (s : State) (m : Monitor) : Bool :=
  (s.monitor m).raw && s.mode m != .off

def State.clearMonitor (s : State) (m : Monitor) : State :=
  (s.setMonitor m ((s.monitor m).clear (s.mode m))).raiseIf (s.relatches m) .sourceFault

/-- The monitors a payload of CLEAR FAULTS names; `none` answers the refusal it carries (R88, R175;
assumption log 16). -/
def namedMonitors (payload : List Byte) : Except ResultCode (List Monitor) :=
  match payload with
  | [b] => if b.toNat = anyCode then .ok Monitor.all else .error .badValue
  | p =>
    match monitorCodes p with
    | none => .error .badLength
    | some l =>
      if l.length = 0 ∨ 15 < l.length then .error .badValue
      else match l.mapM (fun c => Monitor.ofCodes c.1 c.2) with
        | some ms => .ok ms
        | none => .error .badValue

def clearFaultsCommand (payload : List Byte) (s : State) : Answer :=
  match namedMonitors payload with
  | .error c => s.refuse c
  | .ok ms =>
    let n := (Monitor.all.filter fun m => ms.contains m && s.relatches m).length
    let cleared := ms.foldl State.clearMonitor s
    let settled := Source.all.foldl (fun t src =>
      if ms.any (fun m => actsOn m == src) then t.settle src else t) cleared
    settled.ok (beBytes 1 n)

def execClearFaults (payload : List Byte) (s : State) : Host.Outcome State Fault Refusal :=
  .next (s.takeFrame (gated (clearFaultsCommand payload)))

/-! ## Reading the supervisor (R89, R90) -/

/-- The response of READ FAULTS (R89). -/
def State.encodeFaults (s : State) : List Byte :=
  (Monitor.all.flatMap fun m => (s.monitor m).encode (s.mode m) s.now) ++
    (Source.all.flatMap fun src => beBytes 1 (s.fs.admission.get src).code)

def execReadFaults (payload : List Byte) (s : State) : Host.Outcome State Fault Refusal :=
  .next (s.takeFrame (bare payload fun t => t.ok t.encodeFaults))

/-- READ COUNTERS returns the fifteen counters and zeroes them (R90). -/
def readCountersCommand (s : State) : Answer :=
  State.ok { s with fs := { s.fs with
      monitors := mapTable (fun m => { m with counter := 0 }) s.fs.monitors } }
    (Monitor.all.flatMap fun m => beBytes 1 (s.monitor m).counter)

def execReadCounters (payload : List Byte) (s : State) : Host.Outcome State Fault Refusal :=
  .next (s.takeFrame (bare payload readCountersCommand))

/-! ## The alert flags (R91 to R94) -/

/-- READ ALERT (R93). -/
def execReadAlert (payload : List Byte) (s : State) : Host.Outcome State Fault Refusal :=
  .next (s.takeFrame (bare payload fun t =>
    t.ok (beBytes 2 t.fs.alerts.toNat ++ beBytes 2 t.settings.alertMask.toNat ++ markByte t.alertLine)))

/-- CLEAR ALERT returns the flags as they stood and clears those marked (R93). -/
def clearAlertCommand (payload : List Byte) (s : State) : Answer :=
  match splitFields [2] payload with
  | some [marks] =>
    State.ok { s with fs := { s.fs with alerts := s.fs.alerts &&& ~~~(BitVec.ofNat 12 marks) } }
      (beBytes 2 s.fs.alerts.toNat)
  | _ => s.refuse .badLength

def execClearAlert (payload : List Byte) (s : State) : Host.Outcome State Fault Refusal :=
  .next (s.takeFrame (clearAlertCommand payload))

/-- SET ALERT MASK (R94). It sets the unsaved mark also when the mask equals the live one (assumption log
40). -/
def setAlertMaskCommand (payload : List Byte) (s : State) : Answer :=
  match splitFields [2] payload with
  | some [marks] =>
    if s.nvs.saving.isSome then s.refuse .busy
    else State.ok { s with
      settings := { s.settings with alertMask := BitVec.ofNat 12 marks }
      nvs := { s.nvs with unsaved := true } } []
  | _ => s.refuse .badLength

def execSetAlertMask (payload : List Byte) (s : State) : Host.Outcome State Fault Refusal :=
  .next (s.takeFrame (gated (setAlertMaskCommand payload)))

/-- A monitor's retry timer expires: its hold clears and the source is settled (R84). -/
def execRetryTimerExpiry (m : Monitor) (s : State) : Host.Outcome State Fault Refusal :=
  .next (match (s.monitor m).timer with
    | none => s
    | some e =>
      ((s.atExpiry e).setMonitor m { s.monitor m with hold := false, timer := none }).settle (actsOn m))

end Sys2Proof.Machine
end

