-- ==== Sys2Proof/Machine/Supply.lean ====
section
/-! DEFINITION. The Supply Monitor (chapter 1): gas and holder reports, the holder band and its draw, stale
stations, changed addresses and settings, and READ SUPPLY. -/

namespace Sys2Proof.Machine

/-! ## Source records -/

def State.source (s : State) (src : Source) : SourceRecord := s.sm.sources.get src

def State.setSource (s : State) (src : Source) (r : SourceRecord) : State :=
  { s with sm := { s.sm with sources := s.sm.sources.put src r } }

def State.setHolder (s : State) (h : HolderRecord) : State :=
  { s with sm := { s.sm with holder := h } }

/-- Fuel power in kW of a flow in Nm³/h at an NCV in kJ/Nm³: the product exact, then truncated (R3). -/
def fuelPower (flow ncv : Nat) : Nat := flow * ncv / 3600

/-- A good gas report updates its source record; for CVG the draw takes the place of the flow (R3,
R4). -/
def State.takeGas (s : State) (src : Source) (flow ncv : Nat) : State :=
  let rate := match src with
    | .cvg => s.sm.holder.draw
    | _ => flow
  s.setSource src { s.source src with
    reading := .fresh, flow := flow, ncv := ncv, availability := fuelPower rate ncv }

/-- The converter-gas availability from the draw and the last NCV (R13). -/
def State.recomputeCvg (s : State) : State :=
  s.setSource .cvg { s.source .cvg with
    availability := fuelPower s.sm.holder.draw (s.source .cvg).ncv }

/-- What a STALE station does to a reading state (R2, R6, R15). -/
def ReadingState.onStale : ReadingState → ReadingState
  | .fresh => .held
  | r => r

/-- The station of a source became STALE (R6). -/
def State.holdSource (s : State) (src : Source) : State :=
  s.setSource src { s.source src with reading := (s.source src).reading.onStale }

/-- The holder station became STALE (R15). -/
def State.holdHolder (s : State) : State :=
  s.setHolder { s.sm.holder with reading := s.sm.holder.reading.onStale }

/-! ## The holder band -/

/-- The draw of a band (R13). -/
def drawOf (band : HolderBand) (c : HolderSettings) : Nat :=
  match band with
  | .unknown => 0
  | .low => 0
  | .normal => c.dNom
  | .high => c.dMax

/-- Placement from the level alone (R10). -/
def placeBand (level : Nat) (c : HolderSettings) : HolderBand :=
  if level < c.lLo then .low else if level < c.lHi then .normal else .high

/-- One transition at most, with hysteresis (R11); placement from UNKNOWN (R10). -/
def stepBand (band : HolderBand) (level : Nat) (c : HolderSettings) : HolderBand :=
  match band with
  | .unknown => placeBand level c
  | .low => if c.lLo + c.hyst ≤ level then .normal else .low
  | .normal => if level < c.lLo then .low else if c.lHi ≤ level then .high else .normal
  | .high => if level + c.hyst < c.lHi then .normal else .high

/-- A change of band: draw and availability first, then the request for a run, then HOLDER_BAND
(R12). -/
def State.changeBand (s : State) (band : HolderBand) : State :=
  let t := s.setHolder { s.sm.holder with band := band, draw := drawOf band s.settings.holder }
  (t.recomputeCvg.requestRun).raise .holderBand

/-- A good holder report (R9), up to the handing on to the supervisor. -/
def State.takeHolder (s : State) (level : Nat) : State :=
  let c := s.settings.holder
  let t := s.setHolder { s.sm.holder with
    reading := .fresh, level := level
    belowTrip := decide (level < c.tripLow), aboveTrip := decide (c.tripHigh < level) }
  let band := stepBand s.sm.holder.band level c
  if band = s.sm.holder.band then t else t.changeBand band

/-! ## Changed role addresses and holder settings (R7, R14) -/

/-- A source record follows its role address (R7). -/
def State.followSource (s : State) (src : Source) : State :=
  let a := s.settings.roles.gas.get src
  if a = (s.source src).address then s else s.setSource src (SourceRecord.blank a)

/-- The holder record follows its role address and D_nom, D_max (R14). -/
def State.followHolder (s : State) (old : Settings) : State :=
  let h := s.sm.holder
  let c := s.settings
  if c.roles.holder ≠ h.address then
    let t := s.setHolder (HolderRecord.blank c.roles.holder)
    if h.band = .unknown then t else t.changeBand .unknown
  else if c.holder.dNom ≠ old.holder.dNom ∨ c.holder.dMax ≠ old.holder.dMax then
    (s.setHolder { h with draw := drawOf h.band c.holder }).recomputeCvg
  else s

/-- The owner's changes at the Supply Monitor when new settings have been written over `old`: the source
records first (R7), then the holder record (R14). No rule orders the two when one command changes both
addresses; that a run requested by the holder's change finds a moved source's record already blank is
the model's choice (assumption log 34). -/
def State.supplyChange (s : State) (old : Settings) : State :=
  (((s.followSource .cvg).followSource .bfg).followSource .cog).followHolder old

/-! ## READ SUPPLY (R16) -/

def execReadSupply (payload : List Byte) (s : State) : Host.Outcome State Fault Refusal :=
  .next (s.takeFrame (bare payload fun t => t.ok (t.sm.encode t.settings.holder)))

end Sys2Proof.Machine
end

