-- ==== Sys2Proof/Machine/OfftakeTable.lean ====
section
/-! DEFINITION. The Offtake Table (chapter 2): admission, amendment, demand, suspension, reinstatement,
retirement, the protected band, and the lookups. -/

namespace Sys2Proof.Machine

/-! ## Admission (R22 to R25) -/

def maxSat (v : Nat) : Nat := min Config.maxPower v

/-- The class an admission names, with the zone or yield the class needs (R22). -/
def AdmitRequest.use (r : AdmitRequest) : Option Use :=
  match OfftakeClass.ofCode r.cls with
  | some .works => some .works
  | some .steam => some .steam
  | some .townHeat => (Zone.ofNumber r.zone).map Use.townHeat
  | some .power => if 200 ≤ r.yield ∧ r.yield ≤ 500 then some (.power r.yield) else none
  | none => none

/-- The entry an admission describes, with its values saturated and its sequence number; `none` is
BAD_VALUE (R22, R24). -/
def AdmitRequest.entry (r : AdmitRequest) (sequence : Nat) : Option Offtake :=
  match r.use with
  | none => none
  | some use =>
    if r.number = 0 ∨ 7 < r.priority ∨ r.accepted.isEmpty = true ∨ maxSat r.ceiling < maxSat r.floor ∨
        (r.choice ≠ anyCode ∧ 48 ≤ r.choice) then none
    else some
      { number := r.number, use := use, priority := r.priority, accepted := r.accepted
        floor := maxSat r.floor, ceiling := maxSat r.ceiling, demand := maxSat r.demand
        fallback := maxSat r.fallback, boost := 0, state := .pending, sequence := sequence
        damaged := false, grant := Grant.zero }

/-- The slot an admission takes, or the refusal (R23, checks 2 and 3). -/
def State.admissionSlot (s : State) (choice : Nat) : Except ResultCode (Fin 48) :=
  if h : choice < 48 then
    if s.isProtected ⟨choice, h⟩ then .error .protected_
    else if (s.entry ⟨choice, h⟩).isSome then .error .wrongState
    else .ok ⟨choice, h⟩
  else match slots48.find? fun i => (s.entry i).isNone && !s.isProtected i with
    | some i => .ok i
    | none => .error .tableFull

/-- Write the admission sequence counter, live and stored (R46). -/
def State.writeCounter (s : State) (n : Nat) : State :=
  { s with
    ot := { s.ot with counter := n }
    store := { s.store with counter := ⟨n, true⟩ } }

/-- ADMIT OFFTAKE (R22 to R24). -/
def admitCommand (payload : List Byte) (s : State) : Answer :=
  match AdmitRequest.read payload with
  | none => s.refuse .badLength
  | some r =>
    match r.entry s.ot.counter with
    | none => s.refuse .badValue
    | some e =>
      if (s.findOfftake r.number).isSome then s.refuse .duplicate
      else match s.admissionSlot r.choice with
        | .error c => s.refuse c
        | .ok i =>
          if Config.counterEnd ≤ s.ot.counter then s.refuse .tableFull
          else ((s.writeEntry i (some e)).writeCounter (s.ot.counter + 1)).ok
            (beBytes 1 i.val ++ beBytes 4 s.ot.counter)

def execAdmitOfftake (payload : List Byte) (s : State) : Host.Outcome State Fault Refusal :=
  .next (s.takeFrame (gated (admitCommand payload)))

/-! ## Amendment and demand (R26, R27) -/

/-- The amended entry (R26). -/
def AmendRequest.apply (r : AmendRequest) (e : Offtake) : Offtake :=
  { e with
    priority := r.priority.getD e.priority
    accepted := r.accepted.getD e.accepted
    floor := (r.floor.map maxSat).getD e.floor
    ceiling := (r.ceiling.map maxSat).getD e.ceiling
    fallback := (r.fallback.map maxSat).getD e.fallback }

/-- A present value is out of range by itself (R26). -/
def AmendRequest.badAlone (r : AmendRequest) : Bool :=
  (match r.priority with | some p => decide (7 < p) | none => false) ||
    (match r.accepted with | some a => a.isEmpty | none => false)

/-- The amended floor would be greater than the amended ceiling when both are carried (R26); with one of
them kept the entry decides. -/
def AmendRequest.badPair (r : AmendRequest) : Bool :=
  match r.floor, r.ceiling with
  | some f, some c => decide (maxSat c < maxSat f)
  | _, _ => false

/-- No field is marked present (R26). -/
def AmendRequest.isEmpty (r : AmendRequest) : Bool :=
  r.priority.isNone && r.accepted.isNone && r.floor.isNone && r.ceiling.isNone && r.fallback.isNone

/-- AMEND OFFTAKE, in the order of checks of R21 (assumption log 17 for the amended floor). -/
def amendCommand (payload : List Byte) (s : State) : Answer :=
  match AmendRequest.read payload with
  | none => s.refuse .badLength
  | some r =>
    if r.badAlone || r.badPair then s.refuse .badValue
    else match s.findOfftake r.number with
      | none => s.refuse .notFound
      | some (i, e) =>
        if (r.apply e).ceiling < (r.apply e).floor then s.refuse .badValue
        else if s.isProtected i then s.refuse .protected_
        else if e.damaged then s.refuse .wrongState
        else if r.isEmpty then s.ok []
        else (s.writeEntry i (some (r.apply e))).ok []

def execAmendOfftake (payload : List Byte) (s : State) : Host.Outcome State Fault Refusal :=
  .next (s.takeFrame (gated (amendCommand payload)))

/-- One pair of SET DEMAND: whether it was taken, and the state after it (R27). -/
def State.takeDemand (s : State) (number kw : Nat) : Bool × State :=
  match s.findOfftake number with
  | none => (false, s)
  | some (i, e) => (true, s.setEntry i (some { e with demand := maxSat kw }))

/-- The pairs in the order listed: how many were taken, and the state after them (R27). -/
def State.takeDemands (s : State) : List (Nat × Nat) → Nat × State
  | [] => (0, s)
  | (n, kw) :: rest =>
    let t := s.takeDemand n kw
    let r := t.2.takeDemands rest
    (r.1 + t.1.toNat, r.2)

/-- SET DEMAND (R27). -/
def setDemandCommand (payload : List Byte) (s : State) : Answer :=
  match demandPairs payload with
  | none => s.refuse .badLength
  | some l =>
    if l.length = 0 ∨ 12 < l.length then s.refuse .badLength
    else
      let r := s.takeDemands l
      ⟨⟨if r.1 = l.length then .ok else .notFound, beBytes 1 r.1⟩, r.2⟩

def execSetDemand (payload : List Byte) (s : State) : Host.Outcome State Fault Refusal :=
  .next (s.takeFrame (gated (setDemandCommand payload)))

/-! ## Suspension, reinstatement, retirement (R29 to R31) -/

/-- A command that names one offtake by number: the checks of R21 up to the protected band. -/
def namedOfftake (payload : List Byte) (s : State) (act : Fin 48 → Offtake → Answer) : Answer :=
  match splitFields [2] payload with
  | some [number] =>
    match s.findOfftake number with
    | none => s.refuse .notFound
    | some (i, e) => if s.isProtected i then s.refuse .protected_ else act i e
  | _ => s.refuse .badLength

/-- The entry as its suspension leaves it (R29). -/
def Offtake.suspend (e : Offtake) : Offtake :=
  { e with grant := Grant.zero, boost := 0, state := .suspended }

/-- SUSPEND OFFTAKE (R29, R67, R68). -/
def suspendEntry (s : State) (i : Fin 48) (e : Offtake) : Answer :=
  if e.takesPart then
    let t := (s.writeEntry i (some e.suspend)).takeReleased e.use e.grant
    (t.markReleased i).ok []
  else s.refuse .wrongState

def execSuspendOfftake (payload : List Byte) (s : State) : Host.Outcome State Fault Refusal :=
  .next (s.takeFrame (gated fun t => namedOfftake payload t (suspendEntry t)))

/-- REINSTATE OFFTAKE (R30). -/
def reinstateEntry (s : State) (i : Fin 48) (e : Offtake) : Answer :=
  if e.state = .suspended ∧ e.damaged = false then
    (s.writeEntry i (some { e with state := .pending })).ok []
  else s.refuse .wrongState

def execReinstateOfftake (payload : List Byte) (s : State) : Host.Outcome State Fault Refusal :=
  .next (s.takeFrame (gated fun t => namedOfftake payload t (reinstateEntry t)))

/-- RETIRE OFFTAKE (R31). -/
def retireEntry (s : State) (i : Fin 48) (e : Offtake) : Answer :=
  if e.state = .retiring then s.refuse .wrongState
  else (s.writeEntry i (some { e with state := .retiring, boost := 0 })).ok []

def execRetireOfftake (payload : List Byte) (s : State) : Host.Outcome State Fault Refusal :=
  .next (s.takeFrame (gated fun t => namedOfftake payload t (retireEntry t)))

/-! ## The protected band (R38, R39, R41) -/

/-- SET PROTECTION (R38). It sets the unsaved mark also when the values equal the live ones (assumption log
40). -/
def setProtectionCommand (payload : List Byte) (s : State) : Answer :=
  match splitFields [1, 1, 1] payload with
  | some [side, size, mode] =>
    if s.nvs.saving.isSome then s.refuse .busy
    else if s.bandEnforced then s.refuse .protected_
    else match BandSide.ofCode side, LockMode.ofCode mode with
      | some sd, some md =>
        if bandSizes.contains size then
          State.ok { s with
            settings := { s.settings with bandSide := sd, bandSize := size, lockMode := md }
            nvs := { s.nvs with unsaved := true } } []
        else s.refuse .badValue
      | _, _ => s.refuse .badValue
  | _ => s.refuse .badLength

def execSetProtection (payload : List Byte) (s : State) : Host.Outcome State Fault Refusal :=
  .next (s.takeFrame (gated (setProtectionCommand payload)))

/-- LOCK PERMANENTLY (R39): the mark and the band's live side and size, written as one item. -/
def lockCommand (s : State) : Answer :=
  if s.ot.permanentLock then s.ok []
  else State.ok { s with
    ot := { s.ot with permanentLock := true }
    store := { s.store with lock := ⟨true, s.settings.bandSide, s.settings.bandSize⟩ } } []

def execLockPermanently (payload : List Byte) (s : State) : Host.Outcome State Fault Refusal :=
  .next (s.takeFrame (gated (bare payload lockCommand)))

/-- The LOCK line changes level (R36). -/
def execLockLineChange (asserted : Bool) (s : State) : Host.Outcome State Fault Refusal :=
  .next { s with lockLine := asserted }

/-- Number of slots whose content answers a description. -/
def State.countSlots (s : State) (p : Option Offtake → Bool) : Nat :=
  (slots48.filter fun i => p (s.entry i)).length

def State.countState (s : State) (st : OfftakeState) : Nat :=
  s.countSlots fun o => match o with | some e => e.state == st | none => false

/-- The response of READ TABLE (R41). -/
def State.encodeTable (s : State) : List Byte :=
  beBytes 1 (s.countSlots Option.isNone) ++ beBytes 1 (s.countState .pending) ++
  beBytes 1 (s.countState .active) ++ beBytes 1 (s.countState .suspended) ++
  beBytes 1 (s.countState .retiring) ++
  beBytes 1 (s.countSlots fun o => match o with | some e => e.damaged | none => false) ++
  beBytes 4 s.ot.counter ++ beBytes 1 s.settings.bandSide.code ++ beBytes 1 s.settings.bandSize ++
  beBytes 1 s.settings.lockMode.code ++ markByte s.ot.permanentLock ++ markByte s.lockLine ++
  markByte s.bandEnforced

def execReadTable (payload : List Byte) (s : State) : Host.Outcome State Fault Refusal :=
  .next (s.takeFrame (bare payload fun t => t.ok t.encodeTable))

/-! ## Lookups (R42 to R45) -/

/-- READ OFFTAKE (R42). -/
def readOfftakeCommand (payload : List Byte) (s : State) : Answer :=
  match splitFields [2] payload with
  | some [number] =>
    match s.findOfftake number with
    | none => s.refuse .notFound
    | some (i, e) => s.ok (e.encode i (s.isParticipant i))
  | _ => s.refuse .badLength

def execReadOfftake (payload : List Byte) (s : State) : Host.Outcome State Fault Refusal :=
  .next (s.takeFrame (readOfftakeCommand payload))

/-- An entry matches a filter (R43). -/
def OfftakeFilter.matches (f : OfftakeFilter) (e : Offtake) : Bool :=
  (match f.cls with | some c => e.use.cls == c | none => true) &&
  (match f.state with | some st => e.state == st | none => true) &&
  (match f.priority with | some p => e.priority == p | none => true)

def State.slotMatches (s : State) (f : OfftakeFilter) (i : Fin 48) : Bool :=
  match s.entry i with | some e => f.matches e | none => false

/-- The filter a payload of FIND OFFTAKES names (R43, R175). -/
def offtakeFilter (cls state priority : Nat) : Option OfftakeFilter :=
  match filterPart OfftakeClass.ofCode cls, filterPart OfftakeState.ofCode state,
      filterPart (fun p => if p ≤ 7 then some p else none) priority with
  | some c, some st, some p => some ⟨c, st, p⟩
  | _, _, _ => none

/-- FIND OFFTAKES (R43). -/
def findOfftakesCommand (payload : List Byte) (s : State) : Answer :=
  match splitFields [1, 1, 1] payload with
  | some [cls, state, priority] =>
    match offtakeFilter cls state priority with
    | none => s.refuse .badValue
    | some f =>
      let n := (slots48.filter (s.slotMatches f)).length
      ⟨⟨if n = 0 then .end_ else .ok, beBytes 1 n⟩,
        { s with ot := { s.ot with cursor := ⟨f, slots48.find? (s.slotMatches f)⟩ } }⟩
  | _ => s.refuse .badLength

def execFindOfftakes (payload : List Byte) (s : State) : Host.Outcome State Fault Refusal :=
  .next (s.takeFrame (findOfftakesCommand payload))

/-- The slot after a slot, or the end (R44, R135). -/
def slotAfter {n : Nat} (i : Fin n) : Option (Fin n) :=
  if h : i.val + 1 < n then some ⟨i.val + 1, h⟩ else none

def State.moveOfftakeCursor (s : State) (p : Option (Fin 48)) : State :=
  { s with ot := { s.ot with cursor := { s.ot.cursor with position := p } } }

/-- READ NEXT OFFTAKE (R44). -/
def readNextOfftakeCommand (s : State) : Answer :=
  match s.ot.cursor.position with
  | none => s.refuse .end_
  | some p =>
    match slots48.find? fun i => decide (p.val ≤ i.val) && s.slotMatches s.ot.cursor.filter i with
    | none => (s.moveOfftakeCursor none).refuse .end_
    | some i =>
      match s.entry i with
      | none => (s.moveOfftakeCursor none).refuse .end_
      | some e => (s.moveOfftakeCursor (slotAfter i)).ok (e.encode i (s.isParticipant i))

def execReadNextOfftake (payload : List Byte) (s : State) : Host.Outcome State Fault Refusal :=
  .next (s.takeFrame (bare payload readNextOfftakeCommand))

/-- The published grant of the entry a number names (R45). -/
def State.grantOf (s : State) (number : Nat) : Option Grant :=
  (s.findOfftake number).map fun p => p.2.grant

/-- READ GRANTS (R45). -/
def readGrantsCommand (payload : List Byte) (s : State) : Answer :=
  match numberList payload with
  | none => s.refuse .badLength
  | some l =>
    if l.length = 0 ∨ 12 < l.length then s.refuse .badLength
    else ⟨⟨if l.all fun n => (s.grantOf n).isSome then .ok else .notFound,
      (l.flatMap fun n => grantRecord n (s.grantOf n)) ++ beBytes 2 s.ae.lastCompleted⟩, s⟩

def execReadGrants (payload : List Byte) (s : State) : Host.Outcome State Fault Refusal :=
  .next (s.takeFrame (readGrantsCommand payload))

end Sys2Proof.Machine
end

