-- ==== Sys2Proof/Machine/Accounts.lean ====
section
/-! DEFINITION. The Heat Account Unit (chapter 6): opening, billing a reading, silent stations, billing closes,
collection, the end of an account, and the lookups. -/

namespace Sys2Proof.Machine

/-! ## Opening (R116, R117) -/

/-- A new account (R116); `stale` is the state of its station as it stands (R117). -/
def Account.fresh (number station : Nat) (zone : Zone) (flowLimit : Nat) (stale : Bool) : Account where
  number := number
  station := station
  zone := zone
  flowLimit := flowLimit
  state := if stale then .holding else .opened
  damaged := false
  baseline := none
  lastReading := none
  residue := 0
  recovered := ⟨0, 0⟩
  fired := ⟨0, 0⟩
  gaps := 0
  implausibles := 0
  reverses := 0
  marks := EventMarks.none
  closed := none
  final := none

/-- OPEN ACCOUNT (R116). -/
def openAccountCommand (payload : List Byte) (s : State) : Answer :=
  match splitFields [4, 1, 1, 3] payload with
  | some [number, station, zone, limit] =>
    match Zone.ofNumber zone with
    | none => s.refuse .badValue
    | some z =>
      if number = 0 ∨ station = 0 ∨ 127 < station then s.refuse .badValue
      else if (s.findAccount number).isSome || s.isBound station || s.settings.roles.holds station then
        s.refuse .duplicate
      else match slots64.find? fun i => (s.account i).isNone with
        | none => s.refuse .tableFull
        | some i =>
          (s.writeAccount i
            (some (Account.fresh number station z (min 2000000 limit) (s.isStale station)))).ok
            (beBytes 1 i.val)
  | _ => s.refuse .badLength

def execOpenAccount (payload : List Byte) (s : State) : Host.Outcome State Fault Refusal :=
  .next (s.takeFrame (gated (openAccountCommand payload)))

/-! ## Billing a reading (R118 to R123, R125, R129) -/

/-- A HEAT reading as the unit takes it, without the flow rate, which has no part in billing. -/
structure HeatReading where
  volume : Nat
  flowTemp : Int
  returnTemp : Int
  time : Time
  deriving DecidableEq, Repr

def HeatReading.baseline (r : HeatReading) : Baseline := ⟨r.volume, r.flowTemp, r.returnTemp⟩

/-- ΔV of R119. -/
def volumePassed (new base : Nat) : Nat :=
  (new + Config.volumeModulus - base) % Config.volumeModulus

/-- The plausibility limit of R119, in litres. -/
def volumeLimit (flowLimit ms : Nat) : Nat := flowLimit * ms / 3600000 + 1000

/-- The reading passes the plausibility check, which is skipped without a last reading time (R119). -/
def Account.plausible (a : Account) (r : HeatReading) (base : Baseline) : Bool :=
  match a.lastReading with
  | none => true
  | some t => decide (volumePassed r.volume base.volume ≤ volumeLimit a.flowLimit (elapsedMs r.time t))

/-- dT of R120, in hundredths of a kelvin, a negative one taken as 0. -/
def HeatReading.cooling (r : HeatReading) : Nat := (r.flowTemp - r.returnTemp).toNat

/-- The flow is colder than the return (R120). -/
def HeatReading.reversed (r : HeatReading) : Bool := decide (r.flowTemp < r.returnTemp)

/-- X of R120. -/
def Account.energy (a : Account) (r : HeatReading) (base : Baseline) : Nat :=
  volumePassed r.volume base.volume * r.cooling * 1163 + a.residue

/-- The share of `wh` that goes to RECOVERED at coverage `c` (R121). -/
def recoveredShare (wh c : Nat) : Nat := wh * c / 1000

def EnergyBand.content (b : EnergyBand) : Nat := b.kwh * 1000 + b.wh

def bandOf (wh : Nat) : EnergyBand := ⟨wh / 1000, wh % 1000⟩

/-- The share would carry the band past its greatest value (R122). -/
def bandOverflows (b : EnergyBand) (wh : Nat) : Bool :=
  decide (Config.maxBandWh < EnergyBand.content b + wh)

/-- A band adds its share, and saturates (R122). -/
def bandAdd (b : EnergyBand) (wh : Nat) : EnergyBand :=
  bandOf (min Config.maxBandWh (EnergyBand.content b + wh))

/-- The account as a plausible reading bills it, its state apart (R120 to R123). -/
def Account.billed (a : Account) (r : HeatReading) (base : Baseline) (c : Nat) : Account :=
  let x := a.energy r base
  let wh := x / 100000
  let wr := recoveredShare wh c
  { a with
    residue := x % 100000
    recovered := bandAdd a.recovered wr
    fired := bandAdd a.fired (wh - wr)
    reverses := if r.reversed then bump 255 a.reverses else a.reverses
    marks := { a.marks with
      reverse := a.marks.reverse || r.reversed
      saturated := a.marks.saturated || bandOverflows a.recovered wr ||
        bandOverflows a.fired (wh - wr) }
    baseline := some r.baseline
    lastReading := some r.time }

/-- Billing this reading sets a mark (R120, R122). -/
def Account.billMarks (a : Account) (r : HeatReading) (base : Baseline) (c : Nat) : Bool :=
  let wh := a.energy r base / 100000
  r.reversed || bandOverflows a.recovered (recoveredShare wh c) ||
    bandOverflows a.fired (wh - recoveredShare wh c)

/-- The account as an implausible reading leaves it, its state apart (R119). -/
def Account.rejected (a : Account) : Account :=
  { a with implausibles := bump 255 a.implausibles, marks := { a.marks with implausible := true } }

/-- The account becomes FINAL: its live bands are frozen as the final totals (R129, R130). -/
def Account.finish (a : Account) : Account :=
  { a with
    state := .final
    final := some ⟨a.recovered, a.fired⟩
    recovered := ⟨0, 0⟩
    fired := ⟨0, 0⟩
    marks := { a.marks with finalReady := true } }

/-- The reading counts a GAP: it ends a HOLDING spell, or no last reading time is present (R119,
R125). -/
def Account.countsGap (a : Account) : Bool := a.state == .holding || a.lastReading.isNone

def Account.gapCounted (a : Account) : Account :=
  if a.countsGap then { a with gaps := bump 255 a.gaps } else a

/-- The state a reading leaves an OPEN or HOLDING account in (R118, R125). -/
def Account.returned (a : Account) : Account :=
  if a.state = .holding then { a with state := .opened } else a

/-- What a reading makes of an account, and whether it sets an event mark; `none` when the reading is
ignored (R118). -/
def Account.takeReading (a : Account) (r : HeatReading) (c : Nat) : Option (Account × Bool) :=
  if a.damaged then none
  else match a.state, a.baseline with
    | .final, _ => none
    | .closing, none => some (a.finish, true)
    | .closing, some base =>
      if a.plausible r base then some (((a.gapCounted.billed r base c).finish), true)
      else some (a.gapCounted.rejected, true)
    | _, none =>
      some ({ a with baseline := some r.baseline, lastReading := some r.time, state := .opened }, false)
    | _, some base =>
      if a.plausible r base then
        some ((a.gapCounted.billed r base c).returned, a.billMarks r base c)
      else some (a.gapCounted.rejected.returned, true)

/-- A good HEAT report reaches the account bound to its station (R118 to R123). -/
def State.takeHeat (s : State) (i : Fin 64) (r : HeatReading) : State :=
  match s.account i with
  | none => s
  | some a =>
    match a.takeReading r (s.ae.coverage.get a.zone) with
    | none => s
    | some (b, marked) => (s.writeAccount i (some b)).raiseIf marked .accountEvent

/-- The station of an account became STALE (R124). -/
def State.holdAccount (s : State) (i : Fin 64) : State :=
  match s.account i with
  | some a => if a.state = .opened then s.writeAccount i (some { a with state := .holding }) else s
  | none => s

/-! ## Commands that name an account (R115) -/

def namedAccount (payload : List Byte) (s : State) (act : Fin 64 → Account → Answer) : Answer :=
  match splitFields [4] payload with
  | some [number] =>
    match s.findAccount number with
    | none => s.refuse .notFound
    | some (i, a) => act i a
  | _ => s.refuse .badLength

/-- COLLECT ACCOUNT's response, its fields in the order of R128, the marks last (R174). What R128 leaves open
is assumption log 37: the closed copy with its number comes before the final totals, and bit 0 of the
marks tells that the copy is present, bit 1 that the totals are. -/
def Account.encodeCollected (a : Account) : List Byte :=
  let copy := a.closed.getD ⟨⟨0, 0⟩, ⟨0, 0⟩, 0⟩
  let fin := a.final.getD ⟨⟨0, 0⟩, ⟨0, 0⟩⟩
  beBytes 4 a.number ++ beBytes 1 a.station ++ beBytes 1 a.zone.number ++ copy.recovered.encode ++
    copy.fired.encode ++ beBytes 4 copy.number ++ fin.recovered.encode ++ fin.fired.encode ++
    [byteOfFlags false false false false false false a.final.isSome a.closed.isSome]

/-- COLLECT ACCOUNT (R128, R131). -/
def collectEntry (s : State) (i : Fin 64) (a : Account) : Answer :=
  match a.state with
  | .final => (s.writeAccount i none).ok a.encodeCollected
  | .closing => s.refuse .wrongState
  | _ =>
    if a.damaged || a.closed.isNone then s.refuse .wrongState
    else (s.writeAccount i (some { a with
      closed := none, marks := { a.marks with uncollected := false } })).ok
      (Account.encodeCollected { a with final := none })

def execCollectAccount (payload : List Byte) (s : State) : Host.Outcome State Fault Refusal :=
  .next (s.takeFrame (gated fun t => namedAccount payload t (collectEntry t)))

/-- CLOSE ACCOUNT (R129). -/
def closeEntry (s : State) (i : Fin 64) (a : Account) : Answer :=
  if a.state = .opened ∨ a.state = .holding then
    (s.writeAccount i (some { a with state := .closing })).ok []
  else s.refuse .wrongState

def execCloseAccount (payload : List Byte) (s : State) : Host.Outcome State Fault Refusal :=
  .next (s.takeFrame (gated fun t => namedAccount payload t (closeEntry t)))

/-- FORCE FINAL (R130). -/
def forceEntry (s : State) (i : Fin 64) (a : Account) : Answer :=
  if a.state = .closing then ((s.writeAccount i (some a.finish)).raise .accountEvent).ok []
  else s.refuse .wrongState

def execForceFinal (payload : List Byte) (s : State) : Host.Outcome State Fault Refusal :=
  .next (s.takeFrame (gated fun t => namedAccount payload t (forceEntry t)))

/-- The account after CLEAR ACCOUNT MARKS with a byte of marks: SATURATED, IMPLAUSIBLE, REVERSE,
UNCOLLECTED, and the zeroing of the counters (R126, R174). -/
def Account.clearMarks (a : Account) (bits : Nat) : Account :=
  { a with
    marks :=
      { saturated := a.marks.saturated && !bits.testBit 0
        implausible := a.marks.implausible && !bits.testBit 1
        reverse := a.marks.reverse && !bits.testBit 2
        finalReady := a.marks.finalReady
        uncollected := a.marks.uncollected && !bits.testBit 3 }
    gaps := if bits.testBit 4 then 0 else a.gaps
    implausibles := if bits.testBit 4 then 0 else a.implausibles
    reverses := if bits.testBit 4 then 0 else a.reverses }

/-- CLEAR ACCOUNT MARKS (R126). That the marks of its response are one byte, the five event marks with
their bits as in the account record, is the model's choice (assumption log 41). -/
def clearMarksCommand (payload : List Byte) (s : State) : Answer :=
  match splitFields [4, 1] payload with
  | some [number, bits] =>
    match s.findAccount number with
    | none => s.refuse .notFound
    | some (i, a) =>
      (s.writeAccount i (some (a.clearMarks bits))).ok
        ([a.marks.toByte] ++ beBytes 1 a.gaps ++ beBytes 1 a.implausibles ++ beBytes 1 a.reverses)
  | _ => s.refuse .badLength

def execClearAccountMarks (payload : List Byte) (s : State) : Host.Outcome State Fault Refusal :=
  .next (s.takeFrame (gated (clearMarksCommand payload)))

/-! ## Billing close (R127) -/

/-- The billing close acts on the account: OPEN or HOLDING and not damaged. -/
def Account.closes (a : Account) : Bool :=
  !a.damaged && (a.state == .opened || a.state == .holding)

/-- The account as a billing close with a number leaves it. -/
def Account.atClose (a : Account) (number : Nat) : Account :=
  if a.closed.isSome then { a with marks := { a.marks with uncollected := true } }
  else { a with
    closed := some ⟨a.recovered, a.fired, number⟩
    recovered := ⟨0, 0⟩
    fired := ⟨0, 0⟩ }

/-- The number of the next billing close (R114, R127). -/
def nextCloseNumber (n : Nat) : Nat := if Config.maxNumber ≤ n then 1 else n + 1

def State.closeSlot (number : Nat) (s : State) (i : Fin 64) : State :=
  match s.account i with
  | some a =>
    if a.closes then
      (s.writeAccount i (some (a.atClose number))).raiseIf a.closed.isSome .accountEvent
    else s
  | none => s

/-- Accounts the close acts on that answer a description. -/
def State.countClosing (s : State) (p : Account → Bool) : Nat :=
  (slots64.filter fun i => match s.account i with | some a => a.closes && p a | none => false).length

/-- CLOSE BILLING PERIOD (R127). -/
def closeBillingCommand (s : State) : Answer :=
  let n := nextCloseNumber s.hau.closeNumber
  let closed := s.countClosing fun a => a.closed.isNone
  let skipped := s.countClosing fun a => a.closed.isSome
  let t : State := { s with
    hau := { s.hau with closeNumber := n }
    store := { s.store with closeNumber := ⟨n, true⟩ } }
  ⟨⟨if skipped = 0 then .ok else .uncollected, beBytes 4 n ++ beBytes 1 closed ++ beBytes 1 skipped⟩,
    slots64.foldl (State.closeSlot n) t⟩

def execCloseBillingPeriod (payload : List Byte) (s : State) : Host.Outcome State Fault Refusal :=
  .next (s.takeFrame (gated (bare payload closeBillingCommand)))

/-! ## Lookups (R134, R135) -/

/-- READ ACCOUNT (R134). -/
def execReadAccount (payload : List Byte) (s : State) : Host.Outcome State Fault Refusal :=
  .next (s.takeFrame fun t => namedAccount payload t fun i a => t.ok (a.encode i t.now))

def Account.hasMark (a : Account) : AccountMark → Bool
  | .saturated => a.marks.saturated
  | .implausible => a.marks.implausible
  | .reverse => a.marks.reverse
  | .finalReady => a.marks.finalReady
  | .uncollected => a.marks.uncollected
  | .damaged => a.damaged

/-- An account matches a filter (R135). -/
def AccountFilter.matches (f : AccountFilter) (a : Account) : Bool :=
  (match f.state with | some st => a.state == st | none => true) &&
  (match f.zone with | some z => a.zone == z | none => true) &&
  (match f.mark with | some m => a.hasMark m | none => true)

def State.accountMatches (s : State) (f : AccountFilter) (i : Fin 64) : Bool :=
  match s.account i with | some a => f.matches a | none => false

/-- The filter a payload of FIND ACCOUNTS names (R135, R175). -/
def accountFilter (state zone mark : Nat) : Option AccountFilter :=
  match filterPart AccountState.ofCode state, filterPart Zone.ofNumber zone,
      filterPart AccountMark.ofCode mark with
  | some st, some z, some m => some ⟨st, z, m⟩
  | _, _, _ => none

/-- FIND ACCOUNTS (R135). -/
def findAccountsCommand (payload : List Byte) (s : State) : Answer :=
  match splitFields [1, 1, 1] payload with
  | some [state, zone, mark] =>
    match accountFilter state zone mark with
    | none => s.refuse .badValue
    | some f =>
      let n := (slots64.filter (s.accountMatches f)).length
      ⟨⟨if n = 0 then .end_ else .ok, beBytes 1 n⟩,
        { s with hau := { s.hau with cursor := ⟨f, slots64.find? (s.accountMatches f)⟩ } }⟩
  | _ => s.refuse .badLength

def execFindAccounts (payload : List Byte) (s : State) : Host.Outcome State Fault Refusal :=
  .next (s.takeFrame (findAccountsCommand payload))

def State.moveAccountCursor (s : State) (p : Option (Fin 64)) : State :=
  { s with hau := { s.hau with cursor := { s.hau.cursor with position := p } } }

/-- READ NEXT ACCOUNT (R135). -/
def readNextAccountCommand (s : State) : Answer :=
  match s.hau.cursor.position with
  | none => s.refuse .end_
  | some p =>
    match slots64.find? fun i => decide (p.val ≤ i.val) && s.accountMatches s.hau.cursor.filter i with
    | none => (s.moveAccountCursor none).refuse .end_
    | some i =>
      match s.account i with
      | none => (s.moveAccountCursor none).refuse .end_
      | some a => (s.moveAccountCursor (slotAfter i)).ok (a.encode i s.now)

def execReadNextAccount (payload : List Byte) (s : State) : Host.Outcome State Fault Refusal :=
  .next (s.takeFrame (bare payload readNextAccountCommand))

end Sys2Proof.Machine
end

