-- ==== Sys2Proof/Machine/Export.lean ====
section
/-! DEFINITION. The Export Settlement Unit (chapter 7): settlement commands, the meter, projection and boost,
and the closing and opening of periods. -/

namespace Sys2Proof.Machine

/-! ## Boosts (R145, R146) -/

def Use.isPower : Use → Bool
  | .power _ => true
  | _ => false

/-- Change the boost of every POWER entry in PENDING or ACTIVE (R146). Boosts are not stored. -/
def State.mapBoosts (s : State) (f : Nat → Nat) : State :=
  { s with ot := { s.ot with entries := mapTable (fun o => o.map fun e =>
      if Use.isPower e.use && e.takesPart then { e with boost := f e.boost } else e) s.ot.entries } }

def State.zeroBoosts (s : State) : State := s.mapBoosts fun _ => 0

/-- A new boost maximum lowers to it every boost above it (R139). -/
def State.capBoosts (s : State) : State := s.mapBoosts fun b => min b s.settings.boostMax

/-! ## The silent mark (R143) -/

/-- A set silent mark flags the current period GAP (R143). -/
def Settlement.markSilent (e : Settlement) : Settlement :=
  { e with silent := true, current := e.current.map fun c => { c with gap := true } }

def State.meterSilent (s : State) : State := { s with esu := s.esu.markSilent }

/-- The meter at the EXPORT role address gives no readings as it stands: no station, or STALE
(R143). -/
def State.meterIsSilent (s : State) : Bool :=
  s.settings.roles.export_ == 0 || s.isStale s.settings.roles.export_

/-- Set the mark, with its effect on the period, or clear it. -/
def Settlement.settleSilent (e : Settlement) (silent : Bool) : Settlement :=
  if silent then e.markSilent else { e with silent := false }

/-! ## Opening, declaring and stopping (R140 to R142) -/

/-- A period as it opens (R140, R148). -/
def Period.opening (number declared : Nat) (start : Time) (length : Nat) (gap carried : Bool) : Period where
  number := number
  declared := declared
  start := start
  length := length
  delivered := 0
  projection := none
  gap := gap
  carried := carried

/-- The end of a period on the internal base. -/
def Period.ends (p : Period) : Time := after p.start (p.length * 1000)

/-- START SETTLEMENT (R140): BAD_VALUE, WRONG_STATE and STANDALONE in that order. R140 does not place
BAD_LENGTH; that it comes first, in standalone operation too, is the model's choice (assumption log
35). -/
def startSettlementCommand (payload : List Byte) (s : State) : Answer :=
  match splitFields [4, 3, 2] payload with
  | some [number, declared, offset] =>
    if 2000000 < declared ∨ s.settings.periodLength ≤ offset then s.refuse .badValue
    else if s.esu.current.isSome then s.refuse .wrongState
    else if s.cl.standalone then s.refuse .standalone
    else
      let p := Period.opening number declared (s.now - BitVec.ofNat 32 (offset * 1000))
        s.settings.periodLength s.meterIsSilent false
      State.ok { s with esu := { s.esu with
        baseline := none
        silent := s.meterIsSilent
        current := some p
        timer := some p.ends } } []
  | _ => s.refuse .badLength

def execStartSettlement (payload : List Byte) (s : State) : Host.Outcome State Fault Refusal :=
  .next (s.takeFrame (startSettlementCommand payload))

/-- DECLARE (R141). -/
def declareCommand (payload : List Byte) (s : State) : Answer :=
  match splitFields [4, 3] payload with
  | some [number, declared] =>
    if 2000000 < declared then s.refuse .badValue
    else if s.esu.current.isNone then s.refuse .wrongState
    else State.ok { s with esu := { s.esu with next := some ⟨number, declared⟩ } } []
  | _ => s.refuse .badLength

def execDeclare (payload : List Byte) (s : State) : Host.Outcome State Fault Refusal :=
  .next (s.takeFrame (gated (declareCommand payload)))

/-- STOP SETTLEMENT (R142). -/
def stopSettlementCommand (s : State) : Answer :=
  if s.esu.current.isNone then s.ok []
  else
    let t : State := { s with esu := { s.esu with
      baseline := none, current := none, timer := none, next := none } }
    t.zeroBoosts.ok []

def execStopSettlement (payload : List Byte) (s : State) : Host.Outcome State Fault Refusal :=
  .next (s.takeFrame (gated (bare payload stopSettlementCommand)))

/-- READ SETTLEMENT (R149). -/
def execReadSettlement (payload : List Byte) (s : State) : Host.Outcome State Fault Refusal :=
  .next (s.takeFrame (bare payload fun t => t.ok (t.esu.encode t.now)))

/-! ## The meter (R144) and the projection (R145) -/

/-- Δ of R144. -/
def meterDelta (new base : Nat) : Nat :=
  (new + Config.registerModulus - base) % Config.registerModulus

/-- The plausibility limit of R144, in Wh. -/
def meterLimit (kw ms : Nat) : Nat := kw * ms / 3600 + 1000

/-- The energy declared for a period, in Wh (R138). -/
def declaredWh (declared : Nat) : Int := (declared * 1000 : Nat)

/-- tol_Wh of R145. -/
def toleranceWh (declared tolerance : Nat) : Int := (declared * 1000 * tolerance / 1000 : Nat)

/-- projected_Wh of R145. -/
def Period.projected (p : Period) (estimate : Nat) (at_ : Time) : Nat :=
  p.delivered + estimate * remainingMs p.start p.length at_ / 3600

/-- The boost after a step, by the shortfall (R145). -/
def boostStep (shortfall tol : Int) (step top boost : Nat) : Nat :=
  if tol < shortfall then min top (boost + step)
  else if shortfall < -tol then boost - step
  else boost

/-- Project the current period and step the boosts (R145). -/
def State.projectPeriod (s : State) (p : Period) : State :=
  let proj := p.projected s.ae.exportEstimate s.now
  let t : State := { s with esu := { s.esu with current := some { p with projection := some proj } } }
  if s.cl.standalone then t
  else t.mapBoosts (boostStep (declaredWh p.declared - proj)
    (toleranceWh p.declared s.settings.tolerance) s.settings.boostStep s.settings.boostMax)

/-- A rejected export report raises the station's error counter (R144). -/
def State.rejectReport (s : State) (address : Nat) : State :=
  s.setStation address { s.station address with errors := bump 255 (s.station address).errors }

/-- A good EXPORT report from a station (R144). -/
def State.takeExport (s : State) (address register : Nat) : State :=
  let t : State := { s with esu := { s.esu with silent := false } }
  match t.esu.current, t.esu.baseline with
  | none, _ => t
  | some _, none => { t with esu := { t.esu with baseline := some ⟨register, t.now⟩ } }
  | some p, some b =>
    let d := meterDelta register b.register
    if meterLimit t.settings.exportLimit (elapsedMs t.now b.time) < d then t.rejectReport address
    else State.projectPeriod
      { t with esu := { t.esu with baseline := some ⟨register, t.now⟩ } }
      { p with delivered := min Config.maxDelivered (p.delivered + d) }

/-! ## Closing and opening periods (R147, R148) -/

/-- The outcome of a deviation (R147). -/
def outcomeOf (deviation tol : Int) : PeriodOutcome :=
  if deviation < -tol then .short else if tol < deviation then .over else .within

/-- The last-closed record of a period (R147). -/
def Period.close (p : Period) (tolerance : Nat) : ClosedPeriod where
  number := p.number
  declared := p.declared
  delivered := p.delivered
  deviation := (p.delivered : Int) - declaredWh p.declared
  outcome := outcomeOf ((p.delivered : Int) - declaredWh p.declared) (toleranceWh p.declared tolerance)
  gap := p.gap
  carried := p.carried

/-- The period that opens when `p` closes (R148). -/
def Period.successor (p : Period) (next : Option Declaration) (length : Nat) (silent : Bool) : Period :=
  match next with
  | some d => Period.opening d.number d.declared p.ends length silent false
  | none => Period.opening ((p.number + 1) % 4294967296) p.declared p.ends length silent true

/-- The current period closes and the next opens, one event (R147, R148). -/
def State.closePeriod (s : State) (p : Period) : State :=
  let c := p.close s.settings.tolerance
  let n := p.successor s.esu.next s.settings.periodLength s.esu.silent
  let off := decide (c.outcome ≠ .within)
  let t : State := { s with esu := { s.esu with
    current := some n
    timer := some n.ends
    next := none
    lastClosed := some c
    outOfBand := if off then bump 65535 s.esu.outOfBand else s.esu.outOfBand } }
  t.raiseIf off .exportDeviation

/-- The period timer expires (R147). -/
def execPeriodTimerExpiry (s : State) : Host.Outcome State Fault Refusal :=
  .next (match s.esu.current, s.esu.timer with
    | some p, some e => (s.atExpiry e).closePeriod p
    | _, _ => s)

/-! ## Changed settings (R139, R143) -/

/-- The owner's changes at the settlement unit when new settings have been written over `old`. -/
def State.settlementChange (s : State) (old : Settings) : State :=
  let t := if s.settings.boostMax ≠ old.boostMax then s.capBoosts else s
  if t.settings.roles.export_ ≠ old.roles.export_ then
    { t with esu := Settlement.settleSilent { t.esu with baseline := none } t.meterIsSilent }
  else t

end Sys2Proof.Machine
end

