-- ==== Sys2Proof/Machine/FieldLine.lean ====
section
/-! DEFINITION. The Field Line Controller (chapter 5): roles, the check of a report, misses and good reports
with their handing on, the walk, the poll list, and READ STATION. -/

namespace Sys2Proof.Machine

/-! ## Roles (R101) -/

inductive Role where
  | gas (src : Source)
  | holder
  | export_
  | heat (slot : Fin 64)
  | unbound
  deriving DecidableEq, Repr

def Role.code : Role → Nat
  | .gas src => src.index
  | .holder => 3
  | .export_ => 4
  | .heat _ => 5
  | .unbound => 6

/-- The role of an address, worked out afresh (R101). -/
def State.role (s : State) (address : Nat) : Role :=
  let r := s.settings.roles
  if address = 0 then .unbound
  else if address = r.gas.cvg then .gas .cvg
  else if address = r.gas.bfg then .gas .bfg
  else if address = r.gas.cog then .gas .cog
  else if address = r.holder then .holder
  else if address = r.export_ then .export_
  else match s.boundAccount address with
    | some (i, _) => .heat i
    | none => .unbound

/-- The kind of report a role expects (R101). -/
def Role.kind : Role → Option ReportKind
  | .gas _ => some .gas
  | .holder => some .holder
  | .export_ => some .export_
  | .heat _ => some .heat
  | .unbound => none

/-! ## The check of a complete report (R102) -/

inductive Verdict where
  | good (role : Role) (reading : Reading)
  | unbound
  | miss (reason : LastEvent)
  deriving DecidableEq, Repr

/-- The checks of R102 in order, for a report to the query of an address. -/
def State.judge (s : State) (address : Nat) (r : Report) : Verdict :=
  if r.sum ≠ 0 then .miss .check
  else if r.address ≠ address then .miss .address
  else if s.role address = .unbound then .unbound
  else if (s.role address).kind ≠ some r.reading.kind then .miss .kind
  else if r.status.toNat.testBit 0 then .miss .stationFault
  else if r.reading.inRange = false then .miss .range
  else .good (s.role address) r.reading

/-! ## A change to STALE, and misses (R103, R106) -/

/-- Hand a change to STALE to the owners of the station's role (R106), up to the settling of the
admission, which comes once behind all the changes of an event (R85, R87, R106). -/
def State.handStale (s : State) (address : Nat) : State :=
  match s.role address with
  | .gas src => (s.holdSource src).evaluate (.gas src .stale) true
  | .holder => s.holdHolder.evaluate .holderStale true
  | .export_ => s.meterSilent
  | .heat i => s.holdAccount i
  | .unbound => s

/-- Settle the admission of the source that the station of a role acts on, if any (R80, R87). -/
def State.settleRole (s : State) (role : Role) : State :=
  match role with
  | .gas src => s.settle src
  | .holder => s.settle .cvg
  | .export_ => s
  | .heat _ => s
  | .unbound => s

/-- A station becomes STALE: its record first, then STATION_STALE, then the handing on (R103, R106); the
admission is not yet settled. -/
def State.turnStale (s : State) (address : Nat) (r : StationRecord) : State :=
  ((s.setStation address { r with state := .stale }).raise .stationStale).handStale address

/-- A station becomes STALE at an event of its own, and the admission is settled (R80, R106). -/
def State.makeStale (s : State) (address : Nat) (r : StationRecord) : State :=
  (s.turnStale address r).settleRole (s.role address)

/-- A record with one miss more (R103). -/
def StationRecord.missed (r : StationRecord) (reason : LastEvent) : StationRecord :=
  { r with misses := bump 255 r.misses, errors := bump 255 r.errors, last := reason }

/-- A miss is entered in the record of the queried station (R103). -/
def State.enterMiss (s : State) (address : Nat) (reason : LastEvent) : State :=
  let r := (s.station address).missed reason
  if r.state ≠ .stale ∧ s.settings.staleThreshold ≤ r.misses then s.makeStale address r
  else s.setStation address r

/-! ## Good and unbound reports (R104, R105) -/

/-- Hand a good reading to the owner of the role. `returned` says that it changed the station's state
to LIVE, so that the STALE monitor is evaluated with it; the admission is settled once (R78 to R80,
R106). -/
def State.deliver (s : State) (address : Nat) (returned : Bool) (role : Role) (reading : Reading) :
    State :=
  match role, reading with
  | .gas src, .gas flow ncv =>
    let t := s.takeGas src flow ncv
    let u := if returned then t.evaluate (.gas src .stale) false else t
    (u.evaluateGas src).settle src
  | .holder, .holder level =>
    let t := s.takeHolder level
    let u := if returned then t.evaluate .holderStale false else t
    u.evaluateTrips.settle .cvg
  | .export_, .export_ register => s.takeExport address register
  | .heat i, .heat volume _ tf tr => s.takeHeat i ⟨volume, tf, tr, s.now⟩
  | _, _ => s

/-- A record after a report that was taken or discarded as UNBOUND (R104, R105). -/
def StationRecord.answered (r : StationRecord) (event : LastEvent) (now : Time) : StationRecord :=
  { r with state := .live, misses := 0, last := event, lastGood := some now }

/-- A good report: the record first, then the handing on (R104). -/
def State.enterGood (s : State) (address : Nat) (role : Role) (reading : Reading) : State :=
  let r := s.station address
  (s.setStation address (r.answered .good s.now)).deliver address (decide (r.state ≠ .live)) role
    reading

/-- A report from an UNBOUND station is discarded (R105). -/
def State.enterUnbound (s : State) (address : Nat) : State :=
  let r := s.station address
  s.setStation address { r.answered .unbound s.now with errors := bump 255 r.errors }

/-- A complete report is taken (R102 to R105). -/
def State.takeReport (s : State) (address : Nat) (r : Report) : State :=
  match s.judge address r with
  | .good role reading => s.enterGood address role reading
  | .unbound => s.enterUnbound address
  | .miss reason => s.enterMiss address reason

/-! ## The walk (R97 to R99, R112) -/

/-- Send the query to a position of the live list (R98). -/
def State.sendQuery (s : State) (position : Nat) : State :=
  { s with flc := { s.flc with
    polling := .running
    position := position
    phase := some .query
    queried := (s.settings.pollList[position]?).getD 0
    replyTimer := none
    gapTimer := none } }

/-- The walk finds the list without a position (R97, R112). -/
def State.enterEmpty (s : State) : State :=
  { s with flc := { s.flc with
    polling := .empty, position := 0, phase := none, replyTimer := none, gapTimer := none } }

/-- Go on at a position, or enter EMPTY when the list has none. -/
def State.walkTo (s : State) (position : Nat) : State :=
  if s.settings.pollList = [] then s.enterEmpty else s.sendQuery position

/-- The bytes of the query on the line while it is being sent (R98). -/
def State.lineQuery (s : State) : Option (List Byte) :=
  if s.flc.phase = some .query then some (queryBytes s.flc.queried) else none

/-- An exchange ends: the reply timer stops and the gap begins (R97, R99). -/
def State.beginGap (s : State) : State :=
  { s with flc := { s.flc with
    phase := some .gap, replyTimer := none, gapTimer := some (after s.now Config.gapMs) } }

/-- Polling begins: FLC leaves STOPPED at position 0 (R112). -/
def State.beginPolling (s : State) : State :=
  if s.flc.polling = .stopped then s.walkTo 0 else s

/-- The position after a position, from the last one back to 0 (R97). -/
def nextPosition (position length : Nat) : Nat := if position + 1 < length then position + 1 else 0

/-- The gap timer expires (R97). -/
def execGapTimerExpiry (s : State) : Host.Outcome State Fault Refusal :=
  .next (match s.flc.phase, s.flc.gapTimer with
    | some .gap, some e =>
      let next := if s.flc.replacementWaiting then 0
        else nextPosition s.flc.position s.settings.pollList.length
      State.walkTo { s.atExpiry e with flc := { s.flc with replacementWaiting := false } } next
    | _, _ => s)

/-- The last byte of a query has left the part: the reply timer starts with the live reply timeout (R98),
a value changed while the query was being sent included (assumption log 36). -/
def execQuerySent (s : State) : Host.Outcome State Fault Refusal :=
  .next (match s.flc.phase with
    | some .query => { s with flc := { s.flc with
        phase := some .await, replyTimer := some (after s.now s.settings.replyTimeout) } }
    | _ => s)

/-- The reply timer expires in AWAIT: a miss, CHECK when the bytes that arrived could not be delimited,
else TIMEOUT (R98, R99, R102). -/
def execReplyTimerExpiry (arrived : List Byte) (s : State) : Host.Outcome State Fault Refusal :=
  .next (match s.flc.phase, s.flc.replyTimer with
    | some .await, some e =>
      (s.atExpiry e).beginGap.enterMiss s.flc.queried (if undelimited arrived then .check else .timeout)
    | _, _ => s)

/-- A report is complete in AWAIT (R99). Bytes outside AWAIT, or that are no complete report, belong to
no exchange and are discarded (R97; assumption log 26). -/
def execReportComplete (report : List Byte) (s : State) : Host.Outcome State Fault Refusal :=
  .next (match s.flc.phase, Report.read report with
    | some .await, some r => s.beginGap.takeReport s.flc.queried r
    | _, _ => s)

/-! ## The poll list (R108, R109) -/

/-- The 127 station addresses. -/
def addresses : List Nat := (List.range 127).map (· + 1)

/-- A delisted station that is LIVE becomes STALE (R109, step 2). -/
def State.delist (s : State) (address : Nat) : State :=
  if (s.station address).state = .live then s.turnStale address (s.station address) else s

/-- The walk after a new list has come into force (R109, step 4). -/
def State.restartWalk (s : State) : State :=
  match s.flc.polling, s.flc.phase with
  | .stopped, _ => s
  | .empty, _ => s.walkTo 0
  | .running, some .gap =>
    { s with flc := { s.flc with position := s.settings.pollList.length - 1 } }
  | .running, _ => { s with flc := { s.flc with replacementWaiting := true } }

/-- The stations that the list now in the live settings no longer holds, and `old` held, are delisted
(R109, step 2; assumption log 22 for their order); the admission is not yet settled. -/
def State.delistGone (s : State) (old : List Nat) : State :=
  (addresses.filter fun a => old.contains a && !s.settings.pollList.contains a).foldl State.delist s

/-- The control byte of SET POLL LIST: whether the part is FIRST, and whether it is FINAL (R175). -/
def pollControl (b : Byte) : Option (Bool × Bool) :=
  if b = 0x01 then some (true, false)
  else if b = 0x02 then some (false, false)
  else if b = 0x81 then some (true, true)
  else if b = 0x82 then some (false, true)
  else none

/-- Put the staged list in force (R108, R109); the admission is settled once behind all the stations
delisted (R106). It sets the unsaved mark also when the list equals the live one (assumption log 40). -/
def State.putListInForce (s : State) (list : List Nat) : State :=
  let t : State := { s with
    settings := { s.settings with pollList := list }
    flc := { s.flc with staged := none }
    nvs := { s.nvs with unsaved := true } }
  (t.delistGone s.settings.pollList).settleAll.restartWalk

/-- SET POLL LIST (R108). -/
def setPollListCommand (payload : List Byte) (s : State) : Answer :=
  match payload with
  | [] => s.refuse .badLength
  | b :: rest =>
    if s.nvs.saving.isSome then s.refuse .busy
    else
      let new := rest.map BitVec.toNat
      match pollControl b with
      | none => s.refuse .badValue
      | some (first, final) =>
        if new.any (fun a => a == 0 || decide (127 < a)) then s.refuse .badValue
        else if first = false ∧ s.flc.staged = none then s.refuse .wrongState
        else
          let list := (if first then [] else s.flc.staged.getD []) ++ new
          if 96 < list.length then s.refuse .badValue
          else if final then (s.putListInForce list).ok (beBytes 1 list.length)
          else State.ok { s with flc := { s.flc with staged := some list } } (beBytes 1 list.length)

def execSetPollList (payload : List Byte) (s : State) : Host.Outcome State Fault Refusal :=
  .next (s.takeFrame (gated (setPollListCommand payload)))

/-- The stations delisted when RESTORE SETTINGS has written new settings over `old` (R109, R110). -/
def State.lineDelist (s : State) (old : Settings) : State :=
  if s.settings.pollList = old.pollList then s else s.delistGone old.pollList

/-- The walk, and the staged list, after RESTORE SETTINGS has written new settings over `old` (R109,
R110). -/
def State.lineRestart (s : State) (old : Settings) : State :=
  if s.settings.pollList = old.pollList then s
  else State.restartWalk { s with flc := { s.flc with staged := none } }

/-! ## READ STATION (R111) -/

/-- The response of READ STATION (R111). -/
def State.encodeStation (s : State) (address : Nat) : List Byte :=
  let r := s.station address
  beBytes 1 s.flc.polling.code ++ beBytes 1 s.flc.position ++
  beBytes 1 (match s.flc.phase with | some p => p.code | none => 0) ++
  beBytes 1 s.settings.pollList.length ++ beBytes 1 (s.flc.staged.getD []).length ++
  beBytes 1 (s.settings.pollList.count address) ++ beBytes 1 (s.role address).code ++
  beBytes 1 r.state.code ++ beBytes 1 r.misses ++ beBytes 1 r.errors ++ beBytes 1 r.last.code ++
  beBytes 4 (match r.lastGood with | some t => elapsedMs s.now t | none => 0) ++
  markByte r.lastGood.isNone

/-- READ STATION (R111). -/
def readStationCommand (payload : List Byte) (s : State) : Answer :=
  match splitFields [1] payload with
  | some [a] =>
    if a = 0 ∨ 127 < a then s.refuse .badValue
    else (s.setStation a { s.station a with errors := 0 }).ok (s.encodeStation a)
  | _ => s.refuse .badLength

def execReadStation (payload : List Byte) (s : State) : Host.Outcome State Fault Refusal :=
  .next (s.takeFrame (readStationCommand payload))

end Sys2Proof.Machine
end

