-- ==== Sys2Proof/Machine/StoredSettings.lean ====
section
/-! DEFINITION. Live and stored settings (chapter 10): the parameter items of SET SETTING, the owners' changes,
saving, restoring, and the settings-fault condition. -/

namespace Sys2Proof.Machine

/-! ## Clamps (R50, R77, R14, R84, R107, R139, R151, R167) -/

/-- Dispatch interval: 0, or 10..300 s (R50). -/
def clampDispatch (v : Nat) : Nat := if v = 0 then 0 else saturate 10 300 v

def GasLimits.setField (l : GasLimits) (k v : Nat) : GasLimits :=
  match k with
  | 0 => { l with ncvMin := min Config.maxNcv v }
  | 1 => { l with ncvMax := min Config.maxNcv v }
  | _ => { l with flowMax := min Config.maxFlow v }

/-- The k-th holder setting in the order of the parameter codes (section 1.5). -/
def HolderSettings.setField (h : HolderSettings) (k v : Nat) : HolderSettings :=
  match k with
  | 0 => { h with lLo := min 1000 v }
  | 1 => { h with lHi := min 1000 v }
  | 2 => { h with hyst := min 100 v }
  | 3 => { h with dNom := min Config.maxFlow v }
  | 4 => { h with dMax := min Config.maxFlow v }
  | 5 => { h with tripLow := min 1000 v }
  | _ => { h with tripHigh := min 1000 v }

/-- The k-th role address in the order GAS_CVG, GAS_BFG, GAS_COG, HOLDER, EXPORT. -/
def RoleAddresses.setField (r : RoleAddresses) (k v : Nat) : RoleAddresses :=
  match k with
  | 0 => { r with gas := { r.gas with cvg := min 127 v } }
  | 1 => { r with gas := { r.gas with bfg := min 127 v } }
  | 2 => { r with gas := { r.gas with cog := min 127 v } }
  | 3 => { r with holder := min 127 v }
  | _ => { r with export_ := min 127 v }

/-- The k-th fault mode; LEVEL_HIGH_TRIP takes OFF and REPORT only (R86). `none` is BAD_VALUE. -/
def Settings.setMode (c : Settings) (m : Monitor) (v : Nat) : Option Settings :=
  (FaultMode.ofCode v).map fun mode =>
    { c with modes := setAt c.modes m.index (storedMode m mode) }

/-- The source of the limit codes 0x02..0x0A, in threes. -/
def limitSource (k : Nat) : Source := if k < 3 then .cvg else if k < 6 then .bfg else .cog

/-- One item of SET SETTING written into settings with its clamp; `none` is BAD_VALUE (R167, R176). -/
def Settings.setItem (c : Settings) (code v : Nat) : Option Settings :=
  if code = 0x01 then some { c with dispatchInterval := clampDispatch v }
  else if 0x02 ≤ code ∧ code ≤ 0x0A then
    let k := code - 0x02
    let src := limitSource k
    some { c with limits := c.limits.put src ((c.limits.get src).setField (k % 3) v) }
  else if 0x0B ≤ code ∧ code ≤ 0x11 then some { c with holder := c.holder.setField (code - 0x0B) v }
  else if 0x12 ≤ code ∧ code ≤ 0x20 then
    match Monitor.all[code - 0x12]? with
    | some m => c.setMode m v
    | none => none
  else if code = 0x21 then some { c with retryTime := saturate 1 600 v }
  else if 0x22 ≤ code ∧ code ≤ 0x26 then some { c with roles := c.roles.setField (code - 0x22) v }
  else if code = 0x27 then some { c with replyTimeout := saturate 5 200 v }
  else if code = 0x28 then some { c with staleThreshold := saturate 1 15 v }
  else if code = 0x2A then
    if v = 900 ∨ v = 1800 ∨ v = 3600 then some { c with periodLength := v } else none
  else if code = 0x2B then some { c with tolerance := min 200 v }
  else if code = 0x2C then some { c with boostStep := min 100000 v }
  else if code = 0x2D then some { c with boostMax := min 500000 v }
  else if code = 0x2E then some { c with exportLimit := min 2000000 v }
  else if code = 0x2F then some { c with stationLoad := min 200000 v }
  else if code = 0x30 then some { c with linkTimeout := min 600 v }
  else if code = 0x31 then some { c with alertMask := BitVec.ofNat 12 v }
  else if code = 0x32 then (BandSide.ofCode v).map fun sd => { c with bandSide := sd }
  else if code = 0x33 then if bandSizes.contains v then some { c with bandSize := v } else none
  else if code = 0x34 then (LockMode.ofCode v).map fun md => { c with lockMode := md }
  else none

/-- All items in turn: when a parameter is named twice the later stands (R167). -/
def Settings.setItems (c : Settings) : List (Nat × Nat) → Option Settings
  | [] => some c
  | (code, v) :: rest =>
    match c.setItem code v with
    | some d => d.setItems rest
    | none => none

/-- The item names the protection side, size or mode (R38, R167). -/
def namesBand (item : Nat × Nat) : Bool := decide (0x32 ≤ item.1) && decide (item.1 ≤ 0x34)

/-! ## Consistency (R7, R14, R77, R167) -/

/-- No non-zero address stands twice. -/
def distinctNonZero : List Nat → Bool
  | [] => true
  | a :: as => (a == 0 || !as.contains a) && distinctNonZero as

def GasLimits.ordered (l : GasLimits) : Bool := decide (l.ncvMin ≤ l.ncvMax)

/-- The consistency rules of R167 among the settings themselves. -/
def Settings.consistent (c : Settings) : Bool :=
  decide (c.holder.lLo + 2 * c.holder.hyst ≤ c.holder.lHi) && decide (c.holder.dNom ≤ c.holder.dMax) &&
    c.limits.cvg.ordered && c.limits.bfg.ordered && c.limits.cog.ordered && distinctNonZero c.roles.list

/-- No role address is bound to a non-free account (R7, R116, R167). -/
def State.rolesUnbound (s : State) (r : RoleAddresses) : Bool := r.list.all fun a => !s.isBound a

/-! ## The owners' changes (R167, R169; assumption log 19 for the order after the first two) -/

/-- The engine's changes: the dispatch interval and the station load (R50, R64). -/
def State.engineChange (s : State) (old : Settings) : State :=
  let t := if s.settings.dispatchInterval ≠ old.dispatchInterval then s.restartDispatch else s
  if t.settings.stationLoad ≠ old.stationLoad then t.recomputeEstimate else t

/-- The link's change: the link-silence timeout (R151). -/
def State.linkChange (s : State) (old : Settings) : State :=
  if s.settings.linkTimeout ≠ old.linkTimeout then
    { s with cl := { s.cl with silence := secondsTimer s.now s.settings.linkTimeout } }
  else s

/-- New live settings come into force at one event and each owner takes its changes: the Supply Monitor
first, then the Fault Supervisor, whose monitors take the stations delisted at the same event too, and
which then settles the admission of each source once (R85, R87, R109); then the others. -/
def State.applySettings (s : State) (new : Settings) : State :=
  let old := s.settings
  let told := ((State.supplyChange { s with settings := new } old).superviseChange old).lineDelist old
  (((told.settleAll.engineChange old).settlementChange old).linkChange old).lineRestart old

/-- The unsaved mark (R168). -/
def State.setUnsaved (s : State) (b : Bool) : State := { s with nvs := { s.nvs with unsaved := b } }

/-! ## SET SETTING and READ SETTINGS (R167, R170) -/

def setSettingCommand (payload : List Byte) (s : State) : Answer :=
  match settingItems payload with
  | none => s.refuse .badLength
  | some l =>
    if l.length = 0 ∨ 10 < l.length then s.refuse .badLength
    else if s.nvs.saving.isSome then s.refuse .busy
    else if l.any namesBand && s.bandEnforced then s.refuse .protected_
    else match s.settings.setItems l with
      | none => s.refuse .badValue
      | some c =>
        if c.consistent && s.rolesUnbound c.roles then ((s.setUnsaved true).applySettings c).ok []
        else s.refuse .badValue

def execSetSetting (payload : List Byte) (s : State) : Host.Outcome State Fault Refusal :=
  .next (s.takeFrame (gated (setSettingCommand payload)))

/-- The marks behind the values of READ SETTINGS: unsaved, stored-record state (VALID 0, INVALID 1),
settings-fault condition (R170). -/
def State.encodeSettingsMarks (s : State) : List Byte :=
  markByte s.nvs.unsaved ++ beBytes 1 (!s.store.settings.good).toNat ++ markByte s.nvs.settingsFault

/-- READ SETTINGS (R170). -/
def readSettingsCommand (payload : List Byte) (s : State) : Answer :=
  match splitFields [1] payload with
  | some [0] => s.ok (s.settings.encode ++ s.encodeSettingsMarks)
  | some [1] => s.ok ((s.settings.pollList.flatMap (beBytes 1)) ++ s.encodeSettingsMarks)
  | some _ => s.refuse .badValue
  | none => s.refuse .badLength

def execReadSettings (payload : List Byte) (s : State) : Host.Outcome State Fault Refusal :=
  .next (s.takeFrame (readSettingsCommand payload))

/-! ## Saving (R168) -/

/-- SAVE SETTINGS begins the write: the stored record fails its check until the write completes. -/
def saveCommand (s : State) : Answer :=
  if s.nvs.saving.isSome then s.refuse .busy
  else State.ok { s with
    nvs := { s.nvs with saving := some s.settings }
    store := { s.store with settings := { s.store.settings with good := false } } } []

def execSaveSettings (payload : List Byte) (s : State) : Host.Outcome State Fault Refusal :=
  .next (s.takeFrame (gated (bare payload saveCommand)))

/-- The settings-fault condition clears, and polling begins (R112, R168, R170). -/
def State.clearCondition (s : State) : State :=
  State.beginPolling { s with nvs := { s.nvs with settingsFault := false } }

/-- The settings write completes (R168). -/
def State.completeSave (s : State) (c : Settings) : State :=
  State.clearCondition { s with
    nvs := { s.nvs with saving := none, unsaved := false }
    store := { s.store with settings := ⟨c, true⟩ } }

def execSaveCompletion (s : State) : Host.Outcome State Fault Refusal :=
  .next (match s.nvs.saving with
    | some c => s.completeSave c
    | none => s)

/-! ## Restoring (R40, R169) -/

/-- A stored role address that is now bound to a non-free account is loaded as 0 (R169). -/
def State.freeRole (s : State) (address : Nat) : Nat := if s.isBound address then 0 else address

def State.freeRoles (s : State) (r : RoleAddresses) : RoleAddresses :=
  ⟨⟨s.freeRole r.gas.cvg, s.freeRole r.gas.bfg, s.freeRole r.gas.cog⟩, s.freeRole r.holder,
    s.freeRole r.export_⟩

/-- The live settings a restore of `c` brings: the enforced band keeps its side, size and mode (R40). -/
def State.restored (s : State) (c : Settings) : Settings :=
  let d : Settings := { c with roles := s.freeRoles c.roles }
  if s.bandEnforced then
    { d with
      bandSide := s.settings.bandSide, bandSize := s.settings.bandSize, lockMode := s.settings.lockMode }
  else d

/-- RESTORE SETTINGS (R169). -/
def restoreCommand (s : State) : Answer :=
  if s.nvs.saving.isSome then s.refuse .busy
  else if s.store.settings.good = false then s.refuse .settingsFault
  else
    let c := s.restored s.store.settings.value
    ((s.setUnsaved (decide (c ≠ s.store.settings.value))).applySettings c).ok []

def execRestoreSettings (payload : List Byte) (s : State) : Host.Outcome State Fault Refusal :=
  .next (s.takeFrame (gated (bare payload restoreCommand)))

/-! ## CLEAR SETTINGS FAULT (R170) -/

def clearSettingsFaultCommand (s : State) : Answer :=
  if s.nvs.settingsFault then s.clearCondition.ok [] else s.ok []

def execClearSettingsFault (payload : List Byte) (s : State) : Host.Outcome State Fault Refusal :=
  .next (s.takeFrame (gated (bare payload clearSettingsFaultCommand)))

end Sys2Proof.Machine
end

