-- ==== Sys2Proof/Machine/StartUp.lean ====
section
/-! DEFINITION. Resets and start-up (section 10.3): the three reset kinds, what a reset may do to the store, and
the loading of settings, offtakes, accounts and the flare record. -/

namespace Sys2Proof.Machine

/-! ## Resets (R171, R172) -/

/-- A stored item is left failing its check. -/
def Checked.broken {α : Type} (c : Checked α) : Checked α := { c with good := false }

/-- Some stored offtake record carries the sequence number just below the stored counter (R46). -/
def Store.counterAhead (d : Store) : Bool :=
  d.offtakes.toList.any fun r => r.good && r.value.state != 0 && r.value.sequence + 1 == d.counter.value

/-- What a reset did to one stored item (R34, R46, R70, R132, R168). -/
def Store.tear (d : Store) (t : Torn) : Store :=
  match t with
  | .offtake i c => { d with offtakes := setAt d.offtakes i ⟨c, false⟩ }
  | .account i c => { d with accounts := setAt d.accounts i ⟨c, false⟩ }
  | .sequenceCounter => { d with counter := d.counter.broken }
  | .counterUnwritten =>
    if d.counter.good && d.counterAhead then { d with counter := ⟨d.counter.value - 1, true⟩ } else d
  | .closeNumber => { d with closeNumber := d.closeNumber.broken }
  | .flareRecord => { d with flare := d.flare.broken }
  | .settings => { d with settings := d.settings.broken }

/-- The marks of the part's state at a RESET_N reset or a RESET PART (R172). -/
def State.resetNote (s : State) (cause : ResetCause) : ResetRecord :=
  ⟨cause, s.cl.standalone, s.ae.run.isSome, s.nvs.saving.isSome⟩

/-- All volatile state is discarded and start-up begins (R171). The LOCK level and the queue lie
outside the part. -/
def State.beginReset (s : State) (record : ResetRecord) (torn : List Torn) : State :=
  State.begun (torn.foldl Store.tear s.store) record s.lockLine s.picks s.pending

def execPowerOn (torn : List Torn) (s : State) : Host.Outcome State Fault Refusal :=
  .next (s.beginReset ⟨.powerOn, false, false, false⟩ torn)

def execResetLine (torn : List Torn) (s : State) : Host.Outcome State Fault Refusal :=
  .next (s.beginReset (s.resetNote .resetLine) torn)

/-- RESET PART (R165): no response is placed; the buffer holds NONE after the reset. -/
def execResetPart (payload : List Byte) (torn : List Torn) (s : State) :
    Host.Outcome State Fault Refusal :=
  .next (if s.hearsFrame && payload.isEmpty then s.beginReset (s.resetNote .command) torn
    else s.takeFrame fun t => t.refuse .badLength)

/-! ## Start-up, steps 1 and 2: permanent lock and settings (R39, R40, R171) -/

def State.loadLock (s : State) : State :=
  { s with ot := { s.ot with permanentLock := s.store.lock.mark } }

/-- The settings record is checked; its values or the defaults become live (R171, step 2). -/
def State.loadSettings (s : State) : State :=
  if s.store.settings.good then
    { s with
      settings := s.store.settings.value
      nvs := { s.nvs with unsaved := false, settingsFault := false } }
  else
    State.raise { s with
      settings := Settings.defaults
      nvs := { s.nvs with unsaved := true, settingsFault := true } } .settingsFault

/-- A permanent lock holds the band it was locked with (R40). -/
def State.holdBand (s : State) : State :=
  let k := s.store.lock
  if k.mark && !(s.settings.bandSide == k.side && s.settings.bandSize == k.size) then
    State.setUnsaved { s with settings := { s.settings with bandSide := k.side, bandSize := k.size } }
      true
  else s

/-! ## Start-up, step 3: offtakes and the sequence counter (R34, R46, R47) -/

/-- The class a stored record holds, its codes and values saturated into range (R34). -/
def StoredOfftake.use (r : StoredOfftake) : Use :=
  match OfftakeClass.ofCode r.cls with
  | some .works => .works
  | some .steam => .steam
  | some .townHeat => .townHeat ((Zone.ofNumber (saturate 1 4 r.zone)).getD .z4)
  | _ => .power (saturate 200 500 r.yield)

/-- The entry a stored record gives, with each value saturated into its range (R34); a good record
holds every value in range already. -/
def StoredOfftake.entry (r : StoredOfftake) (state : OfftakeState) (damaged : Bool) : Offtake where
  number := saturate 1 65535 r.number
  use := StoredOfftake.use r
  priority := min 7 r.priority
  accepted := if r.accepted.isEmpty then SourceSet.all else r.accepted
  floor := min (maxSat r.ceiling) (maxSat r.floor)
  ceiling := maxSat r.ceiling
  demand := maxSat r.fallback
  fallback := maxSat r.fallback
  boost := 0
  state := state
  sequence := saturate 1 (Config.counterEnd - 1) r.sequence
  damaged := damaged
  grant := Grant.zero

/-- The state a good record reloads in; `none` is FREE (R47). -/
def reloadState (code : Nat) : Option OfftakeState :=
  match code with
  | 0 => none
  | 1 => some .pending
  | 2 => some .pending
  | 3 => some .suspended
  | _ => some .retiring

/-- Load a slot whose record passes its check; one stored ACTIVE is written back as PENDING (R47). -/
def State.loadGoodOfftake (s : State) (i : Fin 48) : State :=
  let r := s.store.offtakes[i]
  if r.good then
    let e := (reloadState r.value.state).map fun st => StoredOfftake.entry r.value st r.value.damaged
    if r.value.state = 2 then s.writeEntry i e else s.setEntry i e
  else s

/-- The entry a failing record loads as, damaged and SUSPENDED, or FREE (R34). -/
def State.damagedOfftake (s : State) (r : StoredOfftake) : Option Offtake :=
  if r.state = 0 ∨ r.number = 0 then none
  else
    let e := StoredOfftake.entry r .suspended true
    if (s.findOfftake e.number).isSome then none else some e

/-- Load a slot whose record fails its check, and write it back (R34). -/
def State.loadFailingOfftake (s : State) (i : Fin 48) : State :=
  let r := s.store.offtakes[i]
  if r.good then s
  else (s.writeEntry i (s.damagedOfftake r.value)).raise .recordDamaged

/-- The counter raised past one sequence number, saturating (R25, R34). -/
def raisePast (counter sequence : Nat) : Nat :=
  if counter ≤ sequence then min Config.counterEnd (sequence + 1) else counter

/-- The counter raised past every loaded entry (R34). -/
def State.counterPast (s : State) (counter : Nat) : Nat :=
  slots48.foldl (fun c i => match s.entry i with | some e => raisePast c e.sequence | none => c) counter

/-- Load the admission sequence counter (R46): a failing one counts from 1, is written back and sets
RECORD_DAMAGED; each raise is written. -/
def State.loadCounter (s : State) : State :=
  let item := s.store.counter
  let n := s.counterPast (if item.good then item.value else 1)
  if item.good then
    if n = item.value then { s with ot := { s.ot with counter := n } } else s.writeCounter n
  else (s.writeCounter n).raise .recordDamaged

/-- The offtake table and the counter: passing records first, then failing ones, in slot order. -/
def State.loadOfftakes (s : State) : State :=
  (slots48.foldl State.loadFailingOfftake (slots48.foldl State.loadGoodOfftake s)).loadCounter

/-! ## Start-up, step 3: accounts and the billing-close number (R132, R137) -/

def saturateTemp (t : Int) : Int := max (-2000) (min 15000 t)

/-- A stored band with each part saturated into its range (R132). -/
def saturateBand (b : EnergyBand) : EnergyBand := ⟨min 999999999 b.kwh, min 999 b.wh⟩

def saturateBaseline (b : Baseline) : Baseline :=
  ⟨min (Config.volumeModulus - 1) b.volume, saturateTemp b.flowTemp, saturateTemp b.returnTemp⟩

/-- A stored closed copy saturated into range. R114 gives the number of the copy no range; that a stored 0
stays 0 is the model's choice (assumption log 39). -/
def saturateCopy (c : ClosedCopy) : ClosedCopy :=
  ⟨saturateBand c.recovered, saturateBand c.fired, min Config.maxNumber c.number⟩

/-- The account a good record gives (R137). -/
def StoredAccount.account (r : StoredAccount) (state : AccountState) : Account where
  number := r.number
  station := r.station
  zone := (Zone.ofNumber r.zone).getD .z1
  flowLimit := r.flowLimit
  state := state
  damaged := r.damaged
  baseline := r.baseline
  lastReading := none
  residue := r.residue
  recovered := r.recovered
  fired := r.fired
  gaps := r.gaps
  implausibles := r.implausibles
  reverses := r.reverses
  marks := r.marks
  closed := r.closed
  final := r.final

/-- The account a failing record gives, HOLDING and damaged, bound to `station` (R132). -/
def StoredAccount.salvaged (r : StoredAccount) (station : Nat) : Account where
  number := min Config.maxNumber r.number
  station := station
  zone := (Zone.ofNumber r.zone).getD .z1
  flowLimit := min 2000000 r.flowLimit
  state := .holding
  damaged := true
  baseline := r.baseline.map saturateBaseline
  lastReading := none
  residue := min 99999 r.residue
  recovered := saturateBand r.recovered
  fired := saturateBand r.fired
  gaps := min 255 r.gaps
  implausibles := min 255 r.implausibles
  reverses := min 255 r.reverses
  marks := { r.marks with saturated := true, implausible := true, reverse := true }
  closed := r.closed.map saturateCopy
  final := none

/-- Load a slot whose record passes its check (R137). -/
def State.loadGoodAccount (s : State) (i : Fin 64) : State :=
  let r := s.store.accounts[i]
  if r.good then s.setAccount i ((AccountState.ofCode r.value.state).map (StoredAccount.account r.value))
  else s

/-- The station address a failing record loads with: 0 when it lies outside 1..127, is bound already or
is a role address (R132). -/
def State.salvagedStation (s : State) (address : Nat) : Nat :=
  if 127 < address || s.isBound address || s.settings.roles.holds address then 0 else address

/-- The account a failing record loads as; `none` is FREE (R132). -/
def State.damagedAccount (s : State) (r : StoredAccount) : Option Account :=
  if r.state = 0 ∨ r.number = 0 ∨ (s.findAccount (min Config.maxNumber r.number)).isSome = true then none
  else some (StoredAccount.salvaged r (s.salvagedStation r.station))

/-- Load a slot whose record fails its check, and write it back. A slot stored FREE sets no flag; any
other sets RECORD_DAMAGED, and one loaded as an account sets ACCOUNT_EVENT with its marks (R132). -/
def State.loadFailingAccount (s : State) (i : Fin 64) : State :=
  let r := s.store.accounts[i]
  if r.good then s
  else
    let a := s.damagedAccount r.value
    ((s.writeAccount i a).raiseIf (decide (r.value.state ≠ 0)) .recordDamaged).raiseIf a.isSome
      .accountEvent

/-- A live role address to which a good record is bound is set to 0, which sets the unsaved mark (R132,
R171). -/
def State.yieldRoles (s : State) : State :=
  let r := s.freeRoles s.settings.roles
  if r = s.settings.roles then s
  else State.setUnsaved { s with settings := { s.settings with roles := r } } true

/-- The billing-close number from its own item (R132). -/
def State.loadCloseNumber (s : State) : State :=
  let item := s.store.closeNumber
  if item.good then { s with hau := { s.hau with closeNumber := item.value } }
  else State.raise { s with
    hau := { s.hau with closeNumber := 0 }
    store := { s.store with closeNumber := ⟨0, true⟩ } } .recordDamaged

def State.loadAccounts (s : State) : State :=
  (slots64.foldl State.loadFailingAccount
    (slots64.foldl State.loadGoodAccount s).yieldRoles).loadCloseNumber

/-! ## Start-up, step 3: the flare record (R70) -/

def State.loadFlare (s : State) : State :=
  let item := s.store.flare
  if item.good then
    { s with ae := { s.ae with flareTotal := item.value.total, flareResidue := item.value.residue } }
  else State.raise { s with
    ae := { s.ae with flareTotal := ⟨0, 0⟩, flareResidue := ⟨0, 0⟩ }
    store := { s.store with flare := ⟨⟨⟨0, 0⟩, ⟨0, 0⟩⟩, true⟩ } } .recordDamaged

/-! ## Start-up, step 4: complete (R17, R75, R112, R150, R157, R171) -/

/-- The owners take the live settings as start-up leaves them: station addresses of the supply records
and the meter silent mark (R17, R150). -/
def State.placeRoles (s : State) : State :=
  { s with
    sm := Supply.blank s.settings.roles
    esu := Settlement.blank s.settings.roles.export_ }

/-- The dispatch, flare and link-silence timers start (R75, R157). -/
def State.startTimers (s : State) : State :=
  { s with
    startingUp := false
    ae := { s.ae with
      dispatch := secondsTimer s.now s.settings.dispatchInterval
      flarePoint := s.now
      flareTimer := some (after s.now Config.kwhMs) }
    cl := { s.cl with silence := secondsTimer s.now s.settings.linkTimeout } }

/-- Start-up in its order (R171). -/
def State.startUp (s : State) : State :=
  let t := s.loadLock.loadSettings.holdBand.loadOfftakes.loadAccounts.loadFlare.placeRoles.startTimers
  if t.nvs.settingsFault then t else t.beginPolling

def execStartUpComplete (s : State) : Host.Outcome State Fault Refusal :=
  .next (if s.startingUp then s.startUp else s)

end Sys2Proof.Machine
end

