-- ==== Sys2Proof/Machine/CommandLink.lean ====
section
/-! DEFINITION. The Command Link (chapters 8 and 9): transactions and discarded frames, NO-OP, standalone
operation, and the reset-cause record. -/

namespace Sys2Proof.Machine

/-- Chip select falls: the status byte is formed and the response buffer is shifted out as it stands
(R161, R162). -/
def execTransactionBegin (s : State) : Host.Outcome State Fault Refusal :=
  .next { s with cl := { s.cl with shiftOut := some s.output } }

/-- A frame is discarded at the end of its transaction (R160): LINK_ERROR, and the result replaces the
response. Before start-up is complete it is discarded without either (R166). -/
def State.discardFrame (s : State) (code : ResultCode) : State :=
  if s.hearsFrame then (s.endTransaction.raise .linkError).respond ⟨code, []⟩ else s.endTransaction

/-- A malformed frame (R160). -/
def execFrameError (s : State) : Host.Outcome State Fault Refusal := .next (s.discardFrame .frameError)

/-- A whole frame whose check byte does not match (R160). -/
def execCheckError (s : State) : Host.Outcome State Fault Refusal := .next (s.discardFrame .checkError)

/-- A good frame whose command byte names no command; code and payload are not examined further
(R163). -/
def execUnknownCommand (_code : Byte) (_payload : List Byte) (s : State) :
    Host.Outcome State Fault Refusal :=
  .next (s.takeFrame fun t => t.refuse .unknownCommand)

/-- NO-OP (R164). -/
def execNoOp (_payload : List Byte) (s : State) : Host.Outcome State Fault Refusal :=
  .next (s.takeFrame fun t => t.ok [])

/-- READ RESET CAUSE (R172). -/
def execReadResetCause (payload : List Byte) (s : State) : Host.Outcome State Fault Refusal :=
  .next (s.takeFrame (bare payload fun t => t.ok t.cl.resetCause.encode))

/-- Leave standalone operation: the flag, the timer, and a request for a run, in that order (R156). -/
def State.leaveStandalone (s : State) : State :=
  State.requestRun (State.restartSilence { s with cl := { s.cl with standalone := false } })

/-- RESUME LINK (R156). -/
def resumeLinkCommand (s : State) : Answer :=
  if s.cl.standalone then s.leaveStandalone.ok [] else s.ok []

def execResumeLink (payload : List Byte) (s : State) : Host.Outcome State Fault Refusal :=
  .next (s.takeFrame (bare payload resumeLinkCommand))

/-- Enter standalone operation: the flag and the timer, the alert, the boosts, and a request for a run,
in that order (R153). -/
def State.enterStandalone (s : State) : State :=
  let t : State := { s with cl := { s.cl with standalone := true, silence := none } }
  (t.raise .standaloneEntered).zeroBoosts.requestRun

/-- The link-silence timer expires (R153). -/
def execLinkSilenceTimerExpiry (s : State) : Host.Outcome State Fault Refusal :=
  .next (match s.cl.silence with
    | none => s
    | some e => (s.atExpiry e).enterStandalone)

end Sys2Proof.Machine
end

