-- ==== Sys2Proof/Machine/Dispatch.lean ====
section
/-! DEFINITION. The dispatch: one arm for each command or event of the table. -/

namespace Sys2Proof.Machine

def exec (i : Instr) (s : State) : Host.Outcome State Fault Refusal :=
  match i with
  | .powerOn torn => Sys2Proof.Machine.execPowerOn torn s
  | .resetLine torn => Sys2Proof.Machine.execResetLine torn s
  | .startUpComplete => Sys2Proof.Machine.execStartUpComplete s
  | .lockLineChange asserted => Sys2Proof.Machine.execLockLineChange asserted s
  | .transactionBegin => Sys2Proof.Machine.execTransactionBegin s
  | .frameError => Sys2Proof.Machine.execFrameError s
  | .checkError => Sys2Proof.Machine.execCheckError s
  | .unknownCommand code payload => Sys2Proof.Machine.execUnknownCommand code payload s
  | .noOp payload => Sys2Proof.Machine.execNoOp payload s
  | .resetPart payload torn => Sys2Proof.Machine.execResetPart payload torn s
  | .resumeLink payload => Sys2Proof.Machine.execResumeLink payload s
  | .readResetCause payload => Sys2Proof.Machine.execReadResetCause payload s
  | .setSetting payload => Sys2Proof.Machine.execSetSetting payload s
  | .readSettings payload => Sys2Proof.Machine.execReadSettings payload s
  | .saveSettings payload => Sys2Proof.Machine.execSaveSettings payload s
  | .saveCompletion => Sys2Proof.Machine.execSaveCompletion s
  | .restoreSettings payload => Sys2Proof.Machine.execRestoreSettings payload s
  | .clearSettingsFault payload => Sys2Proof.Machine.execClearSettingsFault payload s
  | .readSupply payload => Sys2Proof.Machine.execReadSupply payload s
  | .admitOfftake payload => Sys2Proof.Machine.execAdmitOfftake payload s
  | .amendOfftake payload => Sys2Proof.Machine.execAmendOfftake payload s
  | .setDemand payload => Sys2Proof.Machine.execSetDemand payload s
  | .suspendOfftake payload => Sys2Proof.Machine.execSuspendOfftake payload s
  | .reinstateOfftake payload => Sys2Proof.Machine.execReinstateOfftake payload s
  | .retireOfftake payload => Sys2Proof.Machine.execRetireOfftake payload s
  | .setProtection payload => Sys2Proof.Machine.execSetProtection payload s
  | .lockPermanently payload => Sys2Proof.Machine.execLockPermanently payload s
  | .readTable payload => Sys2Proof.Machine.execReadTable payload s
  | .readOfftake payload => Sys2Proof.Machine.execReadOfftake payload s
  | .findOfftakes payload => Sys2Proof.Machine.execFindOfftakes payload s
  | .readNextOfftake payload => Sys2Proof.Machine.execReadNextOfftake payload s
  | .readGrants payload => Sys2Proof.Machine.execReadGrants payload s
  | .startRun payload => Sys2Proof.Machine.execStartRun payload s
  | .abortRun payload => Sys2Proof.Machine.execAbortRun payload s
  | .readRunSummary payload => Sys2Proof.Machine.execReadRunSummary payload s
  | .readFlareTotals payload => Sys2Proof.Machine.execReadFlareTotals payload s
  | .readFaults payload => Sys2Proof.Machine.execReadFaults payload s
  | .readCounters payload => Sys2Proof.Machine.execReadCounters payload s
  | .clearFaults payload => Sys2Proof.Machine.execClearFaults payload s
  | .readAlert payload => Sys2Proof.Machine.execReadAlert payload s
  | .clearAlert payload => Sys2Proof.Machine.execClearAlert payload s
  | .setAlertMask payload => Sys2Proof.Machine.execSetAlertMask payload s
  | .setPollList payload => Sys2Proof.Machine.execSetPollList payload s
  | .readStation payload => Sys2Proof.Machine.execReadStation payload s
  | .gapTimerExpiry => Sys2Proof.Machine.execGapTimerExpiry s
  | .querySent => Sys2Proof.Machine.execQuerySent s
  | .replyTimerExpiry arrived => Sys2Proof.Machine.execReplyTimerExpiry arrived s
  | .reportComplete report => Sys2Proof.Machine.execReportComplete report s
  | .openAccount payload => Sys2Proof.Machine.execOpenAccount payload s
  | .closeBillingPeriod payload => Sys2Proof.Machine.execCloseBillingPeriod payload s
  | .collectAccount payload => Sys2Proof.Machine.execCollectAccount payload s
  | .closeAccount payload => Sys2Proof.Machine.execCloseAccount payload s
  | .forceFinal payload => Sys2Proof.Machine.execForceFinal payload s
  | .clearAccountMarks payload => Sys2Proof.Machine.execClearAccountMarks payload s
  | .readAccount payload => Sys2Proof.Machine.execReadAccount payload s
  | .findAccounts payload => Sys2Proof.Machine.execFindAccounts payload s
  | .readNextAccount payload => Sys2Proof.Machine.execReadNextAccount payload s
  | .startSettlement payload => Sys2Proof.Machine.execStartSettlement payload s
  | .declare payload => Sys2Proof.Machine.execDeclare payload s
  | .stopSettlement payload => Sys2Proof.Machine.execStopSettlement payload s
  | .readSettlement payload => Sys2Proof.Machine.execReadSettlement payload s
  | .periodTimerExpiry => Sys2Proof.Machine.execPeriodTimerExpiry s
  | .dispatchTimerExpiry => Sys2Proof.Machine.execDispatchTimerExpiry s
  | .runCompletion => Sys2Proof.Machine.execRunCompletion s
  | .flareTimerExpiry => Sys2Proof.Machine.execFlareTimerExpiry s
  | .retryTimerExpiry monitor => Sys2Proof.Machine.execRetryTimerExpiry monitor s
  | .linkSilenceTimerExpiry => Sys2Proof.Machine.execLinkSilenceTimerExpiry s

end Sys2Proof.Machine
end

