-- ==== Sys2Proof/Machine/Clock.lean ====
section
/-! DEFINITION. What the part does while no command waits (assumption log 1): it takes the expiry of a timer
that is due, or lets one millisecond pass. -/

namespace Sys2Proof.Machine

/-- The expiries of the timers that are due. The reply timer expires with nothing arrived: bytes that did
arrive are said by a REPLY_TIMER_EXPIRY of the queue. -/
def State.dueEvents (s : State) : List Instr :=
  (if isDue s.flc.gapTimer s.now then [.gapTimerExpiry] else []) ++
  (if isDue s.flc.replyTimer s.now then [.replyTimerExpiry []] else []) ++
  (Monitor.all.filter fun m => isDue (s.monitor m).timer s.now).map Instr.retryTimerExpiry ++
  (if isDue s.esu.timer s.now then [.periodTimerExpiry] else []) ++
  (if isDue s.ae.dispatch s.now then [.dispatchTimerExpiry] else []) ++
  (if isDue s.ae.flareTimer s.now then [.flareTimerExpiry] else []) ++
  (if isDue s.cl.silence s.now then [.linkSilenceTimerExpiry] else [])

/-- One millisecond passes on the internal base. -/
def State.tick (s : State) : State := { s with now := after s.now 1 }

/-- The part with no command waiting: a due expiry, the free value choosing among several (R49: either
may be taken first), or a tick. -/
def State.idle (s : State) : Host.Outcome State Fault Refusal :=
  match s.dueEvents with
  | [] => .next s.tick
  | [e] => exec e s
  | e :: es =>
    exec (((e :: es)[Config.firstDue s.picks % (es.length + 1)]?).getD e) { s with picks := s.picks + 1 }

end Sys2Proof.Machine
end

