-- ==== Sys2Proof/WellFormed.lean ====
section
/-! DEFINITION. Which commands and events the outside world can send: payloads a frame can carry, codes
that name no command, bytes that do or do not make up a report, and stored content that fits its fields.
No meaning leans on these checks. -/

namespace Sys2Proof

/-- A payload a request frame can carry (R158). -/
def payloadFits (p : List Byte) : Bool := decide (p.length ≤ maxPayload)

/-- The byte names no command (R163, R176). -/
def namesNoCommand (code : Byte) : Bool := commandOf [] code [] == .unknownCommand code []

/-- The bytes hold no complete report, as far as they had arrived (R98, R99). -/
def noReportIn (arrived : List Byte) : Bool :=
  (List.range (arrived.length + 1)).all fun n => (Machine.Report.read (arrived.take n)).isNone

/-- The content fits the widths of the stored fields of an offtake record (R46, R174). -/
def StoredOfftake.fits (r : StoredOfftake) : Bool :=
  decide (r.number < 65536) && decide (r.cls < 256) && decide (r.zone < 256) &&
    decide (r.yield < 65536) && decide (r.priority < 256) && decide (r.floor < 16777216) &&
    decide (r.ceiling < 16777216) && decide (r.fallback < 16777216) && decide (r.state < 256) &&
    decide (r.sequence < 4294967296)

def EnergyBand.fits (b : EnergyBand) : Bool := decide (b.kwh < 4294967296) && decide (b.wh < 65536)

/-- A temperature fits two bytes. -/
def tempFits (t : Int) : Bool := decide (-32768 ≤ t) && decide (t < 32768)

def Baseline.fits (b : Baseline) : Bool :=
  decide (b.volume < 4294967296) && tempFits b.flowTemp && tempFits b.returnTemp

def ClosedCopy.fits (c : ClosedCopy) : Bool :=
  c.recovered.fits && c.fired.fits && decide (c.number < 4294967296)

def FinalTotals.fits (f : FinalTotals) : Bool := f.recovered.fits && f.fired.fits

/-- The content fits the widths of the stored fields of an account record (R136, R174). -/
def StoredAccount.fits (r : StoredAccount) : Bool :=
  decide (r.number < 4294967296) && decide (r.station < 256) && decide (r.zone < 256) &&
    decide (r.flowLimit < 16777216) && decide (r.state < 256) && r.baseline.all Baseline.fits &&
    decide (r.residue < 16777216) && r.recovered.fits && r.fired.fits && decide (r.gaps < 256) &&
    decide (r.implausibles < 256) && decide (r.reverses < 256) && r.closed.all ClosedCopy.fits &&
    r.final.all FinalTotals.fits

/-- What a reset leaves in a torn record fits the record. -/
def Torn.fits : Torn → Bool
  | .offtake _ c => c.fits
  | .account _ c => c.fits
  | .sequenceCounter => true
  | .counterUnwritten => true
  | .closeNumber => true
  | .flareRecord => true
  | .settings => true

/-- The command or event can reach the part as it is written. -/
def Instr.wellFormed (i : Instr) : Bool :=
  (match i.hostFrame with
    | some (_, p) => payloadFits p
    | none => true) &&
  (match i with
    | .powerOn torn => torn.all Torn.fits
    | .resetLine torn => torn.all Torn.fits
    | .resetPart _ torn => torn.all Torn.fits
    | .unknownCommand code _ => namesNoCommand code
    | .replyTimerExpiry arrived => noReportIn arrived
    | .reportComplete report => (Machine.Report.read report).isSome
    | _ => true)

end Sys2Proof
end

