-- ==== Sys2Proof/Safety.lean ====
section
/-! DEFINITION. What a safe part is, in the terms the statements use: when a frame is taken and what the
link is left with, and the laws of the part as properties of a state. -/

namespace Sys2Proof.Machine

/-! ## Frames -/

/-- A frame that ends now is taken: start-up is complete and a transaction is in progress (R158, R166). -/
abbrev State.Taking (s : State) : Prop := s.startingUp = false ∧ s.cl.shiftOut.isSome = true

/-- A frame that ends now is handed to its owner: it is taken, and the part is not in standalone operation
(R155, R159). -/
abbrev State.Serving (s : State) : Prop := s.Taking ∧ s.cl.standalone = false

/-- The link after a good frame that was answered `r` (R152, R159, R161). -/
def State.linkAfter (s : State) (r : Reply) : Link :=
  { s.cl with
    response := r
    shiftOut := none
    silence := if s.cl.standalone then s.cl.silence else secondsTimer s.now s.settings.linkTimeout }

/-- The part after a good frame whose only effect is its answer. -/
def State.answered (s : State) (r : Reply) : State := { s with cl := s.linkAfter r }

/-- Commands that standalone operation refuses as soon as their code is recognised (R155). READ FLARE TOTALS
is refused by its option and START SETTLEMENT in the order of R140, so neither stands here. -/
def refusedStandalone : Instr → Bool
  | .setDemand _ => true
  | .admitOfftake _ => true
  | .amendOfftake _ => true
  | .suspendOfftake _ => true
  | .reinstateOfftake _ => true
  | .retireOfftake _ => true
  | .setProtection _ => true
  | .lockPermanently _ => true
  | .startRun _ => true
  | .abortRun _ => true
  | .clearFaults _ => true
  | .setAlertMask _ => true
  | .setPollList _ => true
  | .openAccount _ => true
  | .closeBillingPeriod _ => true
  | .collectAccount _ => true
  | .closeAccount _ => true
  | .forceFinal _ => true
  | .clearAccountMarks _ => true
  | .declare _ => true
  | .stopSettlement _ => true
  | .setSetting _ => true
  | .saveSettings _ => true
  | .restoreSettings _ => true
  | .clearSettingsFault _ => true
  | _ => false

/-- A reset, or the start-up after one (R171). -/
def isReset : Instr → Bool
  | .powerOn _ => true
  | .resetLine _ => true
  | .resetPart _ _ => true
  | .startUpComplete => true
  | _ => false

/-! ## The laws of the Offtake Table -/

/-- An offtake number names at most one slot (R18, R23). -/
def State.NumbersUnique (s : State) : Prop :=
  ∀ i j : Fin 48, ∀ e ∈ s.entry i, ∀ f ∈ s.entry j, e.number = f.number → i = j

/-- What keeps offtake numbers unique over a reset: the stored records that pass their check hold distinct
numbers in range; while the part is up every record passes and holds its slot's number, or FREE; and the
table is empty before the records are loaded (R18, R34, R46, R47). -/
def State.TableStored (s : State) : Prop :=
  (∀ i j : Fin 48,
    (s.store.offtakes[i]).good = true → (s.store.offtakes[i]).value.state ≠ 0 →
    (s.store.offtakes[j]).good = true → (s.store.offtakes[j]).value.state ≠ 0 →
    (s.store.offtakes[i]).value.number = (s.store.offtakes[j]).value.number → i = j) ∧
  (∀ i : Fin 48, (s.store.offtakes[i]).good = true → (s.store.offtakes[i]).value.state ≠ 0 →
    1 ≤ (s.store.offtakes[i]).value.number ∧ (s.store.offtakes[i]).value.number ≤ 65535) ∧
  (s.startingUp = true → ∀ i, s.entry i = none) ∧
  (s.startingUp = false → ∀ i : Fin 48, (s.store.offtakes[i]).good = true ∧
    ((s.store.offtakes[i]).value.state = 0 ↔ s.entry i = none) ∧
    ∀ e ∈ s.entry i, e.number = (s.store.offtakes[i]).value.number)

/-- The use of an entry fits its class (R18). -/
def Use.legal : Use → Prop
  | .power y => 200 ≤ y ∧ y ≤ 500
  | _ => True

/-- Every field of an entry lies in its range (R18). -/
def Offtake.legal (e : Offtake) : Prop :=
  (1 ≤ e.number ∧ e.number ≤ 65535) ∧ Use.legal e.use ∧ e.priority ≤ 7 ∧ e.accepted.isEmpty = false ∧
    e.floor ≤ e.ceiling ∧ e.ceiling ≤ 2000000 ∧ e.fallback ≤ 2000000 ∧
    (1 ≤ e.sequence ∧ e.sequence ≤ 4294967294)

/-- The terms that amendment and protection speak of, with what is fixed at admission (R26, R37). -/
def Offtake.sameTerms (e f : Offtake) : Prop :=
  e.number = f.number ∧ e.use = f.use ∧ e.priority = f.priority ∧ e.accepted = f.accepted ∧
    e.floor = f.floor ∧ e.ceiling = f.ceiling ∧ e.fallback = f.fallback ∧ e.sequence = f.sequence

/-- The boost of every POWER entry lies within 0..boost maximum, and an entry that is not POWER, or not
PENDING or ACTIVE, holds none (R20, R139, R146). -/
def State.BoostsInRange (s : State) : Prop :=
  ∀ i : Fin 48, ∀ e ∈ s.entry i,
    e.boost ≤ s.settings.boostMax ∧ ((Use.isPower e.use && e.takesPart) = false → e.boost = 0)

/-! ## The laws of the Allocation Engine -/

/-- The published grants of one source over all non-free entries (R61). -/
def State.grantSum (s : State) (src : Source) : Nat :=
  (slots48.map fun i => match s.entry i with | some e => e.grant.parts.get src | none => 0).sum

/-- Published grants and surplus make up the pool of the last completed run (R61). -/
def State.Conserved (s : State) : Prop :=
  ∀ src : Source, s.grantSum src + s.ae.surplus.get src = s.ae.lastPools.get src

/-- PENDING and SUSPENDED entries hold a zero grant (R18, R19). -/
def State.WaitingHoldNone (s : State) : Prop :=
  ∀ i : Fin 48, ∀ e ∈ s.entry i,
    (e.state = .pending ∨ e.state = .suspended) → e.grant.parts = ⟨0, 0, 0⟩

/-- The run parts of a run in flight stand for non-free entries, each once; the retiring set holds
RETIRING entries; and every grant that stands is a participant's or a retiring entry's (R52, R53, R60,
R68). -/
def State.RunFits (s : State) (r : Run) : Prop :=
  (r.parts.map RunPart.slot).Nodup ∧
  (∀ p ∈ r.parts, p.grant = ⟨0, 0, 0⟩ ∧ p.floor ≤ p.need ∧ p.slot ∉ r.retiring ∧
    (s.entry p.slot).isSome = true) ∧
  (∀ p ∈ r.parts, ∀ e ∈ s.entry p.slot,
    (p.released = true → e.grant.parts = ⟨0, 0, 0⟩) ∧ (p.released = false → e.state ≠ .suspended)) ∧
  (∀ i ∈ r.retiring, (s.entry i).isSome = true ∧ ∀ e ∈ s.entry i, e.state = .retiring) ∧
  (∀ i : Fin 48, ∀ e ∈ s.entry i, e.grant.parts ≠ ⟨0, 0, 0⟩ →
    i ∈ r.retiring ∨ ∃ p ∈ r.parts, p.slot = i ∧ p.released = false)

/-- Between a reset and the end of start-up the volatile blocks are as the reset left them (R171). -/
def State.Quiet (s : State) : Prop :=
  s.ae = Engine.blank ∧ s.ot = OfftakeTable.blank ∧ s.fs.monitors = Supervisor.blank.monitors ∧
    s.flc.phase = none ∧ s.cl.silence = none ∧ s.nvs.saving = none

/-- What holds of the engine and the table in every state the part reaches. -/
def State.EngineSound (s : State) : Prop :=
  s.WaitingHoldNone ∧ (∀ r ∈ s.ae.run, s.RunFits r) ∧
    (s.ae.rerunPending = true → s.ae.run.isSome = true) ∧ (s.startingUp = true → s.Quiet)

/-- A zone's grant sum never exceeds its need sum, and its coverage is the truncated share in per-mille
(R63). -/
def State.CoverageSound (s : State) : Prop :=
  ∀ z : Zone, s.ae.zoneGrant.get z ≤ s.ae.zoneNeed.get z ∧
    s.ae.coverage.get z = coverageOf (s.ae.zoneGrant.get z) (s.ae.zoneNeed.get z)

/-! ## The law of the Fault Supervisor -/

/-- A source is withdrawn exactly while a monitor acting on it holds it (R87). -/
def State.AdmissionFollowsHolds (s : State) : Prop :=
  ∀ src : Source, s.fs.admission.get src = .withdrawn ↔ s.anyHold src = true

/-! ## The law of station addresses -/

/-- A station is bound to at most one account and is never both bound and a role address (R101, R116). -/
def State.BindingsApart (s : State) : Prop :=
  (∀ i j : Fin 64, ∀ a ∈ s.account i, ∀ b ∈ s.account j,
    a.station ≠ 0 → a.station = b.station → i = j) ∧
  (∀ i : Fin 64, ∀ a ∈ s.account i, s.settings.roles.holds a.station = false)

/-! ## The laws of the account table -/

/-- An account number names at most one slot (R114, R116). -/
def State.AccountNumbersUnique (s : State) : Prop :=
  ∀ i j : Fin 64, ∀ a ∈ s.account i, ∀ b ∈ s.account j, a.number = b.number → i = j

/-- The stored record passes its check and holds an account (R132, R137). -/
def Checked.holdsAccount (r : Checked StoredAccount) : Prop :=
  r.good = true ∧ 1 ≤ r.value.state ∧ r.value.state ≤ 4

/-- What keeps account numbers and bindings apart over a reset: the stored records that hold an account
hold distinct numbers and stations; while the part is up every record passes its check and holds its
slot's number and station, or none; and the table is empty before the records are loaded (R132, R136,
R137). -/
def State.AccountsStored (s : State) : Prop :=
  (∀ i j : Fin 64,
    Checked.holdsAccount s.store.accounts[i] → Checked.holdsAccount s.store.accounts[j] →
    ((s.store.accounts[i]).value.number = (s.store.accounts[j]).value.number → i = j) ∧
    ((s.store.accounts[i]).value.station ≠ 0 →
      (s.store.accounts[i]).value.station = (s.store.accounts[j]).value.station → i = j)) ∧
  (s.startingUp = true → ∀ i, s.account i = none) ∧
  (s.startingUp = false → ∀ i : Fin 64, (s.store.accounts[i]).good = true ∧
    (Checked.holdsAccount s.store.accounts[i] ↔ (s.account i).isSome = true) ∧
    ∀ a ∈ s.account i, a.number = (s.store.accounts[i]).value.number ∧
      a.station = (s.store.accounts[i]).value.station)

/-! ## The end of an exchange -/

/-- The exchange has ended: the gap runs, the record of the queried station is `r`, and no other record
changes (R97, R99). -/
def State.LineAfter (t s : State) (r : StationRecord) : Prop :=
  t.flc = { s.flc with
    phase := some .gap, replyTimer := none, gapTimer := some (s.now + 2)
    stations := t.flc.stations } ∧
  t.station s.flc.queried = r ∧ ∀ a, a ≠ s.flc.queried → t.station a = s.station a

/-- The queried station misses at the moment of `s`, with last event `v` (R99, R103). A change to STALE
reaches the owners of the station's role and nobody else (R6, R15, R80, R82, R87, R106, R124, R143). -/
def State.Misses (t s : State) (v : LastEvent) : Prop :=
  let r := s.station s.flc.queried
  let n := min 255 (r.misses + 1)
  let stale := decide (r.state ≠ .stale ∧ s.settings.staleThreshold ≤ n)
  let held := fun (x : ReadingState) => if x = .fresh then .held else x
  let raised := fun (m : Monitor) =>
    let holds := decide (s.mode m = .latch ∨ s.mode m = .retry)
    if (s.monitor m).raw = true then s.monitor m else ({ s.monitor m with
      raw := true
      counter := min 255 ((s.monitor m).counter + 1)
      latched := (s.monitor m).latched || s.mode m != .off
      hold := (s.monitor m).hold || holds
      timer := if holds then none else (s.monitor m).timer } : MonitorRecord)
  let reaches := fun (m : Monitor) =>
    t.monitor m = raised m ∧ (∀ k, k ≠ m → t.monitor k = s.monitor k) ∧
    ((s.monitor m).raw = false → s.mode m ≠ .off → t.alert .sourceFault = true) ∧
    ((raised m).hold = true → t.fs.admission.get (actsOn m) = .withdrawn)
  t = { s with flc := t.flc, sm := t.sm, ae := t.ae, fs := t.fs, hau := t.hau, esu := t.esu
               store := t.store } ∧
  t.LineAfter s { r with
    state := if stale then .stale else r.state
    misses := n
    errors := min 255 (r.errors + 1)
    last := v } ∧
  (stale = false → t = { s with flc := t.flc }) ∧
  (stale = true → t.alert .stationStale = true ∧
    match s.role s.flc.queried with
    | .gas src => reaches (.gas src .stale) ∧ t.hau = s.hau ∧ t.esu = s.esu ∧
        t.sm = { s.sm with sources := s.sm.sources.put src { s.sm.sources.get src with
          reading := held (s.sm.sources.get src).reading } }
    | .holder => reaches .holderStale ∧ t.hau = s.hau ∧ t.esu = s.esu ∧
        t.sm = { s.sm with holder := { s.sm.holder with reading := held s.sm.holder.reading } }
    | .export_ => t = { s with
        flc := t.flc
        fs := { s.fs with alerts := s.fs.alerts ||| 0x080#12 }
        esu := { s.esu with
          silent := true, current := s.esu.current.map fun p => { p with gap := true } } }
    | .heat i => t = { s with
          flc := t.flc
          fs := { s.fs with alerts := s.fs.alerts ||| 0x080#12 }
          hau := t.hau
          store := t.store } ∧
        (∀ a ∈ s.account i, (a.state = .opened →
            t.account i = some { a with state := .holding } ∧
            t.store.accounts[i] = ⟨storedAccount (t.account i), true⟩) ∧
          (a.state ≠ .opened → t.hau = s.hau ∧ t.store = s.store)) ∧
        ∀ j, j ≠ i → t.account j = s.account j ∧ t.store.accounts[j] = s.store.accounts[j]
    | .unbound => t = { s with
        flc := t.flc
        fs := { s.fs with alerts := s.fs.alerts ||| 0x080#12 } })

/-! ## New live settings -/

/-- The target of a monitor has another role address in `c` than in the live settings (R81). -/
def State.moves (s : State) (c : Settings) (m : Monitor) : Bool :=
  match m with
  | .gas src _ => decide (c.roles.gas.get src ≠ s.settings.roles.gas.get src)
  | _ => decide (c.roles.holder ≠ s.settings.roles.holder)

/-- The condition of a monitor at the address its target has in `c`: a record without a reading has none
but STALE, which is the station's (R81). -/
def State.presentAt (s : State) (c : Settings) (m : Monitor) : Bool :=
  match m with
  | .gas src .stale => decide (c.roles.gas.get src ≠ 0 ∧ (s.station (c.roles.gas.get src)).state = .stale)
  | .holderStale => decide (c.roles.holder ≠ 0 ∧ (s.station c.roles.holder).state = .stale)
  | _ => false

/-- The poll list of `c` delists a LIVE station (R109). -/
def State.drops (s : State) (c : Settings) (address : Nat) : Bool :=
  decide (1 ≤ address ∧ address ≤ 127 ∧ address ∈ s.settings.pollList ∧ address ∉ c.pollList ∧
    (s.station address).state = .live)

/-- The poll list of `c` delists the LIVE station that holds a role under `c` (R101, R106, R109). -/
def State.dropsRole (s : State) (c : Settings) (role : Role) : Bool :=
  addresses.any fun a => s.drops c a && decide (({ s with settings := c } : State).role a = role)

/-- The STALE condition of a monitor appears because its station is delisted (R80, R109). -/
def State.silences (s : State) (c : Settings) (m : Monitor) : Bool :=
  match m with
  | .gas src .stale => s.dropsRole c (.gas src)
  | .holderStale => s.dropsRole c .holder
  | _ => false

/-- A record of a monitor set for a new mode, with the expiry of a retry timer that starts (R85). -/
def MonitorRecord.underMode (r : MonitorRecord) (mode : FaultMode) (expiry : Time) : MonitorRecord :=
  if mode = .off ∨ mode = .report then { r with hold := false, timer := none }
  else if r.raw = true then { r with latched := true, hold := true, timer := none }
  else { r with timer := if mode = .retry ∧ r.hold = true then some expiry else none }

/-- A monitor after `c` has come into force: the change of its target's address acts first, the change of
its mode second (assumption log 18), the delisting of its station last (assumption log 19). -/
def State.monitorUnder (s : State) (c : Settings) (m : Monitor) : MonitorRecord :=
  let expiry := s.now + BitVec.ofNat 32 (c.retryTime * 1000)
  let r := s.monitor m
  let moved :=
    if s.moves c m = false ∨ s.presentAt c m = r.raw then r
    else if s.presentAt c m = true then r.appear (c.mode m)
    else r.disappear (c.mode m) expiry
  let set := if c.mode m = s.mode m then moved else moved.underMode (c.mode m) expiry
  if s.silences c m = true ∧ set.raw = false then set.appear (c.mode m) else set

/-- `t` is what the owners make of `s` when a SET SETTING or a RESTORE SETTINGS has put `c` in force: the
Supply Monitor (R6, R7, R14, R15), the Fault Supervisor (R81, R85, R87), the engine (R50, R64), the
settlement unit (R139, R143), the account unit (R124) and the link (R151). Stations that the poll list of
`c` delists are STALE for them at the same event (R106, R109). -/
def State.TakesOver (t s : State) (c : Settings) : Prop :=
  let moved := c.roles.holder ≠ s.sm.holder.address
  let redrawn := c.holder.dNom ≠ s.settings.holder.dNom ∨ c.holder.dMax ≠ s.settings.holder.dMax
  let draw := match s.sm.holder.band with
    | .unknown => 0
    | .low => 0
    | .normal => c.holder.dNom
    | .high => c.holder.dMax
  let followed := fun (src : Source) =>
    if c.roles.gas.get src = (s.sm.sources.get src).address then s.sm.sources.get src
    else SourceRecord.blank (c.roles.gas.get src)
  let holder : HolderRecord :=
    if moved then ⟨c.roles.holder, .noReading, 0, .unknown, false, false, 0⟩
    else if redrawn then { s.sm.holder with draw := draw } else s.sm.holder
  let reading := fun (dropped : Bool) (x : ReadingState) =>
    if dropped = true ∧ x = .fresh then .held else x
  let silent := decide (c.roles.export_ = 0 ∨ (s.station c.roles.export_).state = .stale ∨
    s.drops c c.roles.export_ = true)
  let gapped := fun (e : Settlement) =>
    { e with silent := true, current := e.current.map fun p => { p with gap := true } }
  let meter := if s.dropsRole c .export_ = true then gapped s.esu else s.esu
  t = { s with
    settings := c, sm := t.sm, ot := t.ot, ae := t.ae, fs := t.fs, flc := t.flc, hau := t.hau
    esu := t.esu, cl := t.cl, nvs := t.nvs, store := t.store } ∧
  (t.sm.holder = { holder with reading := reading (s.dropsRole c .holder) holder.reading } ∧
    ∀ src, t.sm.sources.get src = { followed src with
      reading := reading (s.dropsRole c (.gas src)) (followed src).reading
      availability :=
        if src = .cvg ∧ ((moved ∧ s.sm.holder.band ≠ .unknown) ∨ (¬ moved ∧ redrawn))
        then holder.draw * (followed src).ncv / 3600 else (followed src).availability }) ∧
  ((∀ m, t.monitor m = s.monitorUnder c m) ∧
    (∀ m, ((s.monitor m).latched = false ∧ (t.monitor m).latched = true) ∨
        ((s.monitor m).raw = false ∧ (t.monitor m).raw = true ∧ c.mode m ≠ .off) →
      t.alert .sourceFault = true) ∧
    t.alert .holderBand = (s.alert .holderBand || decide (moved ∧ s.sm.holder.band ≠ .unknown)) ∧
    t.alert .stationStale = (s.alert .stationStale || addresses.any fun a => s.drops c a) ∧
    (∀ f, f ∉ [AlertFlag.sourceFault, .runAborted, .holderBand, .stationStale] →
      t.alert f = s.alert f) ∧
    t.AdmissionFollowsHolds) ∧
  (t.ae = { s.ae with
      run := t.ae.run, runNumber := t.ae.runNumber, rerunPending := t.ae.rerunPending
      dispatch := t.ae.dispatch, flareTotal := t.ae.flareTotal, flareResidue := t.ae.flareResidue
      flarePoint := t.ae.flarePoint, flareTimer := t.ae.flareTimer
      exportEstimate := if c.stationLoad = s.settings.stationLoad then s.ae.exportEstimate
        else s.ae.yieldSum - c.stationLoad } ∧
    (c.dispatchInterval ≠ s.settings.dispatchInterval →
      t.ae.dispatch = secondsTimer s.now c.dispatchInterval)) ∧
  (t.ot = { s.ot with entries := t.ot.entries } ∧
    (∀ i, t.entry i = (s.entry i).map fun e => { e with
      boost := if c.boostMax ≠ s.settings.boostMax ∧ e.use.isPower = true ∧ e.takesPart = true
        then min e.boost c.boostMax else e.boost }) ∧
    t.esu = (if c.roles.export_ = s.settings.roles.export_ then meter
      else if silent then { gapped meter with baseline := none }
      else { meter with baseline := none, silent := false })) ∧
  (t.hau = { s.hau with accounts := t.hau.accounts } ∧
    t.store = { s.store with accounts := t.store.accounts, flare := t.store.flare } ∧
    ∀ i, (∀ a, s.account i = some a → a.state = .opened → s.dropsRole c (.heat i) = true →
        t.account i = some { a with state := .holding } ∧
        t.store.accounts[i] = ⟨storedAccount (t.account i), true⟩) ∧
      ((∀ a, s.account i = some a → a.state = .opened → s.dropsRole c (.heat i) = false) →
        t.account i = s.account i ∧ t.store.accounts[i] = s.store.accounts[i])) ∧
  t.cl = { s.linkAfter ⟨.ok, []⟩ with silence := secondsTimer s.now c.linkTimeout }

end Sys2Proof.Machine
end

