-- ==== Sys2Proof/Certificates/Slice0/Obligations.lean ====
section
/-! DEFINITION. The statements for the provers. Each docstring names the rules a statement rests on, and
the log entry where a clause states the model's own choice. -/

open Sys2Proof Sys2Proof.Machine

/-! ## The step and the queue -/

/-- One step takes the command at the front of the queue and carries it out over the queue's rest. -/
def Obligations.StepTakesTheFront : Prop :=
  ∀ (c : Instr) (rest : List Instr) (s : State), s.pending = c :: rest →
    step s = exec c { s with pending := rest }

/-- No command stops the part (assumption log 33), none touches the queue, and none but LOCK_LINE_CHANGE
moves the LOCK line. That a reset leaves the queue, the picks and the LOCK level as they are is the model's
choice (assumption log 32). -/
def Obligations.EveryCommandGoesOn : Prop :=
  ∀ (c : Instr) (s : State), ∃ t : State, exec c s = .next t ∧ t.pending = s.pending ∧
    t.picks = s.picks ∧ ((∀ b, c ≠ .lockLineChange b) → t.lockLine = s.lockLine)

/-! ## Frames (R158 to R160, R163, R176) -/

/-- Every host command, laid out as a request frame with any filler behind it, is the command that the
end of its transaction brings. -/
def Obligations.HostFramesRoundTrip : Prop :=
  ∀ (i : Instr) (code : Byte) (p filler : List Byte) (torn : List Torn),
    i.wellFormed = true → i.hostFrame = some (code, p) → (∀ q u, i = .resetPart q u → u = torn) →
    endOfTransaction torn (frameBytes code p ++ filler) 0 = some i

/-- A transaction without a bit brings nothing; one with a length byte above 60, with stray bits or cut
short brings a frame error, and a whole frame with another check byte a check error. Each sets
LINK_ERROR, places its result, does not restart the link-silence timer and changes nothing else. A
command byte that names no command is answered UNKNOWN_COMMAND, standalone or not, whatever the payload,
and as a good frame it restarts the timer. -/
def Obligations.SpoiledFramesAreDiscarded : Prop :=
  (∀ (torn : List Torn) (stray : Nat) (code len : Byte) (rest : List Byte),
     endOfTransaction torn [] 0 = none ∧
     endOfTransaction torn [] (stray + 1) = some .frameError ∧
     endOfTransaction torn [code] stray = some .frameError ∧
     (60 < len.toNat → endOfTransaction torn (code :: len :: rest) stray = some .frameError) ∧
     (0 < stray ∨ rest.length ≤ len.toNat →
       endOfTransaction torn (code :: len :: rest) stray = some .frameError) ∧
     (∀ (p filler : List Byte) (check : Byte), len.toNat ≤ 60 → p.length = len.toNat →
       check ≠ xorOf (code :: len :: p) →
       endOfTransaction torn (code :: len :: (p ++ check :: filler)) 0 = some .checkError)) ∧
  (∀ s : State, s.Taking →
     exec .frameError s = .next { s with
       cl := { s.cl with response := ⟨.frameError, []⟩, shiftOut := none }
       fs := { s.fs with alerts := s.fs.alerts ||| 0x100#12 } } ∧
     exec .checkError s = .next { s with
       cl := { s.cl with response := ⟨.checkError, []⟩, shiftOut := none }
       fs := { s.fs with alerts := s.fs.alerts ||| 0x100#12 } }) ∧
  (∀ (code : Byte) (p : List Byte) (s : State), s.Taking →
     exec (.unknownCommand code p) s = .next (s.answered ⟨.unknownCommand, []⟩))

/-! ## Resets and start-up (R17, R34, R47, R75, R95, R113, R137, R150, R157, R166, R171, R172) -/

/-- Each kind of reset discards the volatile state and begins start-up over the stored items as the
reset left them. The cause and the three marks are noted, at power-on with every mark clear. The
volatile state holds the reset values of the rules, block by block. The model's choices: the live
settings read as the defaults until start-up loads them (assumption log 6), the time base starts from 0
(log 4), the LOCK level, the queue and the picks stand over a reset (log 32), and a list says which stored
items the reset spoilt and with what content (logs 10 and 31). -/
def Obligations.ResetsBeginStartUp : Prop :=
  (∀ (torn : List Torn) (s : State),
     exec (.powerOn torn) s = .next (State.begun (torn.foldl Store.tear s.store)
       ⟨.powerOn, false, false, false⟩ s.lockLine s.picks s.pending) ∧
     exec (.resetLine torn) s = .next (State.begun (torn.foldl Store.tear s.store)
       ⟨.resetLine, s.cl.standalone, s.ae.run.isSome, s.nvs.saving.isSome⟩ s.lockLine s.picks s.pending) ∧
     (s.Taking → exec (.resetPart [] torn) s = .next (State.begun (torn.foldl Store.tear s.store)
       ⟨.command, s.cl.standalone, s.ae.run.isSome, s.nvs.saving.isSome⟩ s.lockLine s.picks s.pending)) ∧
     (∀ b p, s.Taking → exec (.resetPart (b :: p) torn) s = .next (s.answered ⟨.badLength, []⟩))) ∧
  (∀ (d : Store) (r : ResetRecord) (lock : Bool) (picks : Nat) (q : List Instr),
     let s := State.begun d r lock picks q
     (s.startingUp = true ∧ s.store = d ∧ s.lockLine = lock ∧ s.pending = q ∧ s.now = 0 ∧
       s.settings = Settings.defaults) ∧
     (∀ src, s.source src = ⟨0, .noReading, 0, 0, 0⟩) ∧
     s.sm.holder = ⟨0, .noReading, 0, .unknown, false, false, 0⟩ ∧
     ((∀ i, s.entry i = none) ∧ s.ot.cursor = ⟨⟨none, none, none⟩, none⟩) ∧
     (s.ae.run = none ∧ s.ae.runNumber = 0 ∧ s.ae.lastCompleted = 0 ∧ s.ae.rerunPending = false ∧
       s.ae.dispatch = none ∧ s.ae.lastPools = ⟨0, 0, 0⟩ ∧ s.ae.surplus = ⟨0, 0, 0⟩ ∧ s.ae.setpoint = 0 ∧
       s.ae.lastNcv = 0 ∧ s.ae.zoneGrant = ⟨0, 0, 0, 0⟩ ∧ s.ae.zoneNeed = ⟨0, 0, 0, 0⟩ ∧
       s.ae.coverage = ⟨0, 0, 0, 0⟩ ∧ s.ae.yieldSum = 0 ∧ s.ae.exportEstimate = 0 ∧ s.ae.short = false) ∧
     ((∀ m, s.monitor m = ⟨false, false, false, 0, none⟩) ∧
       s.fs.admission = ⟨.admitted, .admitted, .admitted⟩ ∧ s.fs.alerts = 0) ∧
     (s.flc.polling = .stopped ∧ s.flc.position = 0 ∧ s.flc.phase = none ∧ s.flc.replyTimer = none ∧
       s.flc.gapTimer = none ∧ s.flc.staged = none ∧ s.flc.replacementWaiting = false ∧
       ∀ a, s.station a = ⟨.unknown, 0, 0, .none, none⟩) ∧
     ((∀ i, s.account i = none) ∧ s.hau.cursor = ⟨⟨none, none, none⟩, none⟩) ∧
     (s.esu.baseline = none ∧ s.esu.current = none ∧ s.esu.timer = none ∧ s.esu.next = none ∧
       s.esu.lastClosed = none ∧ s.esu.outOfBand = 0) ∧
     (s.cl.response = ⟨.none, []⟩ ∧ s.cl.shiftOut = none ∧ s.cl.silence = none ∧
       s.cl.standalone = false ∧ s.cl.resetCause = r) ∧
     s.nvs.saving = none)

/-- Start-up completes: the permanent lock is read, good settings or the defaults become live, the three
timers start, and polling begins unless the settings-fault condition stands. The live settings are those
loaded but for the band that a permanent lock holds (R40) and for a role address to which a good account
record is bound, which comes as 0 (R132); a difference sets the unsaved mark. -/
def Obligations.StartUpCompletes : Prop :=
  ∀ s : State, s.startingUp = true → s.flc.polling = .stopped → s.fs.alerts = 0 →
    ∃ t, exec .startUpComplete s = .next t ∧ t.startingUp = false ∧ t.now = s.now ∧
      t.ae.dispatch = secondsTimer s.now t.settings.dispatchInterval ∧
      t.ae.flareTimer = some (s.now + 3600000) ∧ t.ae.flarePoint = s.now ∧
      t.cl.silence = secondsTimer s.now t.settings.linkTimeout ∧
      t.ot.permanentLock = s.store.lock.mark ∧
      (s.store.lock.mark = true →
        t.settings.bandSide = s.store.lock.side ∧ t.settings.bandSize = s.store.lock.size) ∧
      t.nvs.settingsFault = !s.store.settings.good ∧ t.alert .settingsFault = !s.store.settings.good ∧
      (let c := if s.store.settings.good = true then s.store.settings.value else Settings.defaults
       t.settings = { c with
         roles := t.settings.roles, bandSide := t.settings.bandSide, bandSize := t.settings.bandSize } ∧
       (s.store.lock.mark = false →
         t.settings.bandSide = c.bandSide ∧ t.settings.bandSize = c.bandSize) ∧
       ((∀ i, s.account i = none) → t.settings.roles.list = c.roles.list.map fun address =>
         if ∃ i : Fin 64, (s.store.accounts[i]).good = true ∧ 1 ≤ (s.store.accounts[i]).value.state ∧
             (s.store.accounts[i]).value.state ≤ 4 ∧ (s.store.accounts[i]).value.station = address
         then 0 else address) ∧
       (s.store.settings.good = true → t.nvs.unsaved = decide (t.settings ≠ c)) ∧
       t.flc.polling = (if s.store.settings.good = false then .stopped
         else if c.pollList = [] then .empty else .running)) ∧
      (s.store.settings.good = false → t.nvs.unsaved = true) ∧
      (∀ src, t.source src = SourceRecord.blank (t.settings.roles.gas.get src)) ∧
      t.sm.holder = HolderRecord.blank t.settings.roles.holder ∧
      t.esu.silent = (t.settings.roles.export_ == 0) ∧ t.cl.resetCause = s.cl.resetCause

/-- Good records come back at start-up: an entry with its lasting fields, its demand at its fallback, no
boost and no grant, ACTIVE as PENDING; an account whole but for its last reading time; a FREE slot FREE.
-/
def Obligations.GoodRecordsReload : Prop :=
  ∀ s t : State, s.startingUp = true → exec .startUpComplete s = .next t →
    (∀ (i : Fin 48) (e : Offtake), s.store.offtakes[i] = ⟨e.stored, true⟩ → e.legal →
      t.entry i = some { e with
        demand := e.fallback, boost := 0, grant := Grant.zero
        state := if e.state = .active then .pending else e.state } ∧
      t.store.offtakes[i] = ⟨storedOfftake (t.entry i), true⟩) ∧
    (∀ i : Fin 48, s.store.offtakes[i] = ⟨StoredOfftake.free, true⟩ → t.entry i = none) ∧
    (∀ (i : Fin 64) (a : Account), s.store.accounts[i] = ⟨a.stored, true⟩ →
      t.account i = some { a with lastReading := none }) ∧
    (∀ i : Fin 64, s.store.accounts[i] = ⟨StoredAccount.free, true⟩ → t.account i = none) ∧
    (s.store.closeNumber.good = true → t.hau.closeNumber = s.store.closeNumber.value) ∧
    (s.store.flare.good = true → t.ae.flareTotal = s.store.flare.value.total ∧
      t.ae.flareResidue = s.store.flare.value.residue)

/-- The one failing offtake record of a table that is FREE otherwise loads SUSPENDED and damaged, each
value saturated into its range and a class code that names none taken as the last, is written back with a good check value, and sets RECORD_DAMAGED; the
counter is past its sequence number. A failing record stored FREE, or with number 0, loads FREE (R34).
The one failing account record of a table that is FREE otherwise loads in HOLDING, damaged, with its
values saturated, its three marks set and no last reading time, and without its station where that lies
outside 1..127 or holds a role (R132); that its final totals are dropped is assumption log 20, and that the
number of its closed copy is capped above and a 0 stands is log 39. A failing
sequence counter counts from 1 past every loaded entry, and a failing billing-close number or flare record
loads as 0 (R46, R70, R132). Each is written back and sets RECORD_DAMAGED. -/
def Obligations.FailingOfftakeRecordLoadsDamaged : Prop :=
  (∀ (s t : State) (i : Fin 48) (r : StoredOfftake), s.startingUp = true → s.ot = OfftakeTable.blank →
    s.store.offtakes[i] = ⟨r, false⟩ →
    (∀ j, j ≠ i → s.store.offtakes[j] = ⟨StoredOfftake.free, true⟩) →
    exec .startUpComplete s = .next t →
    t.alert .recordDamaged = true ∧ t.store.offtakes[i] = ⟨storedOfftake (t.entry i), true⟩ ∧
    (r.state = 0 ∨ r.number = 0 → t.entry i = none) ∧
    (r.state ≠ 0 → r.number ≠ 0 → ∃ e, t.entry i = some e ∧ e.state = .suspended ∧ e.damaged = true ∧
      e.number = min 65535 r.number ∧ e.priority = min 7 r.priority ∧
      e.use = (match r.cls with
        | 0 => .works
        | 1 => .steam
        | 2 => .townHeat (if r.zone ≤ 1 then .z1 else if r.zone = 2 then .z2
            else if r.zone = 3 then .z3 else .z4)
        | _ => .power (max 200 (min 500 r.yield))) ∧
      e.accepted = (if r.accepted.isEmpty = true then ⟨true, true, true⟩ else r.accepted) ∧
      e.ceiling = min 2000000 r.ceiling ∧ e.floor = min e.ceiling (min 2000000 r.floor) ∧
      e.fallback = min 2000000 r.fallback ∧ e.demand = e.fallback ∧ e.boost = 0 ∧
      e.grant = Grant.zero ∧ e.sequence = max 1 (min 4294967294 r.sequence) ∧
      e.sequence < t.ot.counter)) ∧
  (∀ (s t : State) (i : Fin 64) (r : StoredAccount), s.startingUp = true →
    (∀ j, s.account j = none) → s.store.accounts[i] = ⟨r, false⟩ →
    (∀ j, j ≠ i → s.store.accounts[j] = ⟨StoredAccount.free, true⟩) →
    exec .startUpComplete s = .next t →
    (∀ j, j ≠ i → t.account j = none) ∧ t.store.accounts[i] = ⟨storedAccount (t.account i), true⟩ ∧
    (r.state = 0 ∨ r.number = 0 → t.account i = none) ∧
    (r.state ≠ 0 → t.alert .recordDamaged = true) ∧
    (r.state ≠ 0 → r.number ≠ 0 → t.alert .accountEvent = true ∧
      let band := fun (b : EnergyBand) => (⟨min 999999999 b.kwh, min 999 b.wh⟩ : EnergyBand)
      let temp := fun (x : Int) => max (-2000) (min 15000 x)
      t.account i = some {
        number := min 4294967295 r.number
        station := if 127 < r.station ∨ r.station ∈ t.settings.roles.list then 0 else r.station
        zone := match r.zone with
          | 2 => .z2
          | 3 => .z3
          | 4 => .z4
          | _ => .z1
        flowLimit := min 2000000 r.flowLimit
        state := .holding
        damaged := true
        baseline := r.baseline.map fun b =>
          ⟨min 99999999 b.volume, temp b.flowTemp, temp b.returnTemp⟩
        lastReading := none
        residue := min 99999 r.residue
        recovered := band r.recovered
        fired := band r.fired
        gaps := min 255 r.gaps
        implausibles := min 255 r.implausibles
        reverses := min 255 r.reverses
        marks := { r.marks with saturated := true, implausible := true, reverse := true }
        closed := r.closed.map fun k => ⟨band k.recovered, band k.fired, min 4294967295 k.number⟩
        final := none })) ∧
  (∀ s t : State, s.startingUp = true → exec .startUpComplete s = .next t →
    (s.ot = OfftakeTable.blank → s.store.counter.good = false →
      t.alert .recordDamaged = true ∧ t.store.counter = ⟨t.ot.counter, true⟩ ∧
      (∀ i, ∀ e ∈ t.entry i, e.sequence < t.ot.counter) ∧
      (t.ot.counter = 1 ∨ ∃ i, ∃ e ∈ t.entry i, t.ot.counter = e.sequence + 1)) ∧
    (s.ot = OfftakeTable.blank → s.store.counter.good = true →
      t.store.counter = ⟨t.ot.counter, true⟩ ∧ s.store.counter.value ≤ t.ot.counter ∧
      (∀ i, ∀ e ∈ t.entry i, e.sequence < t.ot.counter) ∧
      (t.ot.counter = s.store.counter.value ∨ ∃ i, ∃ e ∈ t.entry i, t.ot.counter = e.sequence + 1)) ∧
    (s.store.closeNumber.good = false →
      t.hau.closeNumber = 0 ∧ t.store.closeNumber = ⟨0, true⟩ ∧ t.alert .recordDamaged = true) ∧
    (s.store.flare.good = false →
      t.ae.flareTotal = ⟨0, 0⟩ ∧ t.ae.flareResidue = ⟨0, 0⟩ ∧
      t.store.flare = ⟨⟨⟨0, 0⟩, ⟨0, 0⟩⟩, true⟩ ∧ t.alert .recordDamaged = true))

/-! ## The command link (R151 to R166) -/

/-- When chip select falls, the part shifts out the status byte with the eight flags of R162 in the bits
of R176, then result, length, payload and check byte of the response buffer as it stands. -/
def Obligations.TransactionShiftsOutStatusAndResponse : Prop :=
  ∀ s : State, ∃ st : Byte,
    (let body := BitVec.ofNat 8 s.cl.response.code.code ::
       BitVec.ofNat 8 s.cl.response.payload.length :: s.cl.response.payload
     exec .transactionBegin s =
       .next { s with cl := { s.cl with shiftOut := some (st :: (body ++ [xorOf body])) } }) ∧
    st.getLsbD 7 = s.alertLine ∧ st.getLsbD 6 = s.ae.run.isSome ∧ st.getLsbD 5 = s.cl.standalone ∧
    st.getLsbD 4 = s.nvs.settingsFault ∧ st.getLsbD 3 = s.nvs.saving.isSome ∧
    st.getLsbD 2 = s.esu.current.isSome ∧ st.getLsbD 1 = s.ae.short ∧
    st.getLsbD 0 = decide (0 < s.ae.surplus.bfg ∨ 0 < s.ae.surplus.cog)

/-- NO-OP with any payload answers OK with an empty payload and changes no state of any block, in every
state in which a frame is taken. -/
def Obligations.NoOpAnswersOk : Prop :=
  ∀ (p : List Byte) (s : State), s.Taking → exec (.noOp p) s = .next (s.answered ⟨.ok, []⟩)

/-- Before start-up is complete, or with no transaction in progress, no frame is taken: neither a
command nor a spoiled frame changes anything but the end of the transaction (assumption log 7). -/
def Obligations.UnheardFramesChangeNothing : Prop :=
  ∀ (c : Instr) (s : State), ¬ s.Taking →
    (c.hostFrame.isSome = true ∨ c = .frameError ∨ c = .checkError) →
    exec c s = .next { s with cl := { s.cl with shiftOut := none } }

/-- In standalone operation each command of the refused column of R155 is answered STANDALONE and
changes nothing; READ FLARE TOTALS by its option, START SETTLEMENT after its other checks (R71, R140).
-/
def Obligations.StandaloneRefuses : Prop :=
  ∀ s : State, s.Taking → s.cl.standalone = true →
    (∀ c, refusedStandalone c = true → exec c s = .next (s.answered ⟨.standalone, []⟩)) ∧
    exec (.readFlareTotals [1]) s = .next (s.answered ⟨.standalone, []⟩) ∧
    (∀ n d o, d ≤ 2000000 → o < s.settings.periodLength → o < 65536 → s.esu.current = none →
      exec (.startSettlement (beBytes 4 n ++ beBytes 3 d ++ beBytes 2 o)) s =
        .next (s.answered ⟨.standalone, []⟩))

/-- The link-silence timer expires: the flag is set and the timer stopped, STANDALONE_ENTERED is set,
every boost becomes 0, and a run is requested; a run that starts serves each participant from its
fallback (R153, R154); the moment of the expiry is assumption log 2. RESUME LINK clears the flag,
restarts the timer and requests a run; with the flag clear it answers OK and changes nothing else
(R156). -/
def Obligations.StandaloneIsEnteredAndLeft : Prop :=
  (∀ (s : State) (e : Time), s.cl.silence = some e → s.BoostsInRange →
     ∃ t, exec .linkSilenceTimerExpiry s = .next t ∧
       t = { s with now := t.now, cl := t.cl, fs := t.fs, ot := t.ot, ae := t.ae } ∧
       t.cl = { s.cl with standalone := true, silence := none } ∧
       t.fs = { s.fs with alerts := s.fs.alerts ||| 0x200#12 } ∧
       (∀ i, t.entry i = (s.entry i).map fun x => { x with boost := 0 }) ∧
       t.ot.counter = s.ot.counter ∧
       (s.nvs.settingsFault = true → t.ae = s.ae) ∧
       (s.nvs.settingsFault = false → s.ae.run.isSome = true →
         t.ae = { s.ae with rerunPending := true }) ∧
       (s.nvs.settingsFault = false → s.ae.run = none →
         ∃ r, t.ae.run = some r ∧ r.standaloneAtStart = true ∧
           ∀ p ∈ r.parts, ∃ x ∈ s.entry p.slot,
             p.need = min x.fallback x.ceiling ∧ p.floor = min x.floor p.need)) ∧
  (∀ s : State, s.Taking →
     (s.cl.standalone = false → exec (.resumeLink []) s = .next (s.answered ⟨.ok, []⟩)) ∧
     (s.cl.standalone = true →
       let u : State := { s with cl := { s.cl with
         response := ⟨.ok, []⟩, shiftOut := none, standalone := false
         silence := secondsTimer s.now s.settings.linkTimeout } }
       exec (.resumeLink []) s = .next { u with ae := u.requestRun.ae }) ∧
     (∀ b p, exec (.resumeLink (b :: p)) s = .next (s.answered ⟨.badLength, []⟩)))

/-- While the standalone flag is set, no command or event but a reset changes a term or the demand of an
entry or makes an entry, and every boost stays 0 (a law of the part, R154). -/
def Obligations.StandaloneKeepsTermsAndDemands : Prop :=
  ∀ (c : Instr) (s t : State), s.cl.standalone = true → s.startingUp = false → isReset c = false →
    (∀ i, ∀ e ∈ s.entry i, e.boost = 0) → exec c s = .next t →
    ∀ i, ∀ f ∈ t.entry i, f.boost = 0 ∧
      ∃ e ∈ s.entry i, e.sameTerms f ∧ f.demand = e.demand ∧ f.damaged = e.damaged

/-! ## Reading commands and lookups -/

/-- The commands that read a block answer OK with its record and change nothing else. A payload sent
with a command that takes none is answered BAD_LENGTH and changes nothing else, outside standalone
operation. Layouts the spec does not give are the model's choices: assumption log 12 and 13, and log
30 for READ SETTINGS. -/
def Obligations.ReadingCommandsChangeNothing : Prop :=
  (∀ s : State, s.Taking →
     exec (.readResetCause []) s = .next (s.answered ⟨.ok, s.cl.resetCause.encode⟩) ∧
     exec (.readSupply []) s = .next (s.answered ⟨.ok, s.sm.encode s.settings.holder⟩) ∧
     exec (.readTable []) s = .next (s.answered ⟨.ok, s.encodeTable⟩) ∧
     exec (.readRunSummary []) s = .next (s.answered ⟨.ok, s.ae.encode⟩) ∧
     exec (.readFaults []) s = .next (s.answered ⟨.ok, s.encodeFaults⟩) ∧
     exec (.readAlert []) s = .next (s.answered ⟨.ok,
       beBytes 2 s.fs.alerts.toNat ++ beBytes 2 s.settings.alertMask.toNat ++
         [if s.alertLine then 1 else 0]⟩) ∧
     exec (.readSettlement []) s = .next (s.answered ⟨.ok, s.esu.encode s.now⟩) ∧
     exec (.readSettings [0]) s =
       .next (s.answered ⟨.ok, s.settings.encode ++ s.encodeSettingsMarks⟩) ∧
     exec (.readSettings [1]) s = .next (s.answered ⟨.ok,
       s.settings.pollList.map (BitVec.ofNat 8) ++ s.encodeSettingsMarks⟩) ∧
     (∀ n : Byte, 1 < n.toNat → exec (.readSettings [n]) s = .next (s.answered ⟨.badValue, []⟩))) ∧
  (∀ (b : Byte) (p : List Byte) (s : State) (c : Instr), s.Serving →
     c ∈ [Instr.readResetCause (b :: p), .saveSettings (b :: p), .restoreSettings (b :: p),
       .clearSettingsFault (b :: p), .readSupply (b :: p), .lockPermanently (b :: p),
       .readTable (b :: p), .readNextOfftake (b :: p), .startRun (b :: p), .abortRun (b :: p),
       .readRunSummary (b :: p), .readFaults (b :: p), .readCounters (b :: p), .readAlert (b :: p),
       .closeBillingPeriod (b :: p), .readNextAccount (b :: p), .stopSettlement (b :: p),
       .readSettlement (b :: p)] →
     exec c s = .next (s.answered ⟨.badLength, []⟩))

/-- Every field of the offtake record, of the account record, of the run summary and of the settlement
record stands in the bytes that R178 gives it, most significant byte first, with 0 for a part that is
absent; the two records of varying parts have the lengths of R178. A projection and a deviation are sent
modulo 2^48 (assumption log 24). -/
def Obligations.RecordsHaveTheLayoutOfFormats : Prop :=
  (∀ (i : Fin 48) (e : Offtake) (b : Bool),
    splitFields [1, 2, 1, 1, 2, 1, 1, 3, 3, 3, 3, 3, 1, 4, 1, 3, 3, 3, 3, 2] (e.encode i b) =
      some [i.val, e.number % 65536, e.use.cls.code, e.use.zoneNumber, e.use.yieldValue % 65536,
        e.priority % 256, e.accepted.toByte.toNat, e.floor % 16777216, e.ceiling % 16777216,
        e.demand % 16777216, e.fallback % 16777216, e.boost % 16777216, e.state.code,
        e.sequence % 4294967296, 4 * e.grant.short.toNat + 2 * b.toNat + e.damaged.toNat,
        e.grant.parts.cvg % 16777216, e.grant.parts.bfg % 16777216, e.grant.parts.cog % 16777216,
        (e.grant.parts.cvg + e.grant.parts.bfg + e.grant.parts.cog) % 16777216, e.grant.run % 65536]) ∧
  (∀ e : Engine, splitFields [1, 2, 2, 1, 3, 3, 3, 3, 3, 3, 3, 2, 2, 2, 2, 3] e.encode =
      some [e.run.isSome.toNat, e.runNumber % 65536, e.lastCompleted % 65536,
        2 * e.short.toNat + e.rerunPending.toNat, e.lastPools.cvg % 16777216,
        e.lastPools.bfg % 16777216, e.lastPools.cog % 16777216, e.surplus.cvg % 16777216,
        e.surplus.bfg % 16777216, e.surplus.cog % 16777216, e.setpoint % 16777216,
        e.coverage.z1 % 65536, e.coverage.z2 % 65536, e.coverage.z3 % 65536, e.coverage.z4 % 65536,
        e.exportEstimate % 16777216]) ∧
  (∀ (i : Fin 64) (a : Account) (now : Time),
    let base := a.baseline.getD ⟨0, 0, 0⟩
    let copy := a.closed.getD ⟨⟨0, 0⟩, ⟨0, 0⟩, 0⟩
    let totals := a.final.getD ⟨⟨0, 0⟩, ⟨0, 0⟩⟩
    (a.encode i now).length = 71 ∧
    splitFields [1, 4, 1, 1, 3, 1, 1, 1, 4, 2, 2, 4, 3, 4, 2, 4, 2, 1, 1, 1, 4, 2, 4, 2, 4, 4, 2, 4, 2]
        (a.encode i now) =
      some [i.val, a.number % 4294967296, a.station % 256, a.zone.number, a.flowLimit % 16777216,
        a.state.code,
        16 * a.final.isSome.toNat + 8 * a.closed.isSome.toNat + 4 * a.lastReading.isSome.toNat +
          2 * a.baseline.isSome.toNat + a.damaged.toNat,
        16 * a.marks.uncollected.toNat + 8 * a.marks.finalReady.toNat + 4 * a.marks.reverse.toNat +
          2 * a.marks.implausible.toNat + a.marks.saturated.toNat,
        base.volume % 4294967296, (base.flowTemp % 65536).toNat, (base.returnTemp % 65536).toNat,
        (match a.lastReading with | some t => (now - t).toNat | none => 0),
        a.residue % 16777216, a.recovered.kwh % 4294967296, a.recovered.wh % 65536,
        a.fired.kwh % 4294967296, a.fired.wh % 65536, a.gaps % 256, a.implausibles % 256,
        a.reverses % 256, copy.recovered.kwh % 4294967296, copy.recovered.wh % 65536,
        copy.fired.kwh % 4294967296, copy.fired.wh % 65536, copy.number % 4294967296,
        totals.recovered.kwh % 4294967296, totals.recovered.wh % 65536,
        totals.fired.kwh % 4294967296, totals.fired.wh % 65536]) ∧
  (∀ (e : Settlement) (now : Time),
    let cur := e.current.getD ⟨0, 0, now, 0, 0, none, false, false⟩
    let nxt := e.next.getD ⟨0, 0⟩
    let lst := e.lastClosed.getD ⟨0, 0, 0, 0, .within, false, false⟩
    let elapsed := (now - cur.start).toNat
    (e.encode now).length = 62 ∧
    splitFields [1, 1, 4, 3, 4, 4, 2, 6, 6, 1, 4, 3, 4, 3, 6, 6, 1, 1, 2] (e.encode now) =
      some [e.current.isSome.toNat,
        8 * e.lastClosed.isSome.toNat + 4 * e.next.isSome.toNat + 2 * e.current.isSome.toNat +
          e.silent.toNat,
        cur.number % 4294967296, cur.declared % 16777216, elapsed,
        (cur.length * 1000 - elapsed) % 4294967296, cur.length % 65536,
        cur.delivered % 281474976710656, cur.projection.getD 0 % 281474976710656,
        4 * cur.projection.isSome.toNat + 2 * cur.carried.toNat + cur.gap.toNat,
        nxt.number % 4294967296, nxt.declared % 16777216, lst.number % 4294967296,
        lst.declared % 16777216, lst.delivered % 281474976710656,
        (lst.deviation % 281474976710656).toNat,
        (match lst.outcome with | .within => 0 | .short => 1 | .over => 2),
        2 * lst.carried.toNat + lst.gap.toNat, e.outOfBand % 65536])

/-- READ OFFTAKE and READ ACCOUNT return the record of the slot that holds the number, and NOT_FOUND
where none does; READ GRANTS answers for each number in the order listed, with NOT_FOUND when one names
no entry. None of them changes anything else. A number finds the one entry that carries it where numbers
are unique, and none where no entry, or account, carries it (R21, R45, R115). The layout of READ GRANTS
is assumption log 13, the place of its not-found mark log 38. -/
def Obligations.LookupsByNumber : Prop :=
  (∀ s : State, s.Taking →
     (∀ n < 65536, exec (.readOfftake (beBytes 2 n)) s = .next (s.answered
       (match s.findOfftake n with
         | some (i, e) => ⟨.ok, e.encode i (s.isParticipant i)⟩
         | none => ⟨.notFound, []⟩))) ∧
     (∀ n < 4294967296, exec (.readAccount (beBytes 4 n)) s = .next (s.answered
       (match s.findAccount n with
         | some (i, a) => ⟨.ok, a.encode i s.now⟩
         | none => ⟨.notFound, []⟩))) ∧
     (∀ l : List Nat, 1 ≤ l.length → l.length ≤ 12 → (∀ n ∈ l, n < 65536) →
       exec (.readGrants (l.flatMap (beBytes 2))) s = .next (s.answered
         ⟨if ∀ n ∈ l, (s.findOfftake n).isSome = true then .ok else .notFound,
           (l.flatMap fun n => grantRecord n ((s.findOfftake n).map fun x => x.2.grant)) ++
             beBytes 2 s.ae.lastCompleted⟩))) ∧
  (∀ (s : State) (n : Nat), n ≠ 0 →
     (s.NumbersUnique → ∀ i e, s.findOfftake n = some (i, e) ↔ (s.entry i = some e ∧ e.number = n)) ∧
     (s.findOfftake n = none ↔ ∀ i, ∀ e ∈ s.entry i, e.number ≠ n) ∧
     (s.findAccount n = none ↔ ∀ i, ∀ a ∈ s.account i, a.number ≠ n))

/-- FIND OFFTAKES stores the filter, counts the matches and sets the cursor to the lowest matching slot,
or to the end; READ NEXT OFFTAKE returns the first match from the position on and moves past it, and
answers END when there is none (R43, R44). FIND ACCOUNTS and READ NEXT ACCOUNT do the same over the
accounts, by their own cursor (R135). -/
def Obligations.WalksReturnTheMatches : Prop :=
  (∀ s : State, s.Taking →
     (∀ (x y z : Byte) (f : OfftakeFilter), offtakeFilter x.toNat y.toNat z.toNat = some f →
       ∃ t n pos, exec (.findOfftakes [x, y, z]) s = .next t ∧
         t = { s with
           cl := s.linkAfter ⟨if n = 0 then .end_ else .ok, beBytes 1 n⟩
           ot := { s.ot with cursor := ⟨f, pos⟩ } } ∧
         n = (slots48.filter (s.slotMatches f)).length ∧
         (∀ i, pos = some i ↔ (s.slotMatches f i = true ∧ ∀ j < i, s.slotMatches f j = false))) ∧
     (∀ (x y z : Byte), offtakeFilter x.toNat y.toNat z.toNat = none →
       exec (.findOfftakes [x, y, z]) s = .next (s.answered ⟨.badValue, []⟩)) ∧
     (∀ (p i : Fin 48) (e : Offtake), s.ot.cursor.position = some p → p ≤ i → s.entry i = some e →
       s.slotMatches s.ot.cursor.filter i = true →
       (∀ j, p ≤ j → j < i → s.slotMatches s.ot.cursor.filter j = false) →
       exec (.readNextOfftake []) s = .next { s with
         cl := s.linkAfter ⟨.ok, e.encode i (s.isParticipant i)⟩
         ot := { s.ot with cursor := { s.ot.cursor with
           position := if h : i.val + 1 < 48 then some ⟨i.val + 1, h⟩ else none } } }) ∧
     ((∀ p ∈ s.ot.cursor.position, ∀ i, p ≤ i → s.slotMatches s.ot.cursor.filter i = false) →
       exec (.readNextOfftake []) s = .next { s with
         cl := s.linkAfter ⟨.end_, []⟩
         ot := { s.ot with cursor := { s.ot.cursor with position := none } } })) ∧
  (∀ s : State, s.Taking →
     (∀ (x y z : Byte) (f : AccountFilter), accountFilter x.toNat y.toNat z.toNat = some f →
       ∃ t n pos, exec (.findAccounts [x, y, z]) s = .next t ∧
         t = { s with
           cl := s.linkAfter ⟨if n = 0 then .end_ else .ok, beBytes 1 n⟩
           hau := { s.hau with cursor := ⟨f, pos⟩ } } ∧
         n = (slots64.filter (s.accountMatches f)).length ∧
         (∀ i, pos = some i ↔ (s.accountMatches f i = true ∧ ∀ j < i, s.accountMatches f j = false))) ∧
     (∀ (x y z : Byte), accountFilter x.toNat y.toNat z.toNat = none →
       exec (.findAccounts [x, y, z]) s = .next (s.answered ⟨.badValue, []⟩)) ∧
     (∀ (p i : Fin 64) (a : Account), s.hau.cursor.position = some p → p ≤ i → s.account i = some a →
       s.accountMatches s.hau.cursor.filter i = true →
       (∀ j, p ≤ j → j < i → s.accountMatches s.hau.cursor.filter j = false) →
       exec (.readNextAccount []) s = .next { s with
         cl := s.linkAfter ⟨.ok, a.encode i s.now⟩
         hau := { s.hau with cursor := { s.hau.cursor with
           position := if h : i.val + 1 < 64 then some ⟨i.val + 1, h⟩ else none } } }) ∧
     ((∀ p ∈ s.hau.cursor.position, ∀ i, p ≤ i → s.accountMatches s.hau.cursor.filter i = false) →
       exec (.readNextAccount []) s = .next { s with
         cl := s.linkAfter ⟨.end_, []⟩
         hau := { s.hau with cursor := { s.hau.cursor with position := none } } }))

/-! ## The offtake table -/

/-- The LOCK line changes its level and nothing else; SET PROTECTION writes side, size and mode while
the band is not enforced; LOCK PERMANENTLY sets the mark and stores it with the live side and size. That
the size is sent as the number itself, and that values equal to the live ones set the unsaved mark too, is
the model's choice (assumption log 15 and 40). -/
def Obligations.ProtectionCommands : Prop :=
  ∀ s : State,
    (∀ b, exec (.lockLineChange b) s = .next { s with lockLine := b }) ∧
    (∀ side n mode, s.Serving → s.nvs.saving = none → s.bandEnforced = false →
      n ∈ [0, 4, 8, 16, 32, 48] →
      exec (.setProtection [BitVec.ofNat 8 (BandSide.code side), BitVec.ofNat 8 n,
          BitVec.ofNat 8 (LockMode.code mode)]) s =
        .next { s with
          cl := s.linkAfter ⟨.ok, []⟩
          settings := { s.settings with bandSide := side, bandSize := n, lockMode := mode }
          nvs := { s.nvs with unsaved := true } }) ∧
    (∀ x y z : Byte, s.Serving → s.nvs.saving = none → s.bandEnforced = true →
      exec (.setProtection [x, y, z]) s = .next (s.answered ⟨.protected_, []⟩)) ∧
    (s.Serving → s.ot.permanentLock = false → exec (.lockPermanently []) s = .next { s with
      cl := s.linkAfter ⟨.ok, []⟩
      ot := { s.ot with permanentLock := true }
      store := { s.store with lock := ⟨true, s.settings.bandSide, s.settings.bandSize⟩ } }) ∧
    (s.Serving → s.ot.permanentLock = true →
      exec (.lockPermanently []) s = .next (s.answered ⟨.ok, []⟩))

/-- ADMIT OFFTAKE fills the chosen slot, or with "any" the lowest FREE slot outside an enforced band:
the values saturated, state PENDING, the counter's value as sequence, record and counter written to the
store, and nothing else changed. The order in which slot and sequence are answered is assumption log 13.
-/
def Obligations.AdmissionFillsASlot : Prop :=
  ∀ (s : State) (number zone yield priority floor ceiling demand fallback choice : Nat) (use : Use)
    (a : SourceSet) (i : Fin 48), s.Serving →
    1 ≤ number → number < 65536 → (∀ j, ∀ e ∈ s.entry j, e.number ≠ number) → zone < 256 →
    yield < 65536 → (∀ z, use = .townHeat z → zone = z.number) →
    (∀ y, use = .power y → yield = y ∧ 200 ≤ y ∧ y ≤ 500) → priority ≤ 7 → a.isEmpty = false →
    floor < 16777216 → ceiling < 16777216 → demand < 16777216 → fallback < 16777216 →
    min 2000000 floor ≤ min 2000000 ceiling → s.entry i = none → s.isProtected i = false →
    (choice = i.val ∨
      (choice = 255 ∧ ∀ j < i, (s.entry j).isSome = true ∨ s.isProtected j = true)) →
    s.ot.counter < 4294967295 →
    let e : Offtake :=
      { number := number, use := use, priority := priority, accepted := a
        floor := min 2000000 floor, ceiling := min 2000000 ceiling, demand := min 2000000 demand
        fallback := min 2000000 fallback, boost := 0, state := .pending, sequence := s.ot.counter
        damaged := false, grant := Grant.zero }
    exec (.admitOfftake (beBytes 2 number ++ beBytes 1 use.cls.code ++ beBytes 1 zone ++
        beBytes 2 yield ++ beBytes 1 priority ++ [a.toByte] ++ beBytes 3 floor ++ beBytes 3 ceiling ++
        beBytes 3 demand ++ beBytes 3 fallback ++ beBytes 1 choice)) s =
      .next { s with
        cl := s.linkAfter ⟨.ok, beBytes 1 i.val ++ beBytes 4 s.ot.counter⟩
        ot := { s.ot with entries := setAt s.ot.entries i (some e), counter := s.ot.counter + 1 }
        store := { s.store with
          offtakes := setAt s.store.offtakes i ⟨e.stored, true⟩
          counter := ⟨s.ot.counter + 1, true⟩ } }

/-- AMEND OFFTAKE changes the fields marked present and keeps the others, live and stored; with no field
marked it changes nothing. The place of the marks byte is assumption log 14. -/
def Obligations.AmendmentChangesTheMarkedFields : Prop :=
  ∀ (s : State) (number marks priority floor ceiling fallback : Nat) (a : SourceSet) (i : Fin 48)
    (e f : Offtake), s.Serving → number < 65536 → marks < 32 → priority < 256 → floor < 16777216 →
    ceiling < 16777216 → fallback < 16777216 → s.findOfftake number = some (i, e) →
    s.isProtected i = false → e.damaged = false →
    (marks.testBit 0 = true → priority ≤ 7) → (marks.testBit 1 = true → a.isEmpty = false) →
    f = { e with
      priority := if marks.testBit 0 then priority else e.priority
      accepted := if marks.testBit 1 then a else e.accepted
      floor := if marks.testBit 2 then min 2000000 floor else e.floor
      ceiling := if marks.testBit 3 then min 2000000 ceiling else e.ceiling
      fallback := if marks.testBit 4 then min 2000000 fallback else e.fallback } →
    f.floor ≤ f.ceiling →
    exec (.amendOfftake (beBytes 2 number ++ beBytes 1 marks ++ beBytes 1 priority ++ [a.toByte] ++
        beBytes 3 floor ++ beBytes 3 ceiling ++ beBytes 3 fallback)) s =
      .next (if marks = 0 then s.answered ⟨.ok, []⟩ else { s with
        cl := s.linkAfter ⟨.ok, []⟩
        ot := { s.ot with entries := setAt s.ot.entries i (some f) }
        store := { s.store with offtakes := setAt s.store.offtakes i ⟨f.stored, true⟩ } })

/-- SET DEMAND takes the pairs in order: each entry ends with the last demand listed for its number,
saturated; the answer counts the pairs taken and is NOT_FOUND when one was passed over; nothing is
stored and nothing else changes. -/
def Obligations.DemandsAreTakenInOrder : Prop :=
  ∀ (s : State) (l : List (Nat × Nat)), s.Serving → s.NumbersUnique → 1 ≤ l.length → l.length ≤ 12 →
    (∀ p ∈ l, p.1 < 65536 ∧ p.2 < 16777216) →
    ∃ t n, exec (.setDemand (l.flatMap fun p => beBytes 2 p.1 ++ beBytes 3 p.2)) s = .next t ∧
      t = { s with
        cl := s.linkAfter ⟨if n = l.length then .ok else .notFound, beBytes 1 n⟩
        ot := { s.ot with entries := t.ot.entries } } ∧
      n = (l.filter fun p => (s.findOfftake p.1).isSome).length ∧
      ∀ i, t.entry i = (s.entry i).map fun e => { e with
        demand := match (l.filter fun p => p.1 ≠ 0 ∧ p.1 = e.number).getLast? with
          | some p => min 2000000 p.2
          | none => e.demand }

/-- SUSPEND OFFTAKE at once zeroes the entry's grant and boost and writes it SUSPENDED; its grant goes
to the surplus, flare energy is integrated first, FLARE_STARTED tells of a flare that begins, the
setpoint follows, the coverage of the entry's zone is formed again from the lowered sum, or the yield sum
and P_est are lowered, and a run part of the entry takes the released mark; no other figure of the engine
changes (R29, R67, R68). -/
def Obligations.SuspensionReleasesTheGrant : Prop :=
  ∀ (s : State) (n : Nat) (i : Fin 48) (e : Offtake), s.Serving → n < 65536 →
    s.findOfftake n = some (i, e) → s.isProtected i = false → (e.state = .pending ∨ e.state = .active) →
    let f : Offtake := { e with grant := Grant.zero, boost := 0, state := .suspended }
    ∃ t, exec (.suspendOfftake (beBytes 2 n)) s = .next t ∧
      t = { s with cl := s.linkAfter ⟨.ok, []⟩, ot := t.ot, ae := t.ae, fs := t.fs, store := t.store } ∧
      t.ot = { s.ot with entries := setAt s.ot.entries i (some f) } ∧
      t.store = { s.store with
        offtakes := setAt s.store.offtakes i ⟨f.stored, true⟩
        flare := s.integrateFlare.store.flare } ∧
      t.fs = { s.fs with alerts :=
        if (s.ae.surplus.bfg = 0 ∧ 0 < e.grant.parts.bfg) ∨
          (s.ae.surplus.cog = 0 ∧ 0 < e.grant.parts.cog)
        then s.fs.alerts ||| 0x008#12 else s.fs.alerts } ∧
      t.ae = { s.ae with
        surplus := ⟨s.ae.surplus.cvg + e.grant.parts.cvg, s.ae.surplus.bfg + e.grant.parts.bfg,
          s.ae.surplus.cog + e.grant.parts.cog⟩
        setpoint := ceilDiv (t.grantSum .cvg * 3600) s.ae.lastNcv
        zoneGrant := t.ae.zoneGrant
        coverage := t.ae.coverage
        yieldSum := t.ae.yieldSum
        exportEstimate := t.ae.exportEstimate
        flareTotal := s.integrateFlare.ae.flareTotal
        flareResidue := s.integrateFlare.ae.flareResidue
        flarePoint := s.now
        flareTimer := some (s.now + 3600000)
        run := s.ae.run.map (fun r => { r with parts := r.parts.map fun p =>
          if p.slot = i then { p with released := true } else p }) } ∧
      (∀ z, t.ae.zoneGrant.get z = s.ae.zoneGrant.get z -
        (if e.use = .townHeat z then e.grant.total else 0)) ∧
      (∀ z, t.ae.coverage.get z = (if e.use = .townHeat z
        then (if s.ae.zoneNeed.get z = 0 then 0
          else 1000 * t.ae.zoneGrant.get z / s.ae.zoneNeed.get z)
        else s.ae.coverage.get z)) ∧
      (∀ y, e.use = .power y → t.ae.yieldSum = s.ae.yieldSum - e.grant.total * y / 1000 ∧
        t.ae.exportEstimate = t.ae.yieldSum - s.settings.stationLoad) ∧
      (e.use.isPower = false → t.ae.yieldSum = s.ae.yieldSum ∧
        t.ae.exportEstimate = s.ae.exportEstimate)

/-- REINSTATE OFFTAKE makes an undamaged SUSPENDED entry PENDING; RETIRE OFFTAKE makes an entry that is
not RETIRING so, damaged or not, with its grant kept and its boost 0. Both write the record and request
no run; nothing else changes. -/
def Obligations.ReinstatementAndRetirement : Prop :=
  ∀ (s : State) (n : Nat) (i : Fin 48) (e : Offtake), s.Serving → n < 65536 →
    s.findOfftake n = some (i, e) → s.isProtected i = false →
    let f : Offtake := { e with state := .pending }
    let g : Offtake := { e with state := .retiring, boost := 0 }
    (e.state = .suspended → e.damaged = false →
      exec (.reinstateOfftake (beBytes 2 n)) s = .next { s with
        cl := s.linkAfter ⟨.ok, []⟩
        ot := { s.ot with entries := setAt s.ot.entries i (some f) }
        store := { s.store with offtakes := setAt s.store.offtakes i ⟨f.stored, true⟩ } }) ∧
    (e.state ≠ .retiring →
      exec (.retireOfftake (beBytes 2 n)) s = .next { s with
        cl := s.linkAfter ⟨.ok, []⟩
        ot := { s.ot with entries := setAt s.ot.entries i (some g) }
        store := { s.store with offtakes := setAt s.store.offtakes i ⟨g.stored, true⟩ } }) ∧
    (e.state = .retiring →
      exec (.retireOfftake (beBytes 2 n)) s = .next (s.answered ⟨.wrongState, []⟩)) ∧
    (e.damaged = true ∨ e.state ≠ .suspended →
      exec (.reinstateOfftake (beBytes 2 n)) s = .next (s.answered ⟨.wrongState, []⟩)) ∧
    (e.state = .suspended ∨ e.state = .retiring →
      exec (.suspendOfftake (beBytes 2 n)) s = .next (s.answered ⟨.wrongState, []⟩))

/-- While the band is enforced, no command or event but a reset changes a term of an entry in a band
slot or fills such a slot, and the entry's state changes only from PENDING to ACTIVE or from RETIRING to
FREE, at a run completion (a law of the part, R37). -/
def Obligations.TheBandProtectsItsEntries : Prop :=
  ∀ (c : Instr) (s t : State) (i : Fin 48), s.EngineSound → s.startingUp = false →
    isReset c = false → s.isProtected i = true → exec c s = .next t →
    (s.entry i = none → t.entry i = none) ∧
    ∀ e ∈ s.entry i,
      (∃ f, t.entry i = some f ∧ e.sameTerms f ∧ f.damaged = e.damaged ∧
        (f.state = e.state ∨ (c = .runCompletion ∧ e.state = .pending ∧ f.state = .active))) ∨
      (t.entry i = none ∧ c = .runCompletion ∧ e.state = .retiring)

/-- No step makes one number name two slots, the loads of start-up among them (a law of the table, R23,
R34); nor does one spoil what the law rests on in the store (R46). -/
def Obligations.NumbersStayUnique : Prop :=
  ∀ s t : State, s.NumbersUnique → s.TableStored → step s = .next t →
    t.NumbersUnique ∧ t.TableStored

/-! ## The allocation engine -/

/-- A request for a run: discarded while the settings-fault condition stands; in IDLE it starts a run
with the next number, never 0, over the picture of the moment; in RUNNING it sets rerun-pending (R49,
R52). The dispatch timer's expiry makes the same request, or restarts the timer under the condition
(R50); its moment is assumption log 2. -/
def Obligations.RunRequests : Prop :=
  (∀ s : State,
     (s.nvs.settingsFault = true → s.requestRun = s) ∧
     (s.nvs.settingsFault = false → s.ae.run.isSome = true →
       s.requestRun = { s with ae := { s.ae with rerunPending := true } }) ∧
     (s.nvs.settingsFault = false → s.ae.run = none →
       let pool := fun src => if s.fs.admission.get src = .admitted
         then (s.sm.sources.get src).availability else 0
       s.requestRun = { s with ae := { s.ae with
         run := some
           { pools := ⟨pool .cvg, pool .bfg, pool .cog⟩
             startPools := ⟨pool .cvg, pool .bfg, pool .cog⟩
             ncvAtStart := s.sm.sources.cvg.ncv
             standaloneAtStart := s.cl.standalone
             retiring := s.retiringSlots
             parts := s.participants }
         runNumber := if s.ae.runNumber < 65535 then s.ae.runNumber + 1 else 1
         dispatch := secondsTimer s.now s.settings.dispatchInterval } })) ∧
  (∀ s : State,
     (∀ e, s.ae.dispatch = some e → s.nvs.settingsFault = false → s.ae.run.isSome = true →
       exec .dispatchTimerExpiry s = .next { s.atExpiry e with
         ae := { s.ae with dispatch := none, rerunPending := true } }) ∧
     (∀ e, s.ae.dispatch = some e → s.nvs.settingsFault = false → s.ae.run = none →
       exec .dispatchTimerExpiry s = .next (s.atExpiry e).startRun) ∧
     (∀ e, s.ae.dispatch = some e → s.nvs.settingsFault = true →
       exec .dispatchTimerExpiry s = .next { s.atExpiry e with ae := { s.ae with
         dispatch := secondsTimer (s.atExpiry e).now s.settings.dispatchInterval } }))

/-- START RUN starts a run in IDLE and answers OK, sets rerun-pending in RUNNING and answers QUEUED, and
is refused with SETTINGS_FAULT under the condition (R51). ABORT RUN discards the run in flight after an
integration point, clears rerun-pending, sets RUN_ABORTED, starts no run and restarts a dispatch timer
that stood stopped; nothing is published (R72). In IDLE and under the condition it is refused with
WRONG_STATE (R73). Both are refused with STANDALONE in standalone operation, and with BAD_LENGTH when
sent with a payload. -/
def Obligations.StartRunAndAbortRun : Prop :=
  (∀ s : State,
     (∀ b p, s.Serving → exec (.startRun (b :: p)) s = .next (s.answered ⟨.badLength, []⟩)) ∧
     (∀ p, s.Taking → s.cl.standalone = true →
       exec (.startRun p) s = .next (s.answered ⟨.standalone, []⟩)) ∧
     (s.Serving → s.nvs.settingsFault = true →
       exec (.startRun []) s = .next (s.answered ⟨.settingsFault, []⟩)) ∧
     (s.Serving → s.nvs.settingsFault = false → s.ae.run = none →
       exec (.startRun []) s = .next { s with cl := s.linkAfter ⟨.ok, []⟩, ae := s.requestRun.ae }) ∧
     (s.Serving → s.nvs.settingsFault = false → s.ae.run.isSome = true →
       exec (.startRun []) s = .next { s with
         cl := s.linkAfter ⟨.queued, []⟩, ae := { s.ae with rerunPending := true } })) ∧
  (∀ s : State, s.Serving →
     (∀ b p, exec (.abortRun (b :: p)) s = .next (s.answered ⟨.badLength, []⟩)) ∧
     (s.nvs.settingsFault = true →
       exec (.abortRun []) s = .next (s.answered ⟨.wrongState, []⟩)) ∧
     (∀ r, s.nvs.settingsFault = false → s.ae.run = some r →
       exec (.abortRun []) s = .next { s with
         cl := s.linkAfter ⟨.ok, []⟩
         ae := { s.integrateFlare.ae with
           run := none
           rerunPending := false
           dispatch := if s.ae.dispatch = none then secondsTimer s.now s.settings.dispatchInterval
             else s.ae.dispatch }
         fs := { s.fs with alerts := s.fs.alerts ||| 0x002#12 }
         store := { s.store with flare := s.integrateFlare.store.flare } }) ∧
     (s.ae.run = none → exec (.abortRun []) s = .next (s.answered ⟨.wrongState, []⟩)) ∧
     (∀ (u : State) p, u.Taking → u.cl.standalone = true →
       exec (.abortRun p) u = .next (u.answered ⟨.standalone, []⟩)))

/-- A run that starts counts exactly the PENDING and ACTIVE entries, each once, with need, floor and
marks by R53, in the order in which Pass F serves them (R55); the retiring set holds the RETIRING slots.
-/
def Obligations.ParticipantsOfARun : Prop :=
  ∀ s : State,
    (∀ p, p ∈ s.participants ↔ ∃ i, ∃ e ∈ s.entry i, (e.state = .pending ∨ e.state = .active) ∧
      ∃ need, need = (if s.cl.standalone = true then min e.fallback e.ceiling
          else min (e.demand + e.boost) e.ceiling) ∧
        p = { slot := i, sequence := e.sequence, priority := e.priority, accepted := e.accepted
              need := need, floor := min e.floor need, grant := ⟨0, 0, 0⟩, short := false
              released := false }) ∧
    (s.participants.map RunPart.slot).Nodup ∧
    s.participants.Pairwise (fun p q => p.priority < q.priority ∨
      (p.priority = q.priority ∧ p.sequence ≤ q.sequence)) ∧
    (∀ i, i ∈ s.retiringSlots ↔ ∃ e ∈ s.entry i, e.state = .retiring)

/-- At an integration point each flared gas adds surplus × elapsed + residue in whole kWh, carries the
rest, and saturates; the timer restarts for an hour, and the flare record is stored (R69, R70). The
flare timer's expiry and READ FLARE TOTALS make one; option 1 zeroes the totals and keeps the residues
(R71). The moment of an expiry is assumption log 2, the order of the answer log 13. -/
def Obligations.FlareEnergyIsIntegrated : Prop :=
  ∀ s : State,
    (let ms := (s.now - s.ae.flarePoint).toNat
     let xb := s.ae.surplus.bfg * ms + s.ae.flareResidue.bfg
     let xc := s.ae.surplus.cog * ms + s.ae.flareResidue.cog
     s.integrateFlare = { s with
       ae := { s.ae with
         flareTotal := ⟨min 999999999 (s.ae.flareTotal.bfg + xb / 3600000),
           min 999999999 (s.ae.flareTotal.cog + xc / 3600000)⟩
         flareResidue := ⟨xb % 3600000, xc % 3600000⟩
         flarePoint := s.now
         flareTimer := some (s.now + 3600000) }
       store := s.integrateFlare.store } ∧
     s.integrateFlare.store = { s.store with flare := s.integrateFlare.store.flare } ∧
     (s.store.flare = ⟨⟨s.ae.flareTotal, s.ae.flareResidue⟩, true⟩ → s.integrateFlare.store.flare =
       ⟨⟨s.integrateFlare.ae.flareTotal, s.integrateFlare.ae.flareResidue⟩, true⟩)) ∧
    (∀ e, s.ae.flareTimer = some e → exec .flareTimerExpiry s = .next (s.atExpiry e).integrateFlare) ∧
    (s.Taking → exec (.readFlareTotals [0]) s = .next { s with
      cl := s.linkAfter ⟨.ok, s.integrateFlare.ae.encodeFlare⟩
      ae := s.integrateFlare.ae
      store := s.integrateFlare.store }) ∧
    (s.Serving → exec (.readFlareTotals [1]) s = .next { s with
      cl := s.linkAfter ⟨.ok, s.integrateFlare.ae.encodeFlare⟩
      ae := { s.integrateFlare.ae with flareTotal := ⟨0, 0⟩ }
      store := { s.store with flare := ⟨⟨⟨0, 0⟩, s.integrateFlare.ae.flareResidue⟩, true⟩ } })

/-- Pass F gives one participant its floor as far as its accepted pools go, takes nothing else from the
pools, and marks it SHORT exactly when the floor is not met, which leaves every pool it accepts empty
(R55). -/
def Obligations.FloorsAreServedFromAcceptedPools : Prop :=
  ∀ (pools : PerSource Nat) (p : RunPart), p.grant = ⟨0, 0, 0⟩ → p.short = false →
    let w := serveFloor pools p
    let from_ := fun src => if p.accepted.has src = true then pools.get src else 0
    w.2 = { p with grant := w.2.grant, short := w.2.short } ∧
    (∀ src, w.2.grant.get src + w.1.get src = pools.get src) ∧
    (∀ src, p.accepted.has src = false → w.2.grant.get src = 0) ∧
    w.2.total = min p.floor (from_ .cvg + from_ .bfg + from_ .cog) ∧
    (w.2.short = true ↔ w.2.total < p.floor) ∧
    (w.2.short = true → ∀ src, p.accepted.has src = true → w.1.get src = 0)

/-- In a proportional share every member's share leaves it room for one kilowatt more, the leftover is
less than the number of members, and after the share the pool is empty with every kilowatt given (R57).
-/
def Obligations.ProportionalSharesAreExact : Prop :=
  ∀ (left : PerSource Nat) (ps : List RunPart) (prio : Nat) (src : Source),
    let pool := left.get src
    let n := sumNeed prio src ps
    0 < pool → pool < n →
    let members := ps.filter fun p => p.eligible prio src
    let given := (members.map fun p => p.remaining * pool / n).sum
    given ≤ pool ∧ pool - given < members.length ∧
    (∀ p ∈ members, p.remaining * pool / n + 1 ≤ p.remaining) ∧
    (let w := shareSource (left, ps) prio src
     w.1 = left.put src 0 ∧ w.2.length = ps.length ∧
     (w.2.map fun p => p.grant.get src).sum = (ps.map fun p => p.grant.get src).sum + pool ∧
     ∀ k : Nat, ∀ p ∈ ps[k]?, ∃ q ∈ w.2[k]?, ∃ x : Nat, q = p.give src x ∧ q.total ≤ max p.total p.need ∧
       (p.eligible prio src = false → x = 0) ∧
       (p.eligible prio src = true → x = p.remaining * pool / n +
         (if ((ps.take k).filter fun p => p.eligible prio src).length < pool - given then 1 else 0)))

/-- Both passes lose no kilowatt, grant no participant more than its need, and nothing from a source it
does not accept; they keep the participants in their order and change nothing but grant and SHORT mark
(R58, R61). -/
def Obligations.PassesShareOutExactlyThePools : Prop :=
  ∀ r : Run, (∀ p ∈ r.parts, p.grant = ⟨0, 0, 0⟩ ∧ p.floor ≤ p.need) →
    let c := r.compute
    (∀ src, (c.2.map fun p => p.grant.get src).sum + c.1.get src = r.startPools.get src) ∧
    c.2.length = r.parts.length ∧
    (∀ k : Nat, ∀ p ∈ r.parts[k]?, ∃ q ∈ c.2[k]?,
      q = { p with grant := q.grant, short := q.short } ∧ q.total ≤ p.need ∧
        ∀ src, p.accepted.has src = false → q.grant.get src = 0)

/-- A run completes: each participant without the released mark has its computed grant published and is
ACTIVE if it was PENDING, with its record written; the retiring set is FREE; every other entry stands.
Surplus, setpoint, the zones' sums and coverage, the yield sum and P_est, short indication and summary
follow from what was published; SHORTFALL and FLARE_STARTED are set as their conditions say; a rerun
starts when one was pending (R59 to R65). -/
def Obligations.CompletionPublishesTheRun : Prop :=
  ∀ (s : State) (r : Run), s.ae.run = some r → s.RunFits r →
    let paid := fun (q : RunPart) =>
      if q.released = true then 0 else q.grant.cvg + q.grant.bfg + q.grant.cog
    let serves := fun (z : Zone) (q : RunPart) =>
      (s.entry q.slot).any fun e => decide (e.use = .townHeat z)
    ∃ t, exec .runCompletion s = .next t ∧
      t = { s with ae := t.ae, ot := t.ot, fs := t.fs, store := t.store } ∧
      t.ot = { s.ot with entries := t.ot.entries } ∧
      t.store = { s.store with
        offtakes := t.store.offtakes, flare := s.integrateFlare.store.flare } ∧
      (∀ q ∈ r.compute.2, q.released = false → ∃ e ∈ s.entry q.slot, t.entry q.slot = some { e with
          grant := ⟨q.grant, q.short, s.ae.runNumber⟩
          state := if e.state = .pending then .active else e.state } ∧
        t.store.offtakes[q.slot] = (if e.state = .pending then ⟨storedOfftake (t.entry q.slot), true⟩
          else s.store.offtakes[q.slot])) ∧
      (∀ i ∈ r.retiring, t.entry i = none ∧ t.store.offtakes[i] = ⟨StoredOfftake.free, true⟩) ∧
      (∀ i, i ∉ r.retiring → (∀ q ∈ r.parts, q.slot = i → q.released = true) →
        t.entry i = s.entry i ∧ t.store.offtakes[i] = s.store.offtakes[i]) ∧
      (∀ src, t.ae.surplus.get src = r.compute.1.get src +
        ((r.compute.2.filter fun q => q.released).map fun q => q.grant.get src).sum) ∧
      t.ae.setpoint = ceilDiv (t.grantSum .cvg * 3600) r.ncvAtStart ∧
      t.ae.lastPools = r.startPools ∧ t.ae.lastNcv = r.ncvAtStart ∧
      t.ae.lastCompleted = s.ae.runNumber ∧ (t.ae.short = r.compute.2.any fun q => q.short) ∧
      (∀ z, t.ae.zoneGrant.get z = ((r.compute.2.filter (serves z)).map paid).sum ∧
        t.ae.zoneNeed.get z = ((r.compute.2.filter (serves z)).map RunPart.need).sum ∧
        t.ae.coverage.get z = (if t.ae.zoneNeed.get z = 0 then 0
          else 1000 * t.ae.zoneGrant.get z / t.ae.zoneNeed.get z)) ∧
      t.ae.yieldSum = (r.compute.2.map fun q => match (s.entry q.slot).map fun e => e.use with
        | some (.power y) => paid q * y / 1000
        | _ => 0).sum ∧
      t.ae.exportEstimate = t.ae.yieldSum - s.settings.stationLoad ∧
      t.ae.flareTotal = s.integrateFlare.ae.flareTotal ∧
      t.ae.flareResidue = s.integrateFlare.ae.flareResidue ∧ t.ae.flarePoint = s.now ∧
      t.ae.rerunPending = false ∧ (t.ae.run.isSome = s.ae.rerunPending) ∧
      t.fs = { s.fs with alerts := t.fs.alerts } ∧
      t.alert .shortfall = (s.alert .shortfall || t.ae.short) ∧
      t.alert .flareStarted = (s.alert .flareStarted ||
        decide ((s.ae.surplus.bfg = 0 ∧ 0 < t.ae.surplus.bfg) ∨
          (s.ae.surplus.cog = 0 ∧ 0 < t.ae.surplus.cog))) ∧
      (∀ f, f ≠ .shortfall → f ≠ .flareStarted → t.alert f = s.alert f)

/-- Every step keeps what the allocation law rests on, and the law itself: for each source, the
published grants and the surplus make up the pool of the last completed run (R49, R60, R61). -/
def Obligations.EveryKilowattIsAccountedFor : Prop :=
  ∀ s t : State, s.EngineSound → s.Conserved → step s = .next t → t.EngineSound ∧ t.Conserved

/-- Every step keeps the zone sums in order, and with them every coverage within 0..1000 (R63). -/
def Obligations.CoverageStaysInRange : Prop :=
  ∀ s t : State, s.EngineSound → s.CoverageSound → step s = .next t →
    t.CoverageSound ∧ ∀ z, t.ae.coverage.get z ≤ 1000

/-- Every step keeps the boost of every POWER entry within 0..boost maximum and every other boost at 0
(R20, R139, R146). -/
def Obligations.BoostsStayInRange : Prop :=
  ∀ s t : State, s.EngineSound → s.BoostsInRange → step s = .next t → t.BoostsInRange

/-- The state after reset meets every law the steps keep. -/
def Obligations.ResetMeetsTheLaws : Prop :=
  State.reset.EngineSound ∧ State.reset.Conserved ∧ State.reset.CoverageSound ∧
    State.reset.BoostsInRange ∧ State.reset.NumbersUnique ∧ State.reset.TableStored ∧
    State.reset.AdmissionFollowsHolds ∧ State.reset.AccountNumbersUnique ∧
    State.reset.BindingsApart ∧ State.reset.AccountsStored

/-! ## The fault supervisor -/

/-- What an appearance, and a disappearance, of a condition does under each fault mode (R82, R84). A
retry timer expires: it becomes IDLE, the hold is cleared, the latched flag is kept, and the source is
readmitted, with a request for a run, exactly when that was its last hold (R84, R87); the moment of the
expiry is assumption log 2. -/
def Obligations.FaultModesAct : Prop :=
  (∀ (s : State) (m : Monitor),
     ((s.monitor m).raw = false →
       let k := min 255 ((s.monitor m).counter + 1)
       (s.mode m = .off → s.evaluate m true =
         s.setMonitor m { s.monitor m with raw := true, counter := k }) ∧
       (s.mode m = .report → s.evaluate m true =
         (s.setMonitor m { s.monitor m with raw := true, counter := k, latched := true }).raise
           .sourceFault) ∧
       (s.mode m = .latch ∨ s.mode m = .retry → s.evaluate m true =
         (s.setMonitor m ⟨true, true, true, k, none⟩).raise .sourceFault)) ∧
     ((s.monitor m).raw = true →
       s.evaluate m false = s.setMonitor m { s.monitor m with
         raw := false
         timer := if s.mode m = .retry ∧ (s.monitor m).hold = true
           then some (s.now + BitVec.ofNat 32 (s.settings.retryTime * 1000))
           else (s.monitor m).timer }) ∧
     s.evaluate m (s.monitor m).raw = s) ∧
  (∀ (s : State) (m : Monitor) (e : Time), (s.monitor m).timer = some e → s.AdmissionFollowsHolds →
     let u := (s.atExpiry e).setMonitor m { s.monitor m with hold := false, timer := none }
     exec (.retryTimerExpiry m) s = .next
       (if s.fs.admission.get (actsOn m) = .withdrawn ∧ u.anyHold (actsOn m) = false then
         { u with
           fs := { u.fs with admission := u.fs.admission.put (actsOn m) .admitted }
           ae := (u.setAdmission (actsOn m) .admitted).requestRun.ae }
       else u))

/-- CLEAR FAULTS with "all": each monitor whose condition is absent is cleared of latch, hold and timer;
one whose condition is present keeps its hold and is latched unless its mode is OFF; the answer counts
those (R88). With "all" or a list of 1 to 15 named monitors, each counted once (assumption log 16), where
admission follows the holds: those named are cleared so and no other monitor changes, SOURCE_FAULT is set
exactly when one is latched again, and a source whose last hold went is readmitted, with a request for a
run (R49, R87, R88). A pair that names no monitor is BAD_VALUE. -/
def Obligations.ClearFaultsClearsWhatIsOver : Prop :=
  (∀ s : State, s.Serving → ∃ t, exec (.clearFaults [0xFF]) s = .next t ∧
    t = { s with cl := t.cl, fs := t.fs, ae := t.ae, store := t.store } ∧
    t.cl = s.linkAfter ⟨.ok, beBytes 1
      (Monitor.all.filter fun m => (s.monitor m).raw && s.mode m != .off).length⟩ ∧
    (∀ m, t.monitor m = (if (s.monitor m).raw = true
      then { s.monitor m with latched := s.mode m != .off }
      else { s.monitor m with latched := false, hold := false, timer := none })) ∧
    (∀ src, t.fs.admission.get src = .withdrawn ↔ t.anyHold src = true)) ∧
  (∀ (s : State) (payload : List Byte) (ms : List Monitor), s.Serving → s.AdmissionFollowsHolds →
    (payload = [0xFF] ∧ ms = Monitor.all ∨
      ∃ l : List (Byte × Byte), 1 ≤ l.length ∧ l.length ≤ 15 ∧
        payload = l.flatMap (fun c => [c.1, c.2]) ∧
        l.mapM (fun c => Monitor.ofCodes c.1.toNat c.2.toNat) = some ms) →
    let n := (Monitor.all.filter fun m =>
      decide (m ∈ ms) && (s.monitor m).raw && s.mode m != .off).length
    ∃ t, exec (.clearFaults payload) s = .next t ∧
      t = { s with cl := s.linkAfter ⟨.ok, beBytes 1 n⟩, fs := t.fs, ae := t.ae } ∧
      (∀ m, t.monitor m = (if m ∉ ms then s.monitor m
        else if (s.monitor m).raw = true then { s.monitor m with latched := s.mode m != .off }
        else { s.monitor m with latched := false, hold := false, timer := none })) ∧
      t.fs.alerts = (if n = 0 then s.fs.alerts else s.fs.alerts ||| 0x001#12) ∧
      t.AdmissionFollowsHolds ∧
      ((∀ src, t.fs.admission.get src = s.fs.admission.get src) → t.ae = s.ae) ∧
      ((∃ src, t.fs.admission.get src ≠ s.fs.admission.get src) →
        (s.nvs.settingsFault = true → t.ae = s.ae) ∧
        (s.nvs.settingsFault = false → s.ae.run.isSome = true →
          t.ae = { s.ae with rerunPending := true }) ∧
        (s.nvs.settingsFault = false → s.ae.run = none → t.ae.run.isSome = true ∧
          t.ae.runNumber = (if s.ae.runNumber < 65535 then s.ae.runNumber + 1 else 1)))) ∧
  (∀ (s : State) (l : List (Byte × Byte)), s.Serving → 1 ≤ l.length → l.length ≤ 15 →
    l.mapM (fun c => Monitor.ofCodes c.1.toNat c.2.toNat) = none →
    exec (.clearFaults (l.flatMap fun c => [c.1, c.2])) s = .next (s.answered ⟨.badValue, []⟩))

/-- READ COUNTERS, which takes no payload, returns the fifteen counters in the order of R89 and zeroes
them, standalone or not; CLEAR ALERT returns the flags as they stood and clears those marked; SET ALERT
MASK writes the mask (R90, R93, R94). That a mask equal to the live one sets the unsaved mark too, and that
mask bits 12 and up are ignored, is the model's choice (assumption log 40 and 25). -/
def Obligations.CountersAlertsAndMask : Prop :=
  ∀ s : State, s.Taking →
    (∃ t, exec (.readCounters []) s = .next t ∧
      t = { s with
        cl := s.linkAfter ⟨.ok, Monitor.all.flatMap fun m => beBytes 1 (s.monitor m).counter⟩
        fs := { s.fs with monitors := t.fs.monitors } } ∧
      ∀ m, t.monitor m = { s.monitor m with counter := 0 }) ∧
    (∀ b p, exec (.readCounters (b :: p)) s = .next (s.answered ⟨.badLength, []⟩)) ∧
    (∀ marks < 65536, exec (.clearAlert (beBytes 2 marks)) s = .next { s with
      cl := s.linkAfter ⟨.ok, beBytes 2 s.fs.alerts.toNat⟩
      fs := { s.fs with alerts := s.fs.alerts &&& ~~~(BitVec.ofNat 12 marks) } }) ∧
    (∀ marks < 65536, s.cl.standalone = false → s.nvs.saving = none →
      exec (.setAlertMask (beBytes 2 marks)) s = .next { s with
        cl := s.linkAfter ⟨.ok, []⟩
        settings := { s.settings with alertMask := BitVec.ofNat 12 marks }
        nvs := { s.nvs with unsaved := true } })

/-- The ALERT line is asserted exactly while a flag is both set and unmasked (R92). -/
def Obligations.AlertLineShowsUnmaskedFlags : Prop :=
  ∀ s : State, s.alertLine = true ↔
    ∃ f : AlertFlag, s.alert f = true ∧ s.settings.alertMask.getLsbD f.index = false

/-- Every step keeps a source withdrawn exactly while a monitor acting on it holds it (R87). -/
def Obligations.AdmissionFollowsTheHolds : Prop :=
  ∀ s t : State, s.AdmissionFollowsHolds → step s = .next t → t.AdmissionFollowsHolds

/-! ## The field line and the supply -/

/-- The gap ends and the query to the next position goes out, from the last position back to 0, or to
position 0 when a new list waits, or EMPTY when the list has no position; the end of the query starts
the reply timer (R97, R98). The moment of an expiry is assumption log 2; that a reply timeout changed while
the query was being sent applies to it is the model's choice (log 36). -/
def Obligations.WalkGoesRoundTheList : Prop :=
  ∀ (s : State),
    (∀ e, s.flc.phase = some .gap → s.flc.gapTimer = some e → s.settings.pollList ≠ [] →
      let k := if s.flc.replacementWaiting = true then 0
        else if s.flc.position + 1 < s.settings.pollList.length then s.flc.position + 1 else 0
      exec .gapTimerExpiry s = .next { s.atExpiry e with flc := { s.flc with
        polling := .running, position := k, phase := some .query
        queried := (s.settings.pollList[k]?).getD 0
        replyTimer := none, gapTimer := none, replacementWaiting := false } }) ∧
    (∀ e, s.flc.phase = some .gap → s.flc.gapTimer = some e → s.settings.pollList = [] →
      exec .gapTimerExpiry s = .next { s.atExpiry e with flc := { s.flc with
        polling := .empty, position := 0, phase := none
        replyTimer := none, gapTimer := none, replacementWaiting := false } }) ∧
    (s.flc.phase = some .query → exec .querySent s = .next { s with flc := { s.flc with
      phase := some .await
      replyTimer := some (s.now + BitVec.ofNat 32 s.settings.replyTimeout) } })

/-- The reply timer expires: a miss, CHECK when the bytes that arrived could not be delimited, else
TIMEOUT. The counts of the queried station rise, a station that reaches the stale threshold becomes
STALE with STATION_STALE, and the gap begins (R98, R99, R103); the moment of the expiry is assumption
log 2. A change to STALE reaches the owners of the station's role and nobody else: a source or holder
record in FRESH is HELD, its STALE monitor acts by its mode and the source is withdrawn when it holds; an
OPEN account is in HOLDING; the meter is silent and the period has a GAP (R6, R15, R80, R82, R87, R106,
R124, R143). Which outcome a complete report has follows the checks of R102 in their order; one that
fails a check is entered as the same miss, with the check's reason, and one of an UNBOUND station is
discarded and entered as answered, with an error (R105). -/
def Obligations.MissesAndTheOrderOfChecks : Prop :=
  (∀ (s : State) (arrived : List Byte) (e : Time), s.flc.phase = some .await →
     s.flc.replyTimer = some e → 1 ≤ s.flc.queried → s.flc.queried ≤ 127 →
     ∃ t, exec (.replyTimerExpiry arrived) s = .next t ∧
       t.Misses (s.atExpiry e) (if undelimited arrived then .check else .timeout)) ∧
  (∀ (s : State) (report : List Byte) (r : Report) (v : LastEvent), s.flc.phase = some .await →
     1 ≤ s.flc.queried → s.flc.queried ≤ 127 → Report.read report = some r →
     s.judge s.flc.queried r = .miss v →
     ∃ t, exec (.reportComplete report) s = .next t ∧ t.Misses s v) ∧
  (∀ (s : State) (a : Nat) (r : Report),
     (r.sum ≠ 0 → s.judge a r = .miss .check) ∧
     (r.sum = 0 → r.address ≠ a → s.judge a r = .miss .address) ∧
     (r.sum = 0 → r.address = a → s.role a = .unbound → s.judge a r = .unbound) ∧
     (r.sum = 0 → r.address = a → s.role a ≠ .unbound → (s.role a).kind ≠ some r.reading.kind →
       s.judge a r = .miss .kind) ∧
     (r.sum = 0 → r.address = a → (s.role a).kind = some r.reading.kind →
       r.status.getLsbD 0 = true → s.judge a r = .miss .stationFault) ∧
     (r.sum = 0 → r.address = a → (s.role a).kind = some r.reading.kind →
       r.status.getLsbD 0 = false → r.reading.inRange = false → s.judge a r = .miss .range) ∧
     (r.sum = 0 → r.address = a → (s.role a).kind = some r.reading.kind →
       r.status.getLsbD 0 = false → r.reading.inRange = true →
       s.judge a r = .good (s.role a) r.reading)) ∧
  (∀ (s : State) (report : List Byte) (r : Report), s.flc.phase = some .await →
     1 ≤ s.flc.queried → s.flc.queried ≤ 127 → Report.read report = some r → r.sum = 0 →
     r.address = s.flc.queried → s.role s.flc.queried = .unbound →
     ∃ t, exec (.reportComplete report) s = .next t ∧
       t = { s with flc := t.flc } ∧
       t.LineAfter s { s.station s.flc.queried with
         state := .live
         misses := 0
         errors := min 255 ((s.station s.flc.queried).errors + 1)
         last := .unbound
         lastGood := some s.now })

/-- A good gas report within the limits, with no other condition of the source present and its admission
as its holds say: availability is flow × NCV / 3600 truncated, for CVG draw × NCV / 3600, the record is
FRESH, the station's counts start again, the gap begins, and nothing else changes (R3, R4, R97, R104). A
station that returns to LIVE makes the STALE condition absent: under RETRY a hold starts its timer, and
the admission stands (R80, R82, R84). -/
def Obligations.GasReportSetsTheAvailability : Prop :=
  ∀ (s : State) (src : Source) (report : List Byte) (flow ncv : Nat) (st : Byte),
    s.flc.phase = some .await → 1 ≤ s.flc.queried → s.flc.queried ≤ 127 →
    s.role s.flc.queried = .gas src →
    Report.read report = some ⟨0, s.flc.queried, .gas flow ncv, st⟩ → st.getLsbD 0 = false →
    flow ≤ 999999 → ncv ≤ 40000 →
    (s.settings.limits.get src).ncvMin ≤ ncv → ncv ≤ (s.settings.limits.get src).ncvMax →
    flow ≤ (s.settings.limits.get src).flowMax →
    (∀ k, k ≠ .stale → (s.monitor (.gas src k)).raw = false) →
    (s.fs.admission.get src = .withdrawn ↔ s.anyHold src = true) →
    let rate := if src = .cvg then s.sm.holder.draw else flow
    ∃ t, exec (.reportComplete report) s = .next t ∧
      t = { s with sm := t.sm, flc := t.flc, fs := { s.fs with monitors := t.fs.monitors } } ∧
      (let r : SourceRecord := ⟨(s.source src).address, .fresh, flow, ncv, rate * ncv / 3600⟩
       t.sm = { s.sm with sources := s.sm.sources.put src r }) ∧
      (∀ m, t.monitor m =
        if m = .gas src .stale ∧ (s.station s.flc.queried).state ≠ .live ∧ (s.monitor m).raw = true
        then { s.monitor m with
          raw := false
          timer := if s.mode m = .retry ∧ (s.monitor m).hold = true
            then some (s.now + BitVec.ofNat 32 (s.settings.retryTime * 1000))
            else (s.monitor m).timer }
        else s.monitor m) ∧
      t.LineAfter s { s.station s.flc.queried with
        state := .live, misses := 0, last := .good, lastGood := some s.now }

/-- A lean-gas report: an NCV below the minimum, under a mode that holds, withdraws an admitted source;
a run in flight is aborted, and the run that starts has a pool of 0 for the source (R72, R78, R82, R87).
-/
def Obligations.LeanGasWithdrawsTheSource : Prop :=
  ∀ (s : State) (src : Source) (report : List Byte) (flow ncv : Nat) (st : Byte),
    s.flc.phase = some .await → 1 ≤ s.flc.queried → s.flc.queried ≤ 127 →
    s.role s.flc.queried = .gas src →
    Report.read report = some ⟨0, s.flc.queried, .gas flow ncv, st⟩ → st.getLsbD 0 = false →
    flow ≤ 999999 → ncv ≤ 40000 → ncv < (s.settings.limits.get src).ncvMin →
    (s.mode (.gas src .ncvLow) = .latch ∨ s.mode (.gas src .ncvLow) = .retry) →
    (s.monitor (.gas src .ncvLow)).raw = false → s.fs.admission.get src = .admitted →
    s.nvs.settingsFault = false →
    ∃ t, exec (.reportComplete report) s = .next t ∧
      t.fs.admission.get src = .withdrawn ∧ t.alert .sourceFault = true ∧
      (t.monitor (.gas src .ncvLow)).raw = true ∧ (t.monitor (.gas src .ncvLow)).latched = true ∧
      (t.monitor (.gas src .ncvLow)).hold = true ∧ (t.monitor (.gas src .ncvLow)).timer = none ∧
      (s.ae.run.isSome = true → t.alert .runAborted = true ∧ t.ae.rerunPending = false) ∧
      (∃ r, t.ae.run = some r ∧ r.startPools.get src = 0) ∧
      t.ae.surplus = s.ae.surplus ∧ t.ae.lastCompleted = s.ae.lastCompleted ∧ t.ot = s.ot

/-- One holder report moves the band by at most one step, as R10 and R11 place it. A good holder report
whose trip conditions stay absent, with the admission of CVG as its holds say: level, marks and band are
stored; a band change sets the draw and the CVG availability, requests a run and sets HOLDER_BAND;
without one nothing else changes but the station record and the gap (R9, R12, R13, R97, R104). A station that returns to LIVE makes HOLDER_STALE
absent: under RETRY a hold starts its timer (R80, R82, R84, R104). -/
def Obligations.HolderReportSetsTheDraw : Prop :=
  (∀ (level : Nat) (c : HolderSettings), c.lLo + c.hyst ≤ c.lHi - c.hyst → c.hyst ≤ c.lHi →
     stepBand .unknown level c =
       (if level < c.lLo then .low else if level < c.lHi then .normal else .high) ∧
     (stepBand .low level c = .normal ↔ c.lLo + c.hyst ≤ level) ∧ stepBand .low level c ≠ .high ∧
     (stepBand .normal level c = .low ↔ level < c.lLo) ∧
     (stepBand .normal level c = .high ↔ c.lHi ≤ level) ∧
     (stepBand .high level c = .normal ↔ level < c.lHi - c.hyst) ∧ stepBand .high level c ≠ .low ∧
     (∀ b, b ≠ .unknown → stepBand b level c ≠ .unknown)) ∧
  (∀ (s : State) (report : List Byte) (level : Nat) (st : Byte),
     s.flc.phase = some .await → 1 ≤ s.flc.queried → s.flc.queried ≤ 127 →
     s.role s.flc.queried = .holder →
     Report.read report = some ⟨0, s.flc.queried, .holder level, st⟩ → st.getLsbD 0 = false →
     level ≤ 1000 →
     s.settings.holder.tripLow ≤ level → level ≤ s.settings.holder.tripHigh →
     (s.monitor .levelLowTrip).raw = false → (s.monitor .levelHighTrip).raw = false →
     (s.fs.admission.get .cvg = .withdrawn ↔ s.anyHold .cvg = true) →
     let band := stepBand s.sm.holder.band level s.settings.holder
     let draw := match band with
       | .unknown => 0
       | .low => 0
       | .normal => s.settings.holder.dNom
       | .high => s.settings.holder.dMax
     ∃ t, exec (.reportComplete report) s = .next t ∧
       (∀ m, t.monitor m =
         if m = .holderStale ∧ (s.station s.flc.queried).state ≠ .live ∧ (s.monitor m).raw = true
         then { s.monitor m with
           raw := false
           timer := if s.mode m = .retry ∧ (s.monitor m).hold = true
             then some (s.now + BitVec.ofNat 32 (s.settings.retryTime * 1000))
             else (s.monitor m).timer }
         else s.monitor m) ∧
       t.LineAfter s { s.station s.flc.queried with
         state := .live, misses := 0, last := .good, lastGood := some s.now } ∧
       (band = s.sm.holder.band →
         t = { s with sm := t.sm, flc := t.flc, fs := { s.fs with monitors := t.fs.monitors } } ∧
         t.sm = { s.sm with holder := { s.sm.holder with
           reading := .fresh, level := level, belowTrip := false, aboveTrip := false } }) ∧
       (band ≠ s.sm.holder.band →
         t = { s with sm := t.sm, flc := t.flc, ae := t.ae, fs := t.fs } ∧
         t.sm.holder = ⟨s.sm.holder.address, .fresh, level, band, false, false, draw⟩ ∧
         t.sm.sources.cvg = { s.sm.sources.cvg with
           availability := draw * s.sm.sources.cvg.ncv / 3600 } ∧
         t.sm.sources.bfg = s.sm.sources.bfg ∧ t.sm.sources.cog = s.sm.sources.cog ∧
         t.fs = { s.fs with
           alerts := s.fs.alerts ||| 0x010#12, monitors := t.fs.monitors } ∧
         (s.nvs.settingsFault = true → t.ae = s.ae) ∧
         (s.nvs.settingsFault = false → s.ae.run.isSome = true →
           t.ae = { s.ae with rerunPending := true }) ∧
         (s.nvs.settingsFault = false → s.ae.run = none →
           ∃ r, t.ae.run = some r ∧ r.startPools.cvg = (if s.fs.admission.get .cvg = .admitted
             then t.sm.sources.cvg.availability else 0))))

/-- READ STATION returns the line and the station and zeroes the station's error counter; SET POLL LIST
builds the staged list in parts and a FINAL part puts it in force, with no effect before that (R108,
R109, R111): the walk stands while polling is STOPPED, goes on at position 0 after the exchange in flight
or after the gap, starts when it was EMPTY, or stays EMPTY when the new list is. The layout of READ
STATION is assumption log 13, the position shown in the gap log 22, and that a list equal to the live one
sets the unsaved mark too is log 40. -/
def Obligations.StationAndPollListCommands : Prop :=
  ∀ s : State,
    (∀ a : Byte, s.Taking → 1 ≤ a.toNat → a.toNat ≤ 127 →
      ∃ t, exec (.readStation [a]) s = .next t ∧
        t = { s with cl := s.linkAfter ⟨.ok, s.encodeStation a.toNat⟩
                     flc := { s.flc with stations := t.flc.stations } } ∧
        t.station a.toNat = { s.station a.toNat with errors := 0 } ∧
        ∀ b, b ≠ a.toNat → t.station b = s.station b) ∧
    (∀ (l : List Byte) (first final : Bool), s.Serving → s.nvs.saving = none →
      (∀ a ∈ l, 1 ≤ a.toNat ∧ a.toNat ≤ 127) → (first = false → s.flc.staged.isSome = true) →
      let list := (if first then [] else s.flc.staged.getD []) ++ l.map BitVec.toNat
      let control : Byte := (if first then 0x01 else 0x02) + (if final then 0x80 else 0)
      list.length ≤ 96 →
      (final = false → exec (.setPollList (control :: l)) s = .next { s with
        cl := s.linkAfter ⟨.ok, beBytes 1 list.length⟩
        flc := { s.flc with staged := some list } }) ∧
      (final = true → ∃ t, exec (.setPollList (control :: l)) s = .next t ∧
        t.cl = s.linkAfter ⟨.ok, beBytes 1 list.length⟩ ∧
        t.settings = { s.settings with pollList := list } ∧ t.flc.staged = none ∧
        t.nvs = { s.nvs with unsaved := true } ∧ t.ot = s.ot ∧
        (∀ a, 1 ≤ a → a ≤ 127 → t.station a =
          (if s.settings.pollList.contains a && !list.contains a && (s.station a).state == .live
            then { s.station a with state := .stale } else s.station a)) ∧
        (s.flc.polling = .running → s.flc.phase = some .query ∨ s.flc.phase = some .await →
          t.flc.replacementWaiting = true ∧ t.flc.queried = s.flc.queried) ∧
        (s.flc.polling = .running → s.flc.phase = some .gap → t.flc = { s.flc with
          staged := none, position := list.length - 1, stations := t.flc.stations }) ∧
        (s.flc.polling = .stopped → t.flc = { s.flc with
          staged := none, stations := t.flc.stations }) ∧
        (s.flc.polling = .empty → list = [] → t.flc = { s.flc with
          staged := none, stations := t.flc.stations, position := 0, phase := none
          replyTimer := none, gapTimer := none }) ∧
        (s.flc.polling = .empty → list ≠ [] →
          t.flc.polling = .running ∧ t.flc.position = 0 ∧ t.flc.phase = some .query ∧
          some t.flc.queried = list[0]?)))

/-! ## Heat accounts -/

/-- OPEN ACCOUNT takes the lowest FREE slot, with everything clear, in HOLDING when its station is STALE
and OPEN otherwise (R116, R117). CLOSE ACCOUNT makes an OPEN or HOLDING account CLOSING; FORCE FINAL
makes a CLOSING one FINAL with its bands frozen; CLEAR ACCOUNT MARKS clears the marks named and the
counters when asked; COLLECT ACCOUNT takes a closed copy away or frees a FINAL account. Each writes the
record and changes nothing else (R126, R128 to R131, R133). The layout of the answers is assumption log
13, of COLLECT ACCOUNT log 37, and that CLEAR ACCOUNT MARKS answers its marks as one byte is log 41. -/
def Obligations.AccountsAreOpenedAndEnded : Prop :=
  (∀ (s : State) (n a limit : Nat) (z : Zone) (i : Fin 64), s.Serving → 1 ≤ n → n < 4294967296 →
     1 ≤ a → a ≤ 127 → limit < 16777216 → (∀ j, ∀ x ∈ s.account j, x.number ≠ n ∧ x.station ≠ a) →
     s.settings.roles.holds a = false → s.account i = none →
     (∀ j < i, (s.account j).isSome = true) →
     let x : Account :=
       { number := n, station := a, zone := z, flowLimit := min 2000000 limit
         state := if (s.station a).state = .stale then .holding else .opened
         damaged := false, baseline := none, lastReading := none, residue := 0, recovered := ⟨0, 0⟩
         fired := ⟨0, 0⟩, gaps := 0, implausibles := 0, reverses := 0
         marks := ⟨false, false, false, false, false⟩, closed := none, final := none }
     exec (.openAccount (beBytes 4 n ++ beBytes 1 a ++ beBytes 1 z.number ++ beBytes 3 limit)) s =
       .next { s with
         cl := s.linkAfter ⟨.ok, beBytes 1 i.val⟩
         hau := { s.hau with accounts := setAt s.hau.accounts i (some x) }
         store := { s.store with accounts := setAt s.store.accounts i ⟨x.stored, true⟩ } }) ∧
  (∀ (s : State) (n : Nat) (i : Fin 64) (a : Account), s.Serving → n < 4294967296 →
     s.findAccount n = some (i, a) →
     let after_ := fun (payload : List Byte) (x : Option Account) => ({ s with
       cl := s.linkAfter ⟨.ok, payload⟩
       hau := { s.hau with accounts := setAt s.hau.accounts i x }
       store := { s.store with
         accounts := setAt s.store.accounts i ⟨storedAccount x, true⟩ } } : State)
     (a.state = .opened ∨ a.state = .holding →
       exec (.closeAccount (beBytes 4 n)) s = .next (after_ [] (some { a with state := .closing }))) ∧
     (a.state = .closing → exec (.forceFinal (beBytes 4 n)) s = .next
       { after_ [] (some { a with
           state := .final, final := some ⟨a.recovered, a.fired⟩, recovered := ⟨0, 0⟩, fired := ⟨0, 0⟩
           marks := { a.marks with finalReady := true } }) with
         fs := { s.fs with alerts := s.fs.alerts ||| 0x040#12 } }) ∧
     (∀ bits < 256, exec (.clearAccountMarks (beBytes 4 n ++ beBytes 1 bits)) s = .next
       (after_ ([a.marks.toByte] ++ beBytes 1 a.gaps ++ beBytes 1 a.implausibles ++ beBytes 1 a.reverses)
         (some { a with
           marks := ⟨a.marks.saturated && !bits.testBit 0, a.marks.implausible && !bits.testBit 1,
             a.marks.reverse && !bits.testBit 2, a.marks.finalReady,
             a.marks.uncollected && !bits.testBit 3⟩
           gaps := if bits.testBit 4 then 0 else a.gaps
           implausibles := if bits.testBit 4 then 0 else a.implausibles
           reverses := if bits.testBit 4 then 0 else a.reverses }))) ∧
     (a.state = .final → exec (.collectAccount (beBytes 4 n)) s =
       .next (after_ a.encodeCollected none)) ∧
     (a.state = .opened ∨ a.state = .holding → a.damaged = false → a.closed.isSome = true →
       ∃ payload, exec (.collectAccount (beBytes 4 n)) s = .next (after_ payload (some { a with
         closed := none, marks := { a.marks with uncollected := false } }))) ∧
     (a.state = .closing ∨ (a.state ≠ .final ∧ (a.damaged = true ∨ a.closed = none)) →
       exec (.collectAccount (beBytes 4 n)) s = .next (s.answered ⟨.wrongState, []⟩)))

/-- CLOSE BILLING PERIOD takes the next number, and at the same event each undamaged OPEN or HOLDING
account without a closed copy has its bands moved aside under that number, while one with a copy keeps
it and is marked UNCOLLECTED; every other account stands (R127). The order of the answer is assumption
log 13. -/
def Obligations.BillingCloseNeverOverwritesACopy : Prop :=
  ∀ s : State, s.Serving →
    let number := if s.hau.closeNumber < 4294967295 then s.hau.closeNumber + 1 else 1
    let acts := fun (a : Account) => a.damaged = false ∧ (a.state = .opened ∨ a.state = .holding)
    let count := fun (copy : Bool) => (slots64.filter fun i => (s.account i).any fun a =>
      decide (acts a) && a.closed.isSome == copy).length
    let closed := count false
    let skipped := count true
    ∃ t, exec (.closeBillingPeriod []) s = .next t ∧
      t = { s with cl := t.cl, hau := t.hau, store := t.store, fs := t.fs } ∧
      t.cl = s.linkAfter ⟨if skipped = 0 then .ok else .uncollected,
        beBytes 4 number ++ beBytes 1 closed ++ beBytes 1 skipped⟩ ∧
      t.hau.closeNumber = number ∧ t.store.closeNumber = ⟨number, true⟩ ∧
      (∀ i, ∀ a ∈ s.account i,
        (acts a → a.closed = none → t.account i = some { a with
          closed := some ⟨a.recovered, a.fired, number⟩, recovered := ⟨0, 0⟩, fired := ⟨0, 0⟩ }) ∧
        (acts a → a.closed.isSome = true → t.account i = some { a with
          marks := { a.marks with uncollected := true } } ∧ t.alert .accountEvent = true) ∧
        (¬ acts a → t.account i = some a) ∧
        (acts a → t.store.accounts[i] = ⟨storedAccount (t.account i), true⟩)) ∧
      (∀ i, s.account i = none → t.account i = none) ∧
      (skipped = 0 ↔ ∀ i, ∀ a ∈ s.account i, acts a → a.closed = none)

/-- The energy of a reading and its residue are exact, and every watt-hour goes to one of the two bands:
the coverage's share to RECOVERED, the rest to FIRED, but for what a saturated band withholds (R120 to
R122). -/
def Obligations.EveryWattHourIsBilledOnce : Prop :=
  ∀ (a : Account) (r : HeatReading) (base : Baseline) (c : Nat), c ≤ 1000 → a.residue < 100000 →
    EnergyBand.content a.recovered ≤ 999999999999 → EnergyBand.content a.fired ≤ 999999999999 →
    let dv := (r.volume + 100000000 - base.volume) % 100000000
    let dt := (r.flowTemp - r.returnTemp).toNat
    let x := dv * dt * 1163 + a.residue
    let wh := x / 100000
    let b := a.billed r base c
    wh * 100000 + b.residue = x ∧ b.residue < 100000 ∧
    EnergyBand.content b.recovered = min 999999999999 (EnergyBand.content a.recovered + wh * c / 1000) ∧
    EnergyBand.content b.fired = min 999999999999 (EnergyBand.content a.fired + (wh - wh * c / 1000)) ∧
    b.recovered.wh < 1000 ∧ b.fired.wh < 1000 ∧
    (EnergyBand.content a.recovered + wh ≤ 999999999999 → EnergyBand.content a.fired + wh ≤ 999999999999 →
      EnergyBand.content b.recovered + EnergyBand.content b.fired = EnergyBand.content a.recovered + EnergyBand.content a.fired + wh) ∧
    b.baseline = some ⟨r.volume, r.flowTemp, r.returnTemp⟩ ∧ b.lastReading = some r.time ∧
    b.reverses = (if r.flowTemp < r.returnTemp then min 255 (a.reverses + 1) else a.reverses)

/-- A good heat report from a station bound to an account bills the account by its state: a first
reading only sets the baseline, a plausible one is billed by the zone's coverage, an implausible one is
counted and rejected, a CLOSING account becomes FINAL, and a FINAL or damaged account ignores it. The
record is written; ACCOUNT_EVENT is set exactly when the reading sets a mark (R120, R122, R126); nothing
else but the station record and the gap changes (R97, R104, R118, R119, R123, R125, R129). That a rejected reading which ends a HOLDING spell counts a GAP is assumption log 21. -/
def Obligations.HeatReportIsBilled : Prop :=
  ∀ (s : State) (report : List Byte) (v rate : Nat) (tf tr : Int) (st : Byte) (i : Fin 64)
    (a : Account),
    s.flc.phase = some .await → 1 ≤ s.flc.queried → s.flc.queried ≤ 127 →
    s.role s.flc.queried = .heat i → s.account i = some a →
    Report.read report = some ⟨0, s.flc.queried, .heat v rate tf tr, st⟩ → st.getLsbD 0 = false →
    v < 100000000 → rate ≤ 2000000 → -2000 ≤ tf → tf ≤ 15000 → -2000 ≤ tr → tr ≤ 15000 →
    ∃ t, exec (.reportComplete report) s = .next t ∧
      t = { s with
        flc := t.flc
        hau := { s.hau with accounts := t.hau.accounts }
        store := { s.store with accounts := t.store.accounts }
        fs := { s.fs with alerts := t.fs.alerts } } ∧
      t.LineAfter s { s.station s.flc.queried with
        state := .live, misses := 0, last := .good, lastGood := some s.now } ∧
      (∀ j, j ≠ i → t.account j = s.account j ∧ t.store.accounts[j] = s.store.accounts[j]) ∧
      (a.damaged = false → a.state = .closing → t.fs.alerts = s.fs.alerts ||| 0x040#12) ∧
      (a.damaged = true ∨ a.state = .final → t.account i = some a ∧ t.store = s.store ∧ t.fs = s.fs) ∧
      (a.damaged = false → a.state ≠ .final →
        t.store.accounts[i] = ⟨storedAccount (t.account i), true⟩) ∧
      (a.damaged = false → a.state ≠ .final → a.state ≠ .closing → a.baseline = none →
        t.fs = s.fs) ∧
      (a.damaged = false → a.state ≠ .final → a.baseline = none →
        t.account i = some (if a.state = .closing then a.finish else { a with
          baseline := some ⟨v, tf, tr⟩, lastReading := some s.now, state := .opened })) ∧
      (∀ base ∈ a.baseline, a.damaged = false → a.state ≠ .final →
        let dv := (v + 100000000 - base.volume) % 100000000
        let plausible := ∀ at_ ∈ a.lastReading,
          dv ≤ a.flowLimit * (s.now - at_).toNat / 3600000 + 1000
        let a' := if a.state = .holding ∨ a.lastReading = none
          then { a with gaps := min 255 (a.gaps + 1) } else a
        (plausible → a.state = .closing → t.account i = some
          (a'.billed ⟨v, tf, tr, s.now⟩ base (s.ae.coverage.get a.zone)).finish) ∧
        (plausible → a.state ≠ .closing → t.account i = some
          { a'.billed ⟨v, tf, tr, s.now⟩ base (s.ae.coverage.get a.zone) with state := .opened } ∧
          (let wh := (dv * (tf - tr).toNat * 1163 + a.residue) / 100000
           let share := wh * s.ae.coverage.get a.zone / 1000
           t.fs.alerts = if tf < tr ∨ 999999999999 < EnergyBand.content a.recovered + share ∨
               999999999999 < EnergyBand.content a.fired + (wh - share)
             then s.fs.alerts ||| 0x040#12 else s.fs.alerts)) ∧
        (¬ plausible → t.account i = some { a' with
          state := if a.state = .closing then .closing else .opened
          implausibles := min 255 (a.implausibles + 1)
          marks := { a.marks with implausible := true } } ∧
          t.fs.alerts = s.fs.alerts ||| 0x040#12))

/-- An account leaves its slot only from FINAL by COLLECT ACCOUNT, and a closed copy leaves its account
only by COLLECT ACCOUNT: no other command or event but a reset frees one or overwrites the other (R127,
R131). -/
def Obligations.AccountsAndCopiesLeaveByCollection : Prop :=
  ∀ (c : Instr) (s t : State) (i : Fin 64) (a : Account), s.startingUp = false → isReset c = false →
    s.account i = some a → exec c s = .next t →
    (t.account i = none → a.state = .final ∧ ∃ p, c = .collectAccount p) ∧
    (∀ b ∈ t.account i, b.number = a.number ∧ b.station = a.station ∧ b.zone = a.zone ∧
      b.damaged = a.damaged ∧ (∀ k ∈ a.closed, b.closed = some k ∨ ∃ p, c = .collectAccount p))

/-- No step binds a station to two accounts, lets a bound station hold a role, or makes one account number
name two slots, the loads of start-up among them (R101, R114, R116, R132); nor does one spoil what these
laws rest on in the store (R136). -/
def Obligations.BindingsStayApart : Prop :=
  ∀ s t : State, s.BindingsApart → s.AccountNumbersUnique → s.AccountsStored → step s = .next t →
    t.BindingsApart ∧ t.AccountNumbersUnique ∧ t.AccountsStored

/-! ## Export settlement -/

/-- START SETTLEMENT opens the period of its number and declaration with the live length, from the
moment less the offset, and asks for the meter; DECLARE stores the next declaration; STOP SETTLEMENT
drops period, timer, declaration and baseline and zeroes the boosts (R140 to R142). -/
def Obligations.SettlementCommands : Prop :=
  ∀ (s : State) (n d o : Nat), s.Serving → n < 4294967296 → d ≤ 2000000 → o < 65536 →
    (s.esu.current = none → o < s.settings.periodLength →
      let silent := decide (s.settings.roles.export_ = 0 ∨
        (s.station s.settings.roles.export_).state = .stale)
      let start := s.now - BitVec.ofNat 32 (o * 1000)
      exec (.startSettlement (beBytes 4 n ++ beBytes 3 d ++ beBytes 2 o)) s = .next { s with
        cl := s.linkAfter ⟨.ok, []⟩
        esu := { s.esu with
          baseline := none
          silent := silent
          current := some ⟨n, d, start, s.settings.periodLength, 0, none, silent, false⟩
          timer := some (start + BitVec.ofNat 32 (s.settings.periodLength * 1000)) } }) ∧
    (s.esu.current.isSome = true →
      exec (.declare (beBytes 4 n ++ beBytes 3 d)) s = .next { s with
        cl := s.linkAfter ⟨.ok, []⟩, esu := { s.esu with next := some ⟨n, d⟩ } }) ∧
    (s.esu.current = none →
      exec (.declare (beBytes 4 n ++ beBytes 3 d)) s = .next (s.answered ⟨.wrongState, []⟩)) ∧
    (s.esu.current.isSome = true → s.BoostsInRange → ∃ t, exec (.stopSettlement []) s = .next t ∧
      t = { s with
        cl := s.linkAfter ⟨.ok, []⟩
        ot := { s.ot with entries := t.ot.entries }
        esu := { s.esu with baseline := none, current := none, timer := none, next := none } } ∧
      ∀ i, t.entry i = (s.entry i).map fun e => { e with boost := 0 }) ∧
    (s.esu.current = none → exec (.stopSettlement []) s = .next (s.answered ⟨.ok, []⟩))

/-- The period timer expires: the period closes with its deviation judged against the tolerance, SHORT
and OVER counted and alerted, and the next opens where it ended, with the next declaration or CARRIED
with the next number; boosts and meter baseline stand (R147, R148). The moment of the expiry is
assumption log 2. -/
def Obligations.PeriodsFollowOneAnother : Prop :=
  ∀ (s : State) (p : Period) (e : Time), s.esu.current = some p → s.esu.timer = some e →
    let dev : Int := (p.delivered : Int) - (p.declared * 1000 : Nat)
    let tol : Int := (p.declared * 1000 * s.settings.tolerance / 1000 : Nat)
    let outcome : PeriodOutcome := if dev < -tol then .short else if tol < dev then .over else .within
    let start := p.start + BitVec.ofNat 32 (p.length * 1000)
    let next : Period := match s.esu.next with
      | some d => ⟨d.number, d.declared, start, s.settings.periodLength, 0, none, s.esu.silent, false⟩
      | none => ⟨if p.number = 4294967295 then 0 else p.number + 1, p.declared, start,
          s.settings.periodLength, 0, none, s.esu.silent, true⟩
    p.number < 4294967296 →
    exec .periodTimerExpiry s = .next { s.atExpiry e with
      esu := { s.esu with
        lastClosed := some ⟨p.number, p.declared, p.delivered, dev, outcome, p.gap, p.carried⟩
        current := some next
        timer := some (start + BitVec.ofNat 32 (s.settings.periodLength * 1000))
        next := none
        outOfBand := if outcome = .within then s.esu.outOfBand else min 65535 (s.esu.outOfBand + 1) }
      fs := { s.fs with
        alerts := if outcome = .within then s.fs.alerts else s.fs.alerts ||| 0x020#12 } }

/-- A good export report clears the silent mark. In IDLE it does nothing more; in OPEN without a baseline
it becomes the baseline. With one, a plausible register difference is credited to the current period,
which is projected to its end, and the boosts of POWER entries in PENDING or ACTIVE step by the
shortfall, not in standalone operation; an implausible one is handed back as an error of the station
(R144, R145). That the remaining time is the length less the time elapsed on the modular base is
assumption log 23. -/
def Obligations.ExportReportIsCredited : Prop :=
  ∀ (s : State) (report : List Byte) (register : Nat) (st : Byte),
    s.flc.phase = some .await → 1 ≤ s.flc.queried → s.flc.queried ≤ 127 →
    s.role s.flc.queried = .export_ →
    Report.read report = some ⟨0, s.flc.queried, .export_ register, st⟩ → st.getLsbD 0 = false →
    register < 1000000000 →
    let good : StationRecord := { s.station s.flc.queried with
      state := .live, misses := 0, last := .good, lastGood := some s.now }
    ∃ t, exec (.reportComplete report) s = .next t ∧
      t = { s with flc := t.flc, esu := t.esu, ot := { s.ot with entries := t.ot.entries } } ∧
      (s.esu.current = none ∨ s.esu.baseline = none → t.LineAfter s good) ∧
      (s.esu.current = none → t.esu = { s.esu with silent := false } ∧ t.ot = s.ot) ∧
      (s.esu.current.isSome = true → s.esu.baseline = none →
        t.esu = { s.esu with silent := false, baseline := some ⟨register, s.now⟩ } ∧ t.ot = s.ot) ∧
      (∀ p ∈ s.esu.current, ∀ b ∈ s.esu.baseline,
        let d := (register + 1000000000 - b.register) % 1000000000
        let limit := s.settings.exportLimit * (s.now - b.time).toNat / 3600 + 1000
        let delivered := min 281474976710655 (p.delivered + d)
        let remaining := p.length * 1000 - (s.now - p.start).toNat
        let projected := delivered + s.ae.exportEstimate * remaining / 3600
        let shortfall : Int := (p.declared * 1000 : Nat) - (projected : Int)
        let tol : Int := (p.declared * 1000 * s.settings.tolerance / 1000 : Nat)
        (limit < d → t.esu = { s.esu with silent := false } ∧ t.ot = s.ot ∧
          t.LineAfter s { good with errors := min 255 (good.errors + 1) }) ∧
        (d ≤ limit → t.LineAfter s good ∧ t.esu = { s.esu with
            silent := false, baseline := some ⟨register, s.now⟩
            current := some { p with delivered := delivered, projection := some projected } } ∧
          ∀ i, t.entry i = (s.entry i).map fun x => { x with boost :=
            if s.cl.standalone = false ∧ x.use.isPower = true ∧ x.takesPart = true then
              (if tol < shortfall then min s.settings.boostMax (x.boost + s.settings.boostStep)
               else if shortfall < -tol then x.boost - s.settings.boostStep else x.boost)
            else x.boost }))

/-! ## Settings -/

/-- SET SETTING writes all its items, clamped, at one event when the result is consistent and no role
address is bound, and sets the unsaved mark; otherwise BAD_VALUE, and nothing changes; while the band is
enforced an item that names it is refused (R38, R167). At that event the owners take their changes: source and
holder records and the draw (R7, R14), the monitors of a target with another address (R81; by section
4.2) or of another mode (R85) and every admission once (R87), the dispatch timer and P_est (R50, R64),
the boosts, the meter baseline and the silent mark (R139, R143), and the link-silence timer (R151). That
of the records, R7 comes before R14, and of the monitors, R81 before R85, is assumption log 34 and 18. A
result is consistent by the rules of R167. One item is clamped into the range its owning
rule states, or refused where the rule refuses (R14, R50, R77, R84, R86, R107, R139, R151). That a role
address above 127 is clamped (items 0x22 to 0x26) and bits 12 and up of the mask are dropped (0x31) is
assumption log 25, and that the band size is sent as the number itself (0x33) is the model's choice of
log 15. -/
def Obligations.SettingsAreWrittenWhole : Prop :=
  (∀ (s : State) (l : List (Nat × Nat)), s.Serving → 1 ≤ l.length → l.length ≤ 10 →
     (∀ x ∈ l, x.1 < 256 ∧ x.2 < 4294967296) → s.nvs.saving = none →
     let payload := l.flatMap fun x => beBytes 1 x.1 ++ beBytes 4 x.2
     let named := l.any fun x => decide (0x32 ≤ x.1 ∧ x.1 ≤ 0x34)
     (named = true → s.bandEnforced = true →
       exec (.setSetting payload) s = .next (s.answered ⟨.protected_, []⟩)) ∧
     (¬ (named = true ∧ s.bandEnforced = true) →
       (∀ c, s.settings.setItems l = some c → c.consistent = true →
         (∀ a ∈ c.roles.list, s.isBound a = false) →
         ∃ t, exec (.setSetting payload) s = .next t ∧ t.settings = c ∧
           t.nvs = { s.nvs with unsaved := true } ∧ t.hau = s.hau ∧ t.store.settings = s.store.settings ∧
           t.store.offtakes = s.store.offtakes ∧ t.cl.response = ⟨.ok, []⟩ ∧ t.flc = s.flc ∧
           (∀ src, t.source src = if c.roles.gas.get src = (s.source src).address
             then { s.source src with availability := (t.source src).availability }
             else ⟨c.roles.gas.get src, .noReading, 0, 0, 0⟩) ∧
           t.TakesOver s c) ∧
       ((s.settings.setItems l = none ∨ ∃ c, s.settings.setItems l = some c ∧
           (c.consistent = false ∨ ∃ a ∈ c.roles.list, s.isBound a = true)) →
         exec (.setSetting payload) s = .next (s.answered ⟨.badValue, []⟩)))) ∧
  (∀ (c : Settings) (v : Nat),
     c.setItem 0x01 v = some { c with
       dispatchInterval := if v = 0 then 0 else max 10 (min 300 v) } ∧
     (∀ src,
       c.setItem (0x02 + 3 * src.index) v = some { c with
         limits := c.limits.put src { c.limits.get src with ncvMin := min 40000 v } } ∧
       c.setItem (0x03 + 3 * src.index) v = some { c with
         limits := c.limits.put src { c.limits.get src with ncvMax := min 40000 v } } ∧
       c.setItem (0x04 + 3 * src.index) v = some { c with
         limits := c.limits.put src { c.limits.get src with flowMax := min 999999 v } }) ∧
     c.setItem 0x0B v = some { c with holder := { c.holder with lLo := min 1000 v } } ∧
     c.setItem 0x0C v = some { c with holder := { c.holder with lHi := min 1000 v } } ∧
     c.setItem 0x0D v = some { c with holder := { c.holder with hyst := min 100 v } } ∧
     c.setItem 0x0E v = some { c with holder := { c.holder with dNom := min 999999 v } } ∧
     c.setItem 0x0F v = some { c with holder := { c.holder with dMax := min 999999 v } } ∧
     c.setItem 0x10 v = some { c with holder := { c.holder with tripLow := min 1000 v } } ∧
     c.setItem 0x11 v = some { c with holder := { c.holder with tripHigh := min 1000 v } } ∧
     c.setItem 0x21 v = some { c with retryTime := max 1 (min 600 v) } ∧
     c.setItem 0x22 v = some { c with roles := { c.roles with
       gas := { c.roles.gas with cvg := min 127 v } } } ∧
     c.setItem 0x23 v = some { c with roles := { c.roles with
       gas := { c.roles.gas with bfg := min 127 v } } } ∧
     c.setItem 0x24 v = some { c with roles := { c.roles with
       gas := { c.roles.gas with cog := min 127 v } } } ∧
     c.setItem 0x25 v = some { c with roles := { c.roles with holder := min 127 v } } ∧
     c.setItem 0x26 v = some { c with roles := { c.roles with export_ := min 127 v } } ∧
     c.setItem 0x27 v = some { c with replyTimeout := max 5 (min 200 v) } ∧
     c.setItem 0x28 v = some { c with staleThreshold := max 1 (min 15 v) } ∧
     c.setItem 0x29 v = none ∧
     (c.setItem 0x2A v = if v ∈ [900, 1800, 3600] then some { c with periodLength := v } else none) ∧
     c.setItem 0x2B v = some { c with tolerance := min 200 v } ∧
     c.setItem 0x2C v = some { c with boostStep := min 100000 v } ∧
     c.setItem 0x2D v = some { c with boostMax := min 500000 v } ∧
     c.setItem 0x2E v = some { c with exportLimit := min 2000000 v } ∧
     c.setItem 0x2F v = some { c with stationLoad := min 200000 v } ∧
     c.setItem 0x30 v = some { c with linkTimeout := min 600 v } ∧
     c.setItem 0x31 v = some { c with alertMask := BitVec.ofNat 12 v } ∧
     (c.setItem 0x32 v = if v = 0 then some { c with bandSide := .low }
       else if v = 1 then some { c with bandSide := .high } else none) ∧
     (c.setItem 0x33 v = if v ∈ [0, 4, 8, 16, 32, 48] then some { c with bandSize := v } else none) ∧
     (c.setItem 0x34 v = if v = 0 then some { c with lockMode := .none }
       else if v = 1 then some { c with lockMode := .line } else none) ∧
     (∀ code, (code = 0 ∨ 0x34 < code) → c.setItem code v = none) ∧
     (∀ m : Monitor, 3 < v → c.setItem (0x12 + m.index.val) v = none) ∧
     (∀ (m : Monitor) (mode : FaultMode), ∃ d,
       c.setItem (0x12 + m.index.val) (match mode with
         | .off => 0
         | .report => 1
         | .latch => 2
         | .retry => 3) = some d ∧
       d = { c with modes := d.modes } ∧ (∀ k, k ≠ m → d.mode k = c.mode k) ∧
       d.mode m = (if m = .levelHighTrip ∧ (mode = .latch ∨ mode = .retry) then .report
         else mode))) ∧
  (∀ c : Settings, c.consistent = true ↔
     ((c.holder.lLo : Int) + c.holder.hyst ≤ (c.holder.lHi : Int) - c.holder.hyst ∧
      c.holder.dNom ≤ c.holder.dMax ∧
      (∀ src, (c.limits.get src).ncvMin ≤ (c.limits.get src).ncvMax) ∧
      (c.roles.list.filter fun a => a != 0).Nodup))

/-- SAVE SETTINGS takes the live settings, makes the stored record INVALID and begins the write; its
completion stores them, clears the unsaved mark and the condition, and polling begins if it stood
stopped; CLEAR SETTINGS FAULT clears the condition alone (R112, R168, R170). RESTORE SETTINGS brings the
stored settings, but for role addresses now bound, which come as 0, and for the band while it is
enforced; the unsaved mark is left set only when a live setting differs from its stored value; an
INVALID record is refused (R40, R169). Every owner takes the change as at a SET SETTING (R7, R14, R50, R64,
R81, R85, R87, R139, R143, R151), and stations that another poll list delists are STALE at that event; the
list discards the staged one and restarts the walk, and one equal to the live list does neither (R109,
R110). The orders that no rule gives are assumption log 18, 19, 22 and 34. -/
def Obligations.SettingsAreSavedAndRestored : Prop :=
  (∀ s : State,
     (s.Serving → s.nvs.saving = none → exec (.saveSettings []) s = .next { s with
       cl := s.linkAfter ⟨.ok, []⟩
       nvs := { s.nvs with saving := some s.settings }
       store := { s.store with settings := { s.store.settings with good := false } } }) ∧
     (s.Serving → s.nvs.saving.isSome = true →
       exec (.saveSettings []) s = .next (s.answered ⟨.busy, []⟩)) ∧
     (∀ c, s.nvs.saving = some c → exec .saveCompletion s = .next { s with
       nvs := ⟨false, none, false⟩
       store := { s.store with settings := ⟨c, true⟩ }
       flc := s.beginPolling.flc }) ∧
     (s.Serving → exec (.clearSettingsFault []) s = .next (if s.nvs.settingsFault = true
       then { s with
         cl := s.linkAfter ⟨.ok, []⟩
         nvs := { s.nvs with settingsFault := false }
         flc := s.beginPolling.flc }
       else s.answered ⟨.ok, []⟩)) ∧
     s.beginPolling.flc = (if s.flc.polling ≠ .stopped then s.flc
       else if s.settings.pollList = [] then { s.flc with
         polling := .empty, position := 0, phase := none, replyTimer := none, gapTimer := none }
       else { s.flc with
         polling := .running, position := 0, phase := some .query
         queried := (s.settings.pollList[0]?).getD 0, replyTimer := none, gapTimer := none })) ∧
  (∀ s : State, s.Serving → s.nvs.saving = none →
     (s.store.settings.good = false →
       exec (.restoreSettings []) s = .next (s.answered ⟨.settingsFault, []⟩)) ∧
     (s.store.settings.good = true → ∃ t, exec (.restoreSettings []) s = .next t ∧
       t.cl.response = ⟨.ok, []⟩ ∧
       t.nvs = { s.nvs with unsaved := decide (t.settings ≠ s.store.settings.value) } ∧
       t.settings = { s.store.settings.value with
         roles := t.settings.roles, bandSide := t.settings.bandSide
         bandSize := t.settings.bandSize, lockMode := t.settings.lockMode } ∧
       (s.bandEnforced = true → t.settings.bandSide = s.settings.bandSide ∧
         t.settings.bandSize = s.settings.bandSize ∧ t.settings.lockMode = s.settings.lockMode) ∧
       (s.bandEnforced = false → t.settings.bandSide = s.store.settings.value.bandSide ∧
         t.settings.bandSize = s.store.settings.value.bandSize ∧
         t.settings.lockMode = s.store.settings.value.lockMode) ∧
       t.settings.roles.list = s.store.settings.value.roles.list.map
         (fun a => if s.isBound a = true then 0 else a) ∧
       t.store.settings = s.store.settings ∧
       (∀ i, ∀ e ∈ s.entry i, ∃ f, t.entry i = some f ∧ e.sameTerms f ∧ f.state = e.state) ∧
       t.TakesOver s t.settings ∧
       (∀ a, t.station a = if s.drops t.settings a = true then { s.station a with state := .stale }
         else s.station a) ∧
       (t.settings.pollList = s.settings.pollList → t.flc = s.flc) ∧
       (t.settings.pollList ≠ s.settings.pollList →
         let list := t.settings.pollList
         let u := { s.flc with staged := none, stations := t.flc.stations }
         t.flc = match s.flc.polling with
           | .stopped => u
           | .empty => if list = [] then { u with
               position := 0, phase := none, replyTimer := none, gapTimer := none }
             else { u with
               polling := .running, position := 0, phase := some .query
               queried := (list[0]?).getD 0, replyTimer := none, gapTimer := none }
           | .running => if s.flc.phase = some .gap then { u with position := list.length - 1 }
             else { u with replacementWaiting := true })))
end

