-- ==== Sys2Proof/Laws/Bytes.lean ====
section
/-! SUPPORT. Integers in bytes, payloads of fixed form, and the bytes of a frame. -/

namespace Sys2Proof.Machine

@[simp] theorem length_beBytes (w n : Nat) : (beBytes w n).length = w := by
  induction w with
  | zero => rfl
  | succ w ih => simp [beBytes, ih]

theorem foldl_bytes (p : List Byte) (k : Nat) :
    p.foldl (fun n b => n * 256 + b.toNat) k = k * 256 ^ p.length + beNat p := by
  induction p generalizing k with
  | nil => simp [beNat]
  | cons b p ih =>
    simp only [List.foldl_cons, List.length_cons, beNat]
    rw [ih, ih (0 * 256 + b.toNat)]
    ring

theorem beNat_cons (b : Byte) (p : List Byte) :
    beNat (b :: p) = b.toNat * 256 ^ p.length + beNat p := by
  simp only [beNat, List.foldl_cons]
  rw [foldl_bytes]
  simp [beNat]

/-- `w` bytes hold a number modulo 256^w (R174). -/
theorem beNat_beBytes (w n : Nat) : beNat (beBytes w n) = n % 256 ^ w := by
  induction w with
  | zero => simp [beBytes, beNat, Nat.mod_one]
  | succ w ih =>
    rw [beBytes, beNat_cons, ih, length_beBytes, BitVec.toNat_ofNat]
    have h := Nat.mod_mul (x := n) (a := 256 ^ w) (b := 256)
    rw [← Nat.pow_succ] at h
    rw [h, Nat.mul_comm, Nat.add_comm]

theorem beNat_beBytes_of_lt {w n : Nat} (h : n < 256 ^ w) : beNat (beBytes w n) = n := by
  rw [beNat_beBytes, Nat.mod_eq_of_lt h]

/-- Every run of bytes is the bytes of its number. -/
theorem beBytes_beNat (p : List Byte) : beBytes p.length (beNat p) = p := by
  induction p with
  | nil => rfl
  | cons b p ih =>
    have hlt : beNat p < 256 ^ p.length := by
      rw [← ih, beNat_beBytes]; simp only [length_beBytes]; exact Nat.mod_lt _ (by positivity)
    have hmod : ∀ w n k, k % 256 ^ w = n % 256 ^ w → beBytes w k = beBytes w n := by
      intro w
      induction w with
      | zero => intros; rfl
      | succ w ihw =>
        intro n k h
        simp only [beBytes]
        have h2 : k % 256 ^ w = n % 256 ^ w := by
          have := congrArg (· % 256 ^ w) h
          simpa [Nat.pow_succ, Nat.mod_mul_right_mod] using this
        have h1 : k / 256 ^ w % 256 = n / 256 ^ w % 256 := by
          have := congrArg (· / 256 ^ w) h
          simpa [Nat.pow_succ, Nat.mod_mul_right_div_self] using this
        rw [ihw n k h2]
        congr 1
        exact BitVec.eq_of_toNat_eq (by simpa using h1)
    rw [beNat_cons, List.length_cons, beBytes]
    congr 1
    · rw [Nat.add_comm, Nat.add_mul_div_right _ _ (by positivity), Nat.div_eq_of_lt hlt]
      simp
    · rw [hmod p.length (beNat p) _ (by simp), ih]

/-- A form laid out and read back: each field modulo what its bytes hold. -/
theorem splitFields_join (w n : Nat) (ws : List Nat) (rest : List Byte) :
    splitFields (w :: ws) (beBytes w n ++ rest) =
      (splitFields ws rest).map ((n % 256 ^ w) :: ·) := by
  simp [splitFields, beNat_beBytes]

theorem splitFields_joinFields (ws ns : List Nat) (h : ws.length = ns.length) :
    splitFields ws (joinFields ws ns) =
      some (List.zipWith (fun w n => n % 256 ^ w) ws ns) := by
  induction ws generalizing ns with
  | nil => cases ns with
    | nil => rfl
    | cons n ns => simp at h
  | cons w ws ih => cases ns with
    | nil => simp at h
    | cons n ns =>
      rw [joinFields, splitFields_join, ih ns (by simpa using h)]
      rfl

/-- The length of a payload decides whether it has a form. -/
theorem splitFields_isSome (ws : List Nat) (p : List Byte) :
    (splitFields ws p).isSome = true ↔ p.length = ws.sum := by
  induction ws generalizing p with
  | nil => cases p <;> simp [splitFields]
  | cons w ws ih =>
    rw [splitFields]
    split
    · simp; omega
    · simp [ih]; omega

end Sys2Proof.Machine

namespace Sys2Proof

@[simp] theorem length_frameBytes (code : Byte) (p : List Byte) :
    (frameBytes code p).length = p.length + 3 := by simp [frameBytes, frameBody]

/-- Exclusive-or of the bytes of two runs one after the other. -/
theorem xorOf_append (p q : List Byte) : xorOf (p ++ q) = q.foldl (· ^^^ ·) (xorOf p) := by
  simp [xorOf, List.foldl_append]

/-- A good frame closes its own check: with its check byte, its exclusive-or is 0 (R159). -/
theorem xorOf_frameBytes (code : Byte) (p : List Byte) : xorOf (frameBytes code p) = 0 := by
  simp [frameBytes, xorOf_append]

/-- A length byte holds a length of up to 60. -/
theorem toNat_lengthByte {p : List Byte} (h : p.length ≤ maxPayload) :
    (BitVec.ofNat 8 p.length).toNat = p.length := by
  simp [maxPayload] at h ⊢; omega

end Sys2Proof
end

