-- ==== Sys2Proof/Laws/State.lean ====
section
/-! SUPPORT. What each plain update of the state leaves as it was: one lemma for each field, true by
unfolding the update, so that no proof unfolds a record update again. -/

namespace Sys2Proof.Machine

@[simp] theorem State.raise_pending (s : State) (f : AlertFlag) : (s.raise f).pending = s.pending := rfl
@[simp] theorem State.raise_now (s : State) (f : AlertFlag) : (s.raise f).now = s.now := rfl
@[simp] theorem State.raise_picks (s : State) (f : AlertFlag) : (s.raise f).picks = s.picks := rfl
@[simp] theorem State.raise_startingUp (s : State) (f : AlertFlag) : (s.raise f).startingUp = s.startingUp := rfl
@[simp] theorem State.raise_lockLine (s : State) (f : AlertFlag) : (s.raise f).lockLine = s.lockLine := rfl
@[simp] theorem State.raise_settings (s : State) (f : AlertFlag) : (s.raise f).settings = s.settings := rfl
@[simp] theorem State.raise_sm (s : State) (f : AlertFlag) : (s.raise f).sm = s.sm := rfl
@[simp] theorem State.raise_ot (s : State) (f : AlertFlag) : (s.raise f).ot = s.ot := rfl
@[simp] theorem State.raise_ae (s : State) (f : AlertFlag) : (s.raise f).ae = s.ae := rfl
@[simp] theorem State.raise_flc (s : State) (f : AlertFlag) : (s.raise f).flc = s.flc := rfl
@[simp] theorem State.raise_hau (s : State) (f : AlertFlag) : (s.raise f).hau = s.hau := rfl
@[simp] theorem State.raise_esu (s : State) (f : AlertFlag) : (s.raise f).esu = s.esu := rfl
@[simp] theorem State.raise_cl (s : State) (f : AlertFlag) : (s.raise f).cl = s.cl := rfl
@[simp] theorem State.raise_nvs (s : State) (f : AlertFlag) : (s.raise f).nvs = s.nvs := rfl
@[simp] theorem State.raise_store (s : State) (f : AlertFlag) : (s.raise f).store = s.store := rfl

@[simp] theorem State.setEntry_pending (s : State) (i : Fin 48) (e : Option Offtake) : (s.setEntry i e).pending = s.pending := rfl
@[simp] theorem State.setEntry_now (s : State) (i : Fin 48) (e : Option Offtake) : (s.setEntry i e).now = s.now := rfl
@[simp] theorem State.setEntry_picks (s : State) (i : Fin 48) (e : Option Offtake) : (s.setEntry i e).picks = s.picks := rfl
@[simp] theorem State.setEntry_startingUp (s : State) (i : Fin 48) (e : Option Offtake) : (s.setEntry i e).startingUp = s.startingUp := rfl
@[simp] theorem State.setEntry_lockLine (s : State) (i : Fin 48) (e : Option Offtake) : (s.setEntry i e).lockLine = s.lockLine := rfl
@[simp] theorem State.setEntry_settings (s : State) (i : Fin 48) (e : Option Offtake) : (s.setEntry i e).settings = s.settings := rfl
@[simp] theorem State.setEntry_sm (s : State) (i : Fin 48) (e : Option Offtake) : (s.setEntry i e).sm = s.sm := rfl
@[simp] theorem State.setEntry_ae (s : State) (i : Fin 48) (e : Option Offtake) : (s.setEntry i e).ae = s.ae := rfl
@[simp] theorem State.setEntry_fs (s : State) (i : Fin 48) (e : Option Offtake) : (s.setEntry i e).fs = s.fs := rfl
@[simp] theorem State.setEntry_flc (s : State) (i : Fin 48) (e : Option Offtake) : (s.setEntry i e).flc = s.flc := rfl
@[simp] theorem State.setEntry_hau (s : State) (i : Fin 48) (e : Option Offtake) : (s.setEntry i e).hau = s.hau := rfl
@[simp] theorem State.setEntry_esu (s : State) (i : Fin 48) (e : Option Offtake) : (s.setEntry i e).esu = s.esu := rfl
@[simp] theorem State.setEntry_cl (s : State) (i : Fin 48) (e : Option Offtake) : (s.setEntry i e).cl = s.cl := rfl
@[simp] theorem State.setEntry_nvs (s : State) (i : Fin 48) (e : Option Offtake) : (s.setEntry i e).nvs = s.nvs := rfl
@[simp] theorem State.setEntry_store (s : State) (i : Fin 48) (e : Option Offtake) : (s.setEntry i e).store = s.store := rfl

@[simp] theorem State.writeEntry_pending (s : State) (i : Fin 48) (e : Option Offtake) : (s.writeEntry i e).pending = s.pending := rfl
@[simp] theorem State.writeEntry_now (s : State) (i : Fin 48) (e : Option Offtake) : (s.writeEntry i e).now = s.now := rfl
@[simp] theorem State.writeEntry_picks (s : State) (i : Fin 48) (e : Option Offtake) : (s.writeEntry i e).picks = s.picks := rfl
@[simp] theorem State.writeEntry_startingUp (s : State) (i : Fin 48) (e : Option Offtake) : (s.writeEntry i e).startingUp = s.startingUp := rfl
@[simp] theorem State.writeEntry_lockLine (s : State) (i : Fin 48) (e : Option Offtake) : (s.writeEntry i e).lockLine = s.lockLine := rfl
@[simp] theorem State.writeEntry_settings (s : State) (i : Fin 48) (e : Option Offtake) : (s.writeEntry i e).settings = s.settings := rfl
@[simp] theorem State.writeEntry_sm (s : State) (i : Fin 48) (e : Option Offtake) : (s.writeEntry i e).sm = s.sm := rfl
@[simp] theorem State.writeEntry_ae (s : State) (i : Fin 48) (e : Option Offtake) : (s.writeEntry i e).ae = s.ae := rfl
@[simp] theorem State.writeEntry_fs (s : State) (i : Fin 48) (e : Option Offtake) : (s.writeEntry i e).fs = s.fs := rfl
@[simp] theorem State.writeEntry_flc (s : State) (i : Fin 48) (e : Option Offtake) : (s.writeEntry i e).flc = s.flc := rfl
@[simp] theorem State.writeEntry_hau (s : State) (i : Fin 48) (e : Option Offtake) : (s.writeEntry i e).hau = s.hau := rfl
@[simp] theorem State.writeEntry_esu (s : State) (i : Fin 48) (e : Option Offtake) : (s.writeEntry i e).esu = s.esu := rfl
@[simp] theorem State.writeEntry_cl (s : State) (i : Fin 48) (e : Option Offtake) : (s.writeEntry i e).cl = s.cl := rfl
@[simp] theorem State.writeEntry_nvs (s : State) (i : Fin 48) (e : Option Offtake) : (s.writeEntry i e).nvs = s.nvs := rfl

@[simp] theorem State.writeCounter_pending (s : State) (n : Nat) : (s.writeCounter n).pending = s.pending := rfl
@[simp] theorem State.writeCounter_now (s : State) (n : Nat) : (s.writeCounter n).now = s.now := rfl
@[simp] theorem State.writeCounter_picks (s : State) (n : Nat) : (s.writeCounter n).picks = s.picks := rfl
@[simp] theorem State.writeCounter_startingUp (s : State) (n : Nat) : (s.writeCounter n).startingUp = s.startingUp := rfl
@[simp] theorem State.writeCounter_lockLine (s : State) (n : Nat) : (s.writeCounter n).lockLine = s.lockLine := rfl
@[simp] theorem State.writeCounter_settings (s : State) (n : Nat) : (s.writeCounter n).settings = s.settings := rfl
@[simp] theorem State.writeCounter_sm (s : State) (n : Nat) : (s.writeCounter n).sm = s.sm := rfl
@[simp] theorem State.writeCounter_ae (s : State) (n : Nat) : (s.writeCounter n).ae = s.ae := rfl
@[simp] theorem State.writeCounter_fs (s : State) (n : Nat) : (s.writeCounter n).fs = s.fs := rfl
@[simp] theorem State.writeCounter_flc (s : State) (n : Nat) : (s.writeCounter n).flc = s.flc := rfl
@[simp] theorem State.writeCounter_hau (s : State) (n : Nat) : (s.writeCounter n).hau = s.hau := rfl
@[simp] theorem State.writeCounter_esu (s : State) (n : Nat) : (s.writeCounter n).esu = s.esu := rfl
@[simp] theorem State.writeCounter_cl (s : State) (n : Nat) : (s.writeCounter n).cl = s.cl := rfl
@[simp] theorem State.writeCounter_nvs (s : State) (n : Nat) : (s.writeCounter n).nvs = s.nvs := rfl

@[simp] theorem State.setAccount_pending (s : State) (i : Fin 64) (a : Option Account) : (s.setAccount i a).pending = s.pending := rfl
@[simp] theorem State.setAccount_now (s : State) (i : Fin 64) (a : Option Account) : (s.setAccount i a).now = s.now := rfl
@[simp] theorem State.setAccount_picks (s : State) (i : Fin 64) (a : Option Account) : (s.setAccount i a).picks = s.picks := rfl
@[simp] theorem State.setAccount_startingUp (s : State) (i : Fin 64) (a : Option Account) : (s.setAccount i a).startingUp = s.startingUp := rfl
@[simp] theorem State.setAccount_lockLine (s : State) (i : Fin 64) (a : Option Account) : (s.setAccount i a).lockLine = s.lockLine := rfl
@[simp] theorem State.setAccount_settings (s : State) (i : Fin 64) (a : Option Account) : (s.setAccount i a).settings = s.settings := rfl
@[simp] theorem State.setAccount_sm (s : State) (i : Fin 64) (a : Option Account) : (s.setAccount i a).sm = s.sm := rfl
@[simp] theorem State.setAccount_ot (s : State) (i : Fin 64) (a : Option Account) : (s.setAccount i a).ot = s.ot := rfl
@[simp] theorem State.setAccount_ae (s : State) (i : Fin 64) (a : Option Account) : (s.setAccount i a).ae = s.ae := rfl
@[simp] theorem State.setAccount_fs (s : State) (i : Fin 64) (a : Option Account) : (s.setAccount i a).fs = s.fs := rfl
@[simp] theorem State.setAccount_flc (s : State) (i : Fin 64) (a : Option Account) : (s.setAccount i a).flc = s.flc := rfl
@[simp] theorem State.setAccount_esu (s : State) (i : Fin 64) (a : Option Account) : (s.setAccount i a).esu = s.esu := rfl
@[simp] theorem State.setAccount_cl (s : State) (i : Fin 64) (a : Option Account) : (s.setAccount i a).cl = s.cl := rfl
@[simp] theorem State.setAccount_nvs (s : State) (i : Fin 64) (a : Option Account) : (s.setAccount i a).nvs = s.nvs := rfl
@[simp] theorem State.setAccount_store (s : State) (i : Fin 64) (a : Option Account) : (s.setAccount i a).store = s.store := rfl

@[simp] theorem State.writeAccount_pending (s : State) (i : Fin 64) (a : Option Account) : (s.writeAccount i a).pending = s.pending := rfl
@[simp] theorem State.writeAccount_now (s : State) (i : Fin 64) (a : Option Account) : (s.writeAccount i a).now = s.now := rfl
@[simp] theorem State.writeAccount_picks (s : State) (i : Fin 64) (a : Option Account) : (s.writeAccount i a).picks = s.picks := rfl
@[simp] theorem State.writeAccount_startingUp (s : State) (i : Fin 64) (a : Option Account) : (s.writeAccount i a).startingUp = s.startingUp := rfl
@[simp] theorem State.writeAccount_lockLine (s : State) (i : Fin 64) (a : Option Account) : (s.writeAccount i a).lockLine = s.lockLine := rfl
@[simp] theorem State.writeAccount_settings (s : State) (i : Fin 64) (a : Option Account) : (s.writeAccount i a).settings = s.settings := rfl
@[simp] theorem State.writeAccount_sm (s : State) (i : Fin 64) (a : Option Account) : (s.writeAccount i a).sm = s.sm := rfl
@[simp] theorem State.writeAccount_ot (s : State) (i : Fin 64) (a : Option Account) : (s.writeAccount i a).ot = s.ot := rfl
@[simp] theorem State.writeAccount_ae (s : State) (i : Fin 64) (a : Option Account) : (s.writeAccount i a).ae = s.ae := rfl
@[simp] theorem State.writeAccount_fs (s : State) (i : Fin 64) (a : Option Account) : (s.writeAccount i a).fs = s.fs := rfl
@[simp] theorem State.writeAccount_flc (s : State) (i : Fin 64) (a : Option Account) : (s.writeAccount i a).flc = s.flc := rfl
@[simp] theorem State.writeAccount_esu (s : State) (i : Fin 64) (a : Option Account) : (s.writeAccount i a).esu = s.esu := rfl
@[simp] theorem State.writeAccount_cl (s : State) (i : Fin 64) (a : Option Account) : (s.writeAccount i a).cl = s.cl := rfl
@[simp] theorem State.writeAccount_nvs (s : State) (i : Fin 64) (a : Option Account) : (s.writeAccount i a).nvs = s.nvs := rfl

@[simp] theorem State.setMonitor_pending (s : State) (m : Monitor) (r : MonitorRecord) : (s.setMonitor m r).pending = s.pending := rfl
@[simp] theorem State.setMonitor_now (s : State) (m : Monitor) (r : MonitorRecord) : (s.setMonitor m r).now = s.now := rfl
@[simp] theorem State.setMonitor_picks (s : State) (m : Monitor) (r : MonitorRecord) : (s.setMonitor m r).picks = s.picks := rfl
@[simp] theorem State.setMonitor_startingUp (s : State) (m : Monitor) (r : MonitorRecord) : (s.setMonitor m r).startingUp = s.startingUp := rfl
@[simp] theorem State.setMonitor_lockLine (s : State) (m : Monitor) (r : MonitorRecord) : (s.setMonitor m r).lockLine = s.lockLine := rfl
@[simp] theorem State.setMonitor_settings (s : State) (m : Monitor) (r : MonitorRecord) : (s.setMonitor m r).settings = s.settings := rfl
@[simp] theorem State.setMonitor_sm (s : State) (m : Monitor) (r : MonitorRecord) : (s.setMonitor m r).sm = s.sm := rfl
@[simp] theorem State.setMonitor_ot (s : State) (m : Monitor) (r : MonitorRecord) : (s.setMonitor m r).ot = s.ot := rfl
@[simp] theorem State.setMonitor_ae (s : State) (m : Monitor) (r : MonitorRecord) : (s.setMonitor m r).ae = s.ae := rfl
@[simp] theorem State.setMonitor_flc (s : State) (m : Monitor) (r : MonitorRecord) : (s.setMonitor m r).flc = s.flc := rfl
@[simp] theorem State.setMonitor_hau (s : State) (m : Monitor) (r : MonitorRecord) : (s.setMonitor m r).hau = s.hau := rfl
@[simp] theorem State.setMonitor_esu (s : State) (m : Monitor) (r : MonitorRecord) : (s.setMonitor m r).esu = s.esu := rfl
@[simp] theorem State.setMonitor_cl (s : State) (m : Monitor) (r : MonitorRecord) : (s.setMonitor m r).cl = s.cl := rfl
@[simp] theorem State.setMonitor_nvs (s : State) (m : Monitor) (r : MonitorRecord) : (s.setMonitor m r).nvs = s.nvs := rfl
@[simp] theorem State.setMonitor_store (s : State) (m : Monitor) (r : MonitorRecord) : (s.setMonitor m r).store = s.store := rfl

@[simp] theorem State.setAdmission_pending (s : State) (src : Source) (a : Admission) : (s.setAdmission src a).pending = s.pending := rfl
@[simp] theorem State.setAdmission_now (s : State) (src : Source) (a : Admission) : (s.setAdmission src a).now = s.now := rfl
@[simp] theorem State.setAdmission_picks (s : State) (src : Source) (a : Admission) : (s.setAdmission src a).picks = s.picks := rfl
@[simp] theorem State.setAdmission_startingUp (s : State) (src : Source) (a : Admission) : (s.setAdmission src a).startingUp = s.startingUp := rfl
@[simp] theorem State.setAdmission_lockLine (s : State) (src : Source) (a : Admission) : (s.setAdmission src a).lockLine = s.lockLine := rfl
@[simp] theorem State.setAdmission_settings (s : State) (src : Source) (a : Admission) : (s.setAdmission src a).settings = s.settings := rfl
@[simp] theorem State.setAdmission_sm (s : State) (src : Source) (a : Admission) : (s.setAdmission src a).sm = s.sm := rfl
@[simp] theorem State.setAdmission_ot (s : State) (src : Source) (a : Admission) : (s.setAdmission src a).ot = s.ot := rfl
@[simp] theorem State.setAdmission_ae (s : State) (src : Source) (a : Admission) : (s.setAdmission src a).ae = s.ae := rfl
@[simp] theorem State.setAdmission_flc (s : State) (src : Source) (a : Admission) : (s.setAdmission src a).flc = s.flc := rfl
@[simp] theorem State.setAdmission_hau (s : State) (src : Source) (a : Admission) : (s.setAdmission src a).hau = s.hau := rfl
@[simp] theorem State.setAdmission_esu (s : State) (src : Source) (a : Admission) : (s.setAdmission src a).esu = s.esu := rfl
@[simp] theorem State.setAdmission_cl (s : State) (src : Source) (a : Admission) : (s.setAdmission src a).cl = s.cl := rfl
@[simp] theorem State.setAdmission_nvs (s : State) (src : Source) (a : Admission) : (s.setAdmission src a).nvs = s.nvs := rfl
@[simp] theorem State.setAdmission_store (s : State) (src : Source) (a : Admission) : (s.setAdmission src a).store = s.store := rfl

@[simp] theorem State.setSource_pending (s : State) (src : Source) (r : SourceRecord) : (s.setSource src r).pending = s.pending := rfl
@[simp] theorem State.setSource_now (s : State) (src : Source) (r : SourceRecord) : (s.setSource src r).now = s.now := rfl
@[simp] theorem State.setSource_picks (s : State) (src : Source) (r : SourceRecord) : (s.setSource src r).picks = s.picks := rfl
@[simp] theorem State.setSource_startingUp (s : State) (src : Source) (r : SourceRecord) : (s.setSource src r).startingUp = s.startingUp := rfl
@[simp] theorem State.setSource_lockLine (s : State) (src : Source) (r : SourceRecord) : (s.setSource src r).lockLine = s.lockLine := rfl
@[simp] theorem State.setSource_settings (s : State) (src : Source) (r : SourceRecord) : (s.setSource src r).settings = s.settings := rfl
@[simp] theorem State.setSource_ot (s : State) (src : Source) (r : SourceRecord) : (s.setSource src r).ot = s.ot := rfl
@[simp] theorem State.setSource_ae (s : State) (src : Source) (r : SourceRecord) : (s.setSource src r).ae = s.ae := rfl
@[simp] theorem State.setSource_fs (s : State) (src : Source) (r : SourceRecord) : (s.setSource src r).fs = s.fs := rfl
@[simp] theorem State.setSource_flc (s : State) (src : Source) (r : SourceRecord) : (s.setSource src r).flc = s.flc := rfl
@[simp] theorem State.setSource_hau (s : State) (src : Source) (r : SourceRecord) : (s.setSource src r).hau = s.hau := rfl
@[simp] theorem State.setSource_esu (s : State) (src : Source) (r : SourceRecord) : (s.setSource src r).esu = s.esu := rfl
@[simp] theorem State.setSource_cl (s : State) (src : Source) (r : SourceRecord) : (s.setSource src r).cl = s.cl := rfl
@[simp] theorem State.setSource_nvs (s : State) (src : Source) (r : SourceRecord) : (s.setSource src r).nvs = s.nvs := rfl
@[simp] theorem State.setSource_store (s : State) (src : Source) (r : SourceRecord) : (s.setSource src r).store = s.store := rfl

@[simp] theorem State.setHolder_pending (s : State) (h : HolderRecord) : (s.setHolder h).pending = s.pending := rfl
@[simp] theorem State.setHolder_now (s : State) (h : HolderRecord) : (s.setHolder h).now = s.now := rfl
@[simp] theorem State.setHolder_picks (s : State) (h : HolderRecord) : (s.setHolder h).picks = s.picks := rfl
@[simp] theorem State.setHolder_startingUp (s : State) (h : HolderRecord) : (s.setHolder h).startingUp = s.startingUp := rfl
@[simp] theorem State.setHolder_lockLine (s : State) (h : HolderRecord) : (s.setHolder h).lockLine = s.lockLine := rfl
@[simp] theorem State.setHolder_settings (s : State) (h : HolderRecord) : (s.setHolder h).settings = s.settings := rfl
@[simp] theorem State.setHolder_ot (s : State) (h : HolderRecord) : (s.setHolder h).ot = s.ot := rfl
@[simp] theorem State.setHolder_ae (s : State) (h : HolderRecord) : (s.setHolder h).ae = s.ae := rfl
@[simp] theorem State.setHolder_fs (s : State) (h : HolderRecord) : (s.setHolder h).fs = s.fs := rfl
@[simp] theorem State.setHolder_flc (s : State) (h : HolderRecord) : (s.setHolder h).flc = s.flc := rfl
@[simp] theorem State.setHolder_hau (s : State) (h : HolderRecord) : (s.setHolder h).hau = s.hau := rfl
@[simp] theorem State.setHolder_esu (s : State) (h : HolderRecord) : (s.setHolder h).esu = s.esu := rfl
@[simp] theorem State.setHolder_cl (s : State) (h : HolderRecord) : (s.setHolder h).cl = s.cl := rfl
@[simp] theorem State.setHolder_nvs (s : State) (h : HolderRecord) : (s.setHolder h).nvs = s.nvs := rfl
@[simp] theorem State.setHolder_store (s : State) (h : HolderRecord) : (s.setHolder h).store = s.store := rfl

@[simp] theorem State.takeGas_pending (s : State) (src : Source) (flow ncv : Nat) : (s.takeGas src flow ncv).pending = s.pending := rfl
@[simp] theorem State.takeGas_now (s : State) (src : Source) (flow ncv : Nat) : (s.takeGas src flow ncv).now = s.now := rfl
@[simp] theorem State.takeGas_picks (s : State) (src : Source) (flow ncv : Nat) : (s.takeGas src flow ncv).picks = s.picks := rfl
@[simp] theorem State.takeGas_startingUp (s : State) (src : Source) (flow ncv : Nat) : (s.takeGas src flow ncv).startingUp = s.startingUp := rfl
@[simp] theorem State.takeGas_lockLine (s : State) (src : Source) (flow ncv : Nat) : (s.takeGas src flow ncv).lockLine = s.lockLine := rfl
@[simp] theorem State.takeGas_settings (s : State) (src : Source) (flow ncv : Nat) : (s.takeGas src flow ncv).settings = s.settings := rfl
@[simp] theorem State.takeGas_ot (s : State) (src : Source) (flow ncv : Nat) : (s.takeGas src flow ncv).ot = s.ot := rfl
@[simp] theorem State.takeGas_ae (s : State) (src : Source) (flow ncv : Nat) : (s.takeGas src flow ncv).ae = s.ae := rfl
@[simp] theorem State.takeGas_fs (s : State) (src : Source) (flow ncv : Nat) : (s.takeGas src flow ncv).fs = s.fs := rfl
@[simp] theorem State.takeGas_flc (s : State) (src : Source) (flow ncv : Nat) : (s.takeGas src flow ncv).flc = s.flc := rfl
@[simp] theorem State.takeGas_hau (s : State) (src : Source) (flow ncv : Nat) : (s.takeGas src flow ncv).hau = s.hau := rfl
@[simp] theorem State.takeGas_esu (s : State) (src : Source) (flow ncv : Nat) : (s.takeGas src flow ncv).esu = s.esu := rfl
@[simp] theorem State.takeGas_cl (s : State) (src : Source) (flow ncv : Nat) : (s.takeGas src flow ncv).cl = s.cl := rfl
@[simp] theorem State.takeGas_nvs (s : State) (src : Source) (flow ncv : Nat) : (s.takeGas src flow ncv).nvs = s.nvs := rfl
@[simp] theorem State.takeGas_store (s : State) (src : Source) (flow ncv : Nat) : (s.takeGas src flow ncv).store = s.store := rfl

@[simp] theorem State.recomputeCvg_pending (s : State) : (s.recomputeCvg).pending = s.pending := rfl
@[simp] theorem State.recomputeCvg_now (s : State) : (s.recomputeCvg).now = s.now := rfl
@[simp] theorem State.recomputeCvg_picks (s : State) : (s.recomputeCvg).picks = s.picks := rfl
@[simp] theorem State.recomputeCvg_startingUp (s : State) : (s.recomputeCvg).startingUp = s.startingUp := rfl
@[simp] theorem State.recomputeCvg_lockLine (s : State) : (s.recomputeCvg).lockLine = s.lockLine := rfl
@[simp] theorem State.recomputeCvg_settings (s : State) : (s.recomputeCvg).settings = s.settings := rfl
@[simp] theorem State.recomputeCvg_ot (s : State) : (s.recomputeCvg).ot = s.ot := rfl
@[simp] theorem State.recomputeCvg_ae (s : State) : (s.recomputeCvg).ae = s.ae := rfl
@[simp] theorem State.recomputeCvg_fs (s : State) : (s.recomputeCvg).fs = s.fs := rfl
@[simp] theorem State.recomputeCvg_flc (s : State) : (s.recomputeCvg).flc = s.flc := rfl
@[simp] theorem State.recomputeCvg_hau (s : State) : (s.recomputeCvg).hau = s.hau := rfl
@[simp] theorem State.recomputeCvg_esu (s : State) : (s.recomputeCvg).esu = s.esu := rfl
@[simp] theorem State.recomputeCvg_cl (s : State) : (s.recomputeCvg).cl = s.cl := rfl
@[simp] theorem State.recomputeCvg_nvs (s : State) : (s.recomputeCvg).nvs = s.nvs := rfl
@[simp] theorem State.recomputeCvg_store (s : State) : (s.recomputeCvg).store = s.store := rfl

@[simp] theorem State.holdSource_pending (s : State) (src : Source) : (s.holdSource src).pending = s.pending := rfl
@[simp] theorem State.holdSource_now (s : State) (src : Source) : (s.holdSource src).now = s.now := rfl
@[simp] theorem State.holdSource_picks (s : State) (src : Source) : (s.holdSource src).picks = s.picks := rfl
@[simp] theorem State.holdSource_startingUp (s : State) (src : Source) : (s.holdSource src).startingUp = s.startingUp := rfl
@[simp] theorem State.holdSource_lockLine (s : State) (src : Source) : (s.holdSource src).lockLine = s.lockLine := rfl
@[simp] theorem State.holdSource_settings (s : State) (src : Source) : (s.holdSource src).settings = s.settings := rfl
@[simp] theorem State.holdSource_ot (s : State) (src : Source) : (s.holdSource src).ot = s.ot := rfl
@[simp] theorem State.holdSource_ae (s : State) (src : Source) : (s.holdSource src).ae = s.ae := rfl
@[simp] theorem State.holdSource_fs (s : State) (src : Source) : (s.holdSource src).fs = s.fs := rfl
@[simp] theorem State.holdSource_flc (s : State) (src : Source) : (s.holdSource src).flc = s.flc := rfl
@[simp] theorem State.holdSource_hau (s : State) (src : Source) : (s.holdSource src).hau = s.hau := rfl
@[simp] theorem State.holdSource_esu (s : State) (src : Source) : (s.holdSource src).esu = s.esu := rfl
@[simp] theorem State.holdSource_cl (s : State) (src : Source) : (s.holdSource src).cl = s.cl := rfl
@[simp] theorem State.holdSource_nvs (s : State) (src : Source) : (s.holdSource src).nvs = s.nvs := rfl
@[simp] theorem State.holdSource_store (s : State) (src : Source) : (s.holdSource src).store = s.store := rfl

@[simp] theorem State.holdHolder_pending (s : State) : (s.holdHolder).pending = s.pending := rfl
@[simp] theorem State.holdHolder_now (s : State) : (s.holdHolder).now = s.now := rfl
@[simp] theorem State.holdHolder_picks (s : State) : (s.holdHolder).picks = s.picks := rfl
@[simp] theorem State.holdHolder_startingUp (s : State) : (s.holdHolder).startingUp = s.startingUp := rfl
@[simp] theorem State.holdHolder_lockLine (s : State) : (s.holdHolder).lockLine = s.lockLine := rfl
@[simp] theorem State.holdHolder_settings (s : State) : (s.holdHolder).settings = s.settings := rfl
@[simp] theorem State.holdHolder_ot (s : State) : (s.holdHolder).ot = s.ot := rfl
@[simp] theorem State.holdHolder_ae (s : State) : (s.holdHolder).ae = s.ae := rfl
@[simp] theorem State.holdHolder_fs (s : State) : (s.holdHolder).fs = s.fs := rfl
@[simp] theorem State.holdHolder_flc (s : State) : (s.holdHolder).flc = s.flc := rfl
@[simp] theorem State.holdHolder_hau (s : State) : (s.holdHolder).hau = s.hau := rfl
@[simp] theorem State.holdHolder_esu (s : State) : (s.holdHolder).esu = s.esu := rfl
@[simp] theorem State.holdHolder_cl (s : State) : (s.holdHolder).cl = s.cl := rfl
@[simp] theorem State.holdHolder_nvs (s : State) : (s.holdHolder).nvs = s.nvs := rfl
@[simp] theorem State.holdHolder_store (s : State) : (s.holdHolder).store = s.store := rfl

@[simp] theorem State.respond_pending (s : State) (r : Reply) : (s.respond r).pending = s.pending := rfl
@[simp] theorem State.respond_now (s : State) (r : Reply) : (s.respond r).now = s.now := rfl
@[simp] theorem State.respond_picks (s : State) (r : Reply) : (s.respond r).picks = s.picks := rfl
@[simp] theorem State.respond_startingUp (s : State) (r : Reply) : (s.respond r).startingUp = s.startingUp := rfl
@[simp] theorem State.respond_lockLine (s : State) (r : Reply) : (s.respond r).lockLine = s.lockLine := rfl
@[simp] theorem State.respond_settings (s : State) (r : Reply) : (s.respond r).settings = s.settings := rfl
@[simp] theorem State.respond_sm (s : State) (r : Reply) : (s.respond r).sm = s.sm := rfl
@[simp] theorem State.respond_ot (s : State) (r : Reply) : (s.respond r).ot = s.ot := rfl
@[simp] theorem State.respond_ae (s : State) (r : Reply) : (s.respond r).ae = s.ae := rfl
@[simp] theorem State.respond_fs (s : State) (r : Reply) : (s.respond r).fs = s.fs := rfl
@[simp] theorem State.respond_flc (s : State) (r : Reply) : (s.respond r).flc = s.flc := rfl
@[simp] theorem State.respond_hau (s : State) (r : Reply) : (s.respond r).hau = s.hau := rfl
@[simp] theorem State.respond_esu (s : State) (r : Reply) : (s.respond r).esu = s.esu := rfl
@[simp] theorem State.respond_nvs (s : State) (r : Reply) : (s.respond r).nvs = s.nvs := rfl
@[simp] theorem State.respond_store (s : State) (r : Reply) : (s.respond r).store = s.store := rfl

@[simp] theorem State.endTransaction_pending (s : State) : (s.endTransaction).pending = s.pending := rfl
@[simp] theorem State.endTransaction_now (s : State) : (s.endTransaction).now = s.now := rfl
@[simp] theorem State.endTransaction_picks (s : State) : (s.endTransaction).picks = s.picks := rfl
@[simp] theorem State.endTransaction_startingUp (s : State) : (s.endTransaction).startingUp = s.startingUp := rfl
@[simp] theorem State.endTransaction_lockLine (s : State) : (s.endTransaction).lockLine = s.lockLine := rfl
@[simp] theorem State.endTransaction_settings (s : State) : (s.endTransaction).settings = s.settings := rfl
@[simp] theorem State.endTransaction_sm (s : State) : (s.endTransaction).sm = s.sm := rfl
@[simp] theorem State.endTransaction_ot (s : State) : (s.endTransaction).ot = s.ot := rfl
@[simp] theorem State.endTransaction_ae (s : State) : (s.endTransaction).ae = s.ae := rfl
@[simp] theorem State.endTransaction_fs (s : State) : (s.endTransaction).fs = s.fs := rfl
@[simp] theorem State.endTransaction_flc (s : State) : (s.endTransaction).flc = s.flc := rfl
@[simp] theorem State.endTransaction_hau (s : State) : (s.endTransaction).hau = s.hau := rfl
@[simp] theorem State.endTransaction_esu (s : State) : (s.endTransaction).esu = s.esu := rfl
@[simp] theorem State.endTransaction_nvs (s : State) : (s.endTransaction).nvs = s.nvs := rfl
@[simp] theorem State.endTransaction_store (s : State) : (s.endTransaction).store = s.store := rfl

@[simp] theorem State.answered_pending (s : State) (r : Reply) : (s.answered r).pending = s.pending := rfl
@[simp] theorem State.answered_now (s : State) (r : Reply) : (s.answered r).now = s.now := rfl
@[simp] theorem State.answered_picks (s : State) (r : Reply) : (s.answered r).picks = s.picks := rfl
@[simp] theorem State.answered_startingUp (s : State) (r : Reply) : (s.answered r).startingUp = s.startingUp := rfl
@[simp] theorem State.answered_lockLine (s : State) (r : Reply) : (s.answered r).lockLine = s.lockLine := rfl
@[simp] theorem State.answered_settings (s : State) (r : Reply) : (s.answered r).settings = s.settings := rfl
@[simp] theorem State.answered_sm (s : State) (r : Reply) : (s.answered r).sm = s.sm := rfl
@[simp] theorem State.answered_ot (s : State) (r : Reply) : (s.answered r).ot = s.ot := rfl
@[simp] theorem State.answered_ae (s : State) (r : Reply) : (s.answered r).ae = s.ae := rfl
@[simp] theorem State.answered_fs (s : State) (r : Reply) : (s.answered r).fs = s.fs := rfl
@[simp] theorem State.answered_flc (s : State) (r : Reply) : (s.answered r).flc = s.flc := rfl
@[simp] theorem State.answered_hau (s : State) (r : Reply) : (s.answered r).hau = s.hau := rfl
@[simp] theorem State.answered_esu (s : State) (r : Reply) : (s.answered r).esu = s.esu := rfl
@[simp] theorem State.answered_nvs (s : State) (r : Reply) : (s.answered r).nvs = s.nvs := rfl
@[simp] theorem State.answered_store (s : State) (r : Reply) : (s.answered r).store = s.store := rfl

@[simp] theorem State.restartDispatch_pending (s : State) : (s.restartDispatch).pending = s.pending := rfl
@[simp] theorem State.restartDispatch_now (s : State) : (s.restartDispatch).now = s.now := rfl
@[simp] theorem State.restartDispatch_picks (s : State) : (s.restartDispatch).picks = s.picks := rfl
@[simp] theorem State.restartDispatch_startingUp (s : State) : (s.restartDispatch).startingUp = s.startingUp := rfl
@[simp] theorem State.restartDispatch_lockLine (s : State) : (s.restartDispatch).lockLine = s.lockLine := rfl
@[simp] theorem State.restartDispatch_settings (s : State) : (s.restartDispatch).settings = s.settings := rfl
@[simp] theorem State.restartDispatch_sm (s : State) : (s.restartDispatch).sm = s.sm := rfl
@[simp] theorem State.restartDispatch_ot (s : State) : (s.restartDispatch).ot = s.ot := rfl
@[simp] theorem State.restartDispatch_fs (s : State) : (s.restartDispatch).fs = s.fs := rfl
@[simp] theorem State.restartDispatch_flc (s : State) : (s.restartDispatch).flc = s.flc := rfl
@[simp] theorem State.restartDispatch_hau (s : State) : (s.restartDispatch).hau = s.hau := rfl
@[simp] theorem State.restartDispatch_esu (s : State) : (s.restartDispatch).esu = s.esu := rfl
@[simp] theorem State.restartDispatch_cl (s : State) : (s.restartDispatch).cl = s.cl := rfl
@[simp] theorem State.restartDispatch_nvs (s : State) : (s.restartDispatch).nvs = s.nvs := rfl
@[simp] theorem State.restartDispatch_store (s : State) : (s.restartDispatch).store = s.store := rfl

@[simp] theorem State.startRun_pending (s : State) : (s.startRun).pending = s.pending := rfl
@[simp] theorem State.startRun_now (s : State) : (s.startRun).now = s.now := rfl
@[simp] theorem State.startRun_picks (s : State) : (s.startRun).picks = s.picks := rfl
@[simp] theorem State.startRun_startingUp (s : State) : (s.startRun).startingUp = s.startingUp := rfl
@[simp] theorem State.startRun_lockLine (s : State) : (s.startRun).lockLine = s.lockLine := rfl
@[simp] theorem State.startRun_settings (s : State) : (s.startRun).settings = s.settings := rfl
@[simp] theorem State.startRun_sm (s : State) : (s.startRun).sm = s.sm := rfl
@[simp] theorem State.startRun_ot (s : State) : (s.startRun).ot = s.ot := rfl
@[simp] theorem State.startRun_fs (s : State) : (s.startRun).fs = s.fs := rfl
@[simp] theorem State.startRun_flc (s : State) : (s.startRun).flc = s.flc := rfl
@[simp] theorem State.startRun_hau (s : State) : (s.startRun).hau = s.hau := rfl
@[simp] theorem State.startRun_esu (s : State) : (s.startRun).esu = s.esu := rfl
@[simp] theorem State.startRun_cl (s : State) : (s.startRun).cl = s.cl := rfl
@[simp] theorem State.startRun_nvs (s : State) : (s.startRun).nvs = s.nvs := rfl
@[simp] theorem State.startRun_store (s : State) : (s.startRun).store = s.store := rfl

@[simp] theorem State.markReleased_pending (s : State) (i : Fin 48) : (s.markReleased i).pending = s.pending := rfl
@[simp] theorem State.markReleased_now (s : State) (i : Fin 48) : (s.markReleased i).now = s.now := rfl
@[simp] theorem State.markReleased_picks (s : State) (i : Fin 48) : (s.markReleased i).picks = s.picks := rfl
@[simp] theorem State.markReleased_startingUp (s : State) (i : Fin 48) : (s.markReleased i).startingUp = s.startingUp := rfl
@[simp] theorem State.markReleased_lockLine (s : State) (i : Fin 48) : (s.markReleased i).lockLine = s.lockLine := rfl
@[simp] theorem State.markReleased_settings (s : State) (i : Fin 48) : (s.markReleased i).settings = s.settings := rfl
@[simp] theorem State.markReleased_sm (s : State) (i : Fin 48) : (s.markReleased i).sm = s.sm := rfl
@[simp] theorem State.markReleased_ot (s : State) (i : Fin 48) : (s.markReleased i).ot = s.ot := rfl
@[simp] theorem State.markReleased_fs (s : State) (i : Fin 48) : (s.markReleased i).fs = s.fs := rfl
@[simp] theorem State.markReleased_flc (s : State) (i : Fin 48) : (s.markReleased i).flc = s.flc := rfl
@[simp] theorem State.markReleased_hau (s : State) (i : Fin 48) : (s.markReleased i).hau = s.hau := rfl
@[simp] theorem State.markReleased_esu (s : State) (i : Fin 48) : (s.markReleased i).esu = s.esu := rfl
@[simp] theorem State.markReleased_cl (s : State) (i : Fin 48) : (s.markReleased i).cl = s.cl := rfl
@[simp] theorem State.markReleased_nvs (s : State) (i : Fin 48) : (s.markReleased i).nvs = s.nvs := rfl
@[simp] theorem State.markReleased_store (s : State) (i : Fin 48) : (s.markReleased i).store = s.store := rfl

@[simp] theorem State.recomputeEstimate_pending (s : State) : (s.recomputeEstimate).pending = s.pending := rfl
@[simp] theorem State.recomputeEstimate_now (s : State) : (s.recomputeEstimate).now = s.now := rfl
@[simp] theorem State.recomputeEstimate_picks (s : State) : (s.recomputeEstimate).picks = s.picks := rfl
@[simp] theorem State.recomputeEstimate_startingUp (s : State) : (s.recomputeEstimate).startingUp = s.startingUp := rfl
@[simp] theorem State.recomputeEstimate_lockLine (s : State) : (s.recomputeEstimate).lockLine = s.lockLine := rfl
@[simp] theorem State.recomputeEstimate_settings (s : State) : (s.recomputeEstimate).settings = s.settings := rfl
@[simp] theorem State.recomputeEstimate_sm (s : State) : (s.recomputeEstimate).sm = s.sm := rfl
@[simp] theorem State.recomputeEstimate_ot (s : State) : (s.recomputeEstimate).ot = s.ot := rfl
@[simp] theorem State.recomputeEstimate_fs (s : State) : (s.recomputeEstimate).fs = s.fs := rfl
@[simp] theorem State.recomputeEstimate_flc (s : State) : (s.recomputeEstimate).flc = s.flc := rfl
@[simp] theorem State.recomputeEstimate_hau (s : State) : (s.recomputeEstimate).hau = s.hau := rfl
@[simp] theorem State.recomputeEstimate_esu (s : State) : (s.recomputeEstimate).esu = s.esu := rfl
@[simp] theorem State.recomputeEstimate_cl (s : State) : (s.recomputeEstimate).cl = s.cl := rfl
@[simp] theorem State.recomputeEstimate_nvs (s : State) : (s.recomputeEstimate).nvs = s.nvs := rfl
@[simp] theorem State.recomputeEstimate_store (s : State) : (s.recomputeEstimate).store = s.store := rfl

@[simp] theorem State.settleFigures_pending (s : State) (r : Run) (left : PerSource Nat) (ps : List RunPart) : (s.settleFigures r left ps).pending = s.pending := rfl
@[simp] theorem State.settleFigures_now (s : State) (r : Run) (left : PerSource Nat) (ps : List RunPart) : (s.settleFigures r left ps).now = s.now := rfl
@[simp] theorem State.settleFigures_picks (s : State) (r : Run) (left : PerSource Nat) (ps : List RunPart) : (s.settleFigures r left ps).picks = s.picks := rfl
@[simp] theorem State.settleFigures_startingUp (s : State) (r : Run) (left : PerSource Nat) (ps : List RunPart) : (s.settleFigures r left ps).startingUp = s.startingUp := rfl
@[simp] theorem State.settleFigures_lockLine (s : State) (r : Run) (left : PerSource Nat) (ps : List RunPart) : (s.settleFigures r left ps).lockLine = s.lockLine := rfl
@[simp] theorem State.settleFigures_settings (s : State) (r : Run) (left : PerSource Nat) (ps : List RunPart) : (s.settleFigures r left ps).settings = s.settings := rfl
@[simp] theorem State.settleFigures_sm (s : State) (r : Run) (left : PerSource Nat) (ps : List RunPart) : (s.settleFigures r left ps).sm = s.sm := rfl
@[simp] theorem State.settleFigures_ot (s : State) (r : Run) (left : PerSource Nat) (ps : List RunPart) : (s.settleFigures r left ps).ot = s.ot := rfl
@[simp] theorem State.settleFigures_fs (s : State) (r : Run) (left : PerSource Nat) (ps : List RunPart) : (s.settleFigures r left ps).fs = s.fs := rfl
@[simp] theorem State.settleFigures_flc (s : State) (r : Run) (left : PerSource Nat) (ps : List RunPart) : (s.settleFigures r left ps).flc = s.flc := rfl
@[simp] theorem State.settleFigures_hau (s : State) (r : Run) (left : PerSource Nat) (ps : List RunPart) : (s.settleFigures r left ps).hau = s.hau := rfl
@[simp] theorem State.settleFigures_esu (s : State) (r : Run) (left : PerSource Nat) (ps : List RunPart) : (s.settleFigures r left ps).esu = s.esu := rfl
@[simp] theorem State.settleFigures_cl (s : State) (r : Run) (left : PerSource Nat) (ps : List RunPart) : (s.settleFigures r left ps).cl = s.cl := rfl
@[simp] theorem State.settleFigures_nvs (s : State) (r : Run) (left : PerSource Nat) (ps : List RunPart) : (s.settleFigures r left ps).nvs = s.nvs := rfl
@[simp] theorem State.settleFigures_store (s : State) (r : Run) (left : PerSource Nat) (ps : List RunPart) : (s.settleFigures r left ps).store = s.store := rfl

@[simp] theorem State.writeFlare_pending (s : State) : (s.writeFlare).pending = s.pending := rfl
@[simp] theorem State.writeFlare_now (s : State) : (s.writeFlare).now = s.now := rfl
@[simp] theorem State.writeFlare_picks (s : State) : (s.writeFlare).picks = s.picks := rfl
@[simp] theorem State.writeFlare_startingUp (s : State) : (s.writeFlare).startingUp = s.startingUp := rfl
@[simp] theorem State.writeFlare_lockLine (s : State) : (s.writeFlare).lockLine = s.lockLine := rfl
@[simp] theorem State.writeFlare_settings (s : State) : (s.writeFlare).settings = s.settings := rfl
@[simp] theorem State.writeFlare_sm (s : State) : (s.writeFlare).sm = s.sm := rfl
@[simp] theorem State.writeFlare_ot (s : State) : (s.writeFlare).ot = s.ot := rfl
@[simp] theorem State.writeFlare_ae (s : State) : (s.writeFlare).ae = s.ae := rfl
@[simp] theorem State.writeFlare_fs (s : State) : (s.writeFlare).fs = s.fs := rfl
@[simp] theorem State.writeFlare_flc (s : State) : (s.writeFlare).flc = s.flc := rfl
@[simp] theorem State.writeFlare_hau (s : State) : (s.writeFlare).hau = s.hau := rfl
@[simp] theorem State.writeFlare_esu (s : State) : (s.writeFlare).esu = s.esu := rfl
@[simp] theorem State.writeFlare_cl (s : State) : (s.writeFlare).cl = s.cl := rfl
@[simp] theorem State.writeFlare_nvs (s : State) : (s.writeFlare).nvs = s.nvs := rfl

@[simp] theorem State.mapBoosts_pending (s : State) (f : Nat → Nat) : (s.mapBoosts f).pending = s.pending := rfl
@[simp] theorem State.mapBoosts_now (s : State) (f : Nat → Nat) : (s.mapBoosts f).now = s.now := rfl
@[simp] theorem State.mapBoosts_picks (s : State) (f : Nat → Nat) : (s.mapBoosts f).picks = s.picks := rfl
@[simp] theorem State.mapBoosts_startingUp (s : State) (f : Nat → Nat) : (s.mapBoosts f).startingUp = s.startingUp := rfl
@[simp] theorem State.mapBoosts_lockLine (s : State) (f : Nat → Nat) : (s.mapBoosts f).lockLine = s.lockLine := rfl
@[simp] theorem State.mapBoosts_settings (s : State) (f : Nat → Nat) : (s.mapBoosts f).settings = s.settings := rfl
@[simp] theorem State.mapBoosts_sm (s : State) (f : Nat → Nat) : (s.mapBoosts f).sm = s.sm := rfl
@[simp] theorem State.mapBoosts_ae (s : State) (f : Nat → Nat) : (s.mapBoosts f).ae = s.ae := rfl
@[simp] theorem State.mapBoosts_fs (s : State) (f : Nat → Nat) : (s.mapBoosts f).fs = s.fs := rfl
@[simp] theorem State.mapBoosts_flc (s : State) (f : Nat → Nat) : (s.mapBoosts f).flc = s.flc := rfl
@[simp] theorem State.mapBoosts_hau (s : State) (f : Nat → Nat) : (s.mapBoosts f).hau = s.hau := rfl
@[simp] theorem State.mapBoosts_esu (s : State) (f : Nat → Nat) : (s.mapBoosts f).esu = s.esu := rfl
@[simp] theorem State.mapBoosts_cl (s : State) (f : Nat → Nat) : (s.mapBoosts f).cl = s.cl := rfl
@[simp] theorem State.mapBoosts_nvs (s : State) (f : Nat → Nat) : (s.mapBoosts f).nvs = s.nvs := rfl
@[simp] theorem State.mapBoosts_store (s : State) (f : Nat → Nat) : (s.mapBoosts f).store = s.store := rfl

@[simp] theorem State.zeroBoosts_pending (s : State) : (s.zeroBoosts).pending = s.pending := rfl
@[simp] theorem State.zeroBoosts_now (s : State) : (s.zeroBoosts).now = s.now := rfl
@[simp] theorem State.zeroBoosts_picks (s : State) : (s.zeroBoosts).picks = s.picks := rfl
@[simp] theorem State.zeroBoosts_startingUp (s : State) : (s.zeroBoosts).startingUp = s.startingUp := rfl
@[simp] theorem State.zeroBoosts_lockLine (s : State) : (s.zeroBoosts).lockLine = s.lockLine := rfl
@[simp] theorem State.zeroBoosts_settings (s : State) : (s.zeroBoosts).settings = s.settings := rfl
@[simp] theorem State.zeroBoosts_sm (s : State) : (s.zeroBoosts).sm = s.sm := rfl
@[simp] theorem State.zeroBoosts_ae (s : State) : (s.zeroBoosts).ae = s.ae := rfl
@[simp] theorem State.zeroBoosts_fs (s : State) : (s.zeroBoosts).fs = s.fs := rfl
@[simp] theorem State.zeroBoosts_flc (s : State) : (s.zeroBoosts).flc = s.flc := rfl
@[simp] theorem State.zeroBoosts_hau (s : State) : (s.zeroBoosts).hau = s.hau := rfl
@[simp] theorem State.zeroBoosts_esu (s : State) : (s.zeroBoosts).esu = s.esu := rfl
@[simp] theorem State.zeroBoosts_cl (s : State) : (s.zeroBoosts).cl = s.cl := rfl
@[simp] theorem State.zeroBoosts_nvs (s : State) : (s.zeroBoosts).nvs = s.nvs := rfl
@[simp] theorem State.zeroBoosts_store (s : State) : (s.zeroBoosts).store = s.store := rfl

@[simp] theorem State.capBoosts_pending (s : State) : (s.capBoosts).pending = s.pending := rfl
@[simp] theorem State.capBoosts_now (s : State) : (s.capBoosts).now = s.now := rfl
@[simp] theorem State.capBoosts_picks (s : State) : (s.capBoosts).picks = s.picks := rfl
@[simp] theorem State.capBoosts_startingUp (s : State) : (s.capBoosts).startingUp = s.startingUp := rfl
@[simp] theorem State.capBoosts_lockLine (s : State) : (s.capBoosts).lockLine = s.lockLine := rfl
@[simp] theorem State.capBoosts_settings (s : State) : (s.capBoosts).settings = s.settings := rfl
@[simp] theorem State.capBoosts_sm (s : State) : (s.capBoosts).sm = s.sm := rfl
@[simp] theorem State.capBoosts_ae (s : State) : (s.capBoosts).ae = s.ae := rfl
@[simp] theorem State.capBoosts_fs (s : State) : (s.capBoosts).fs = s.fs := rfl
@[simp] theorem State.capBoosts_flc (s : State) : (s.capBoosts).flc = s.flc := rfl
@[simp] theorem State.capBoosts_hau (s : State) : (s.capBoosts).hau = s.hau := rfl
@[simp] theorem State.capBoosts_esu (s : State) : (s.capBoosts).esu = s.esu := rfl
@[simp] theorem State.capBoosts_cl (s : State) : (s.capBoosts).cl = s.cl := rfl
@[simp] theorem State.capBoosts_nvs (s : State) : (s.capBoosts).nvs = s.nvs := rfl
@[simp] theorem State.capBoosts_store (s : State) : (s.capBoosts).store = s.store := rfl

@[simp] theorem State.meterSilent_pending (s : State) : (s.meterSilent).pending = s.pending := rfl
@[simp] theorem State.meterSilent_now (s : State) : (s.meterSilent).now = s.now := rfl
@[simp] theorem State.meterSilent_picks (s : State) : (s.meterSilent).picks = s.picks := rfl
@[simp] theorem State.meterSilent_startingUp (s : State) : (s.meterSilent).startingUp = s.startingUp := rfl
@[simp] theorem State.meterSilent_lockLine (s : State) : (s.meterSilent).lockLine = s.lockLine := rfl
@[simp] theorem State.meterSilent_settings (s : State) : (s.meterSilent).settings = s.settings := rfl
@[simp] theorem State.meterSilent_sm (s : State) : (s.meterSilent).sm = s.sm := rfl
@[simp] theorem State.meterSilent_ot (s : State) : (s.meterSilent).ot = s.ot := rfl
@[simp] theorem State.meterSilent_ae (s : State) : (s.meterSilent).ae = s.ae := rfl
@[simp] theorem State.meterSilent_fs (s : State) : (s.meterSilent).fs = s.fs := rfl
@[simp] theorem State.meterSilent_flc (s : State) : (s.meterSilent).flc = s.flc := rfl
@[simp] theorem State.meterSilent_hau (s : State) : (s.meterSilent).hau = s.hau := rfl
@[simp] theorem State.meterSilent_cl (s : State) : (s.meterSilent).cl = s.cl := rfl
@[simp] theorem State.meterSilent_nvs (s : State) : (s.meterSilent).nvs = s.nvs := rfl
@[simp] theorem State.meterSilent_store (s : State) : (s.meterSilent).store = s.store := rfl

@[simp] theorem State.sendQuery_pending (s : State) (n : Nat) : (s.sendQuery n).pending = s.pending := rfl
@[simp] theorem State.sendQuery_now (s : State) (n : Nat) : (s.sendQuery n).now = s.now := rfl
@[simp] theorem State.sendQuery_picks (s : State) (n : Nat) : (s.sendQuery n).picks = s.picks := rfl
@[simp] theorem State.sendQuery_startingUp (s : State) (n : Nat) : (s.sendQuery n).startingUp = s.startingUp := rfl
@[simp] theorem State.sendQuery_lockLine (s : State) (n : Nat) : (s.sendQuery n).lockLine = s.lockLine := rfl
@[simp] theorem State.sendQuery_settings (s : State) (n : Nat) : (s.sendQuery n).settings = s.settings := rfl
@[simp] theorem State.sendQuery_sm (s : State) (n : Nat) : (s.sendQuery n).sm = s.sm := rfl
@[simp] theorem State.sendQuery_ot (s : State) (n : Nat) : (s.sendQuery n).ot = s.ot := rfl
@[simp] theorem State.sendQuery_ae (s : State) (n : Nat) : (s.sendQuery n).ae = s.ae := rfl
@[simp] theorem State.sendQuery_fs (s : State) (n : Nat) : (s.sendQuery n).fs = s.fs := rfl
@[simp] theorem State.sendQuery_hau (s : State) (n : Nat) : (s.sendQuery n).hau = s.hau := rfl
@[simp] theorem State.sendQuery_esu (s : State) (n : Nat) : (s.sendQuery n).esu = s.esu := rfl
@[simp] theorem State.sendQuery_cl (s : State) (n : Nat) : (s.sendQuery n).cl = s.cl := rfl
@[simp] theorem State.sendQuery_nvs (s : State) (n : Nat) : (s.sendQuery n).nvs = s.nvs := rfl
@[simp] theorem State.sendQuery_store (s : State) (n : Nat) : (s.sendQuery n).store = s.store := rfl

@[simp] theorem State.enterEmpty_pending (s : State) : (s.enterEmpty).pending = s.pending := rfl
@[simp] theorem State.enterEmpty_now (s : State) : (s.enterEmpty).now = s.now := rfl
@[simp] theorem State.enterEmpty_picks (s : State) : (s.enterEmpty).picks = s.picks := rfl
@[simp] theorem State.enterEmpty_startingUp (s : State) : (s.enterEmpty).startingUp = s.startingUp := rfl
@[simp] theorem State.enterEmpty_lockLine (s : State) : (s.enterEmpty).lockLine = s.lockLine := rfl
@[simp] theorem State.enterEmpty_settings (s : State) : (s.enterEmpty).settings = s.settings := rfl
@[simp] theorem State.enterEmpty_sm (s : State) : (s.enterEmpty).sm = s.sm := rfl
@[simp] theorem State.enterEmpty_ot (s : State) : (s.enterEmpty).ot = s.ot := rfl
@[simp] theorem State.enterEmpty_ae (s : State) : (s.enterEmpty).ae = s.ae := rfl
@[simp] theorem State.enterEmpty_fs (s : State) : (s.enterEmpty).fs = s.fs := rfl
@[simp] theorem State.enterEmpty_hau (s : State) : (s.enterEmpty).hau = s.hau := rfl
@[simp] theorem State.enterEmpty_esu (s : State) : (s.enterEmpty).esu = s.esu := rfl
@[simp] theorem State.enterEmpty_cl (s : State) : (s.enterEmpty).cl = s.cl := rfl
@[simp] theorem State.enterEmpty_nvs (s : State) : (s.enterEmpty).nvs = s.nvs := rfl
@[simp] theorem State.enterEmpty_store (s : State) : (s.enterEmpty).store = s.store := rfl

@[simp] theorem State.beginGap_pending (s : State) : (s.beginGap).pending = s.pending := rfl
@[simp] theorem State.beginGap_now (s : State) : (s.beginGap).now = s.now := rfl
@[simp] theorem State.beginGap_picks (s : State) : (s.beginGap).picks = s.picks := rfl
@[simp] theorem State.beginGap_startingUp (s : State) : (s.beginGap).startingUp = s.startingUp := rfl
@[simp] theorem State.beginGap_lockLine (s : State) : (s.beginGap).lockLine = s.lockLine := rfl
@[simp] theorem State.beginGap_settings (s : State) : (s.beginGap).settings = s.settings := rfl
@[simp] theorem State.beginGap_sm (s : State) : (s.beginGap).sm = s.sm := rfl
@[simp] theorem State.beginGap_ot (s : State) : (s.beginGap).ot = s.ot := rfl
@[simp] theorem State.beginGap_ae (s : State) : (s.beginGap).ae = s.ae := rfl
@[simp] theorem State.beginGap_fs (s : State) : (s.beginGap).fs = s.fs := rfl
@[simp] theorem State.beginGap_hau (s : State) : (s.beginGap).hau = s.hau := rfl
@[simp] theorem State.beginGap_esu (s : State) : (s.beginGap).esu = s.esu := rfl
@[simp] theorem State.beginGap_cl (s : State) : (s.beginGap).cl = s.cl := rfl
@[simp] theorem State.beginGap_nvs (s : State) : (s.beginGap).nvs = s.nvs := rfl
@[simp] theorem State.beginGap_store (s : State) : (s.beginGap).store = s.store := rfl

@[simp] theorem State.setUnsaved_pending (s : State) (b : Bool) : (s.setUnsaved b).pending = s.pending := rfl
@[simp] theorem State.setUnsaved_now (s : State) (b : Bool) : (s.setUnsaved b).now = s.now := rfl
@[simp] theorem State.setUnsaved_picks (s : State) (b : Bool) : (s.setUnsaved b).picks = s.picks := rfl
@[simp] theorem State.setUnsaved_startingUp (s : State) (b : Bool) : (s.setUnsaved b).startingUp = s.startingUp := rfl
@[simp] theorem State.setUnsaved_lockLine (s : State) (b : Bool) : (s.setUnsaved b).lockLine = s.lockLine := rfl
@[simp] theorem State.setUnsaved_settings (s : State) (b : Bool) : (s.setUnsaved b).settings = s.settings := rfl
@[simp] theorem State.setUnsaved_sm (s : State) (b : Bool) : (s.setUnsaved b).sm = s.sm := rfl
@[simp] theorem State.setUnsaved_ot (s : State) (b : Bool) : (s.setUnsaved b).ot = s.ot := rfl
@[simp] theorem State.setUnsaved_ae (s : State) (b : Bool) : (s.setUnsaved b).ae = s.ae := rfl
@[simp] theorem State.setUnsaved_fs (s : State) (b : Bool) : (s.setUnsaved b).fs = s.fs := rfl
@[simp] theorem State.setUnsaved_flc (s : State) (b : Bool) : (s.setUnsaved b).flc = s.flc := rfl
@[simp] theorem State.setUnsaved_hau (s : State) (b : Bool) : (s.setUnsaved b).hau = s.hau := rfl
@[simp] theorem State.setUnsaved_esu (s : State) (b : Bool) : (s.setUnsaved b).esu = s.esu := rfl
@[simp] theorem State.setUnsaved_cl (s : State) (b : Bool) : (s.setUnsaved b).cl = s.cl := rfl
@[simp] theorem State.setUnsaved_store (s : State) (b : Bool) : (s.setUnsaved b).store = s.store := rfl

@[simp] theorem State.moveOfftakeCursor_pending (s : State) (p : Option (Fin 48)) : (s.moveOfftakeCursor p).pending = s.pending := rfl
@[simp] theorem State.moveOfftakeCursor_now (s : State) (p : Option (Fin 48)) : (s.moveOfftakeCursor p).now = s.now := rfl
@[simp] theorem State.moveOfftakeCursor_picks (s : State) (p : Option (Fin 48)) : (s.moveOfftakeCursor p).picks = s.picks := rfl
@[simp] theorem State.moveOfftakeCursor_startingUp (s : State) (p : Option (Fin 48)) : (s.moveOfftakeCursor p).startingUp = s.startingUp := rfl
@[simp] theorem State.moveOfftakeCursor_lockLine (s : State) (p : Option (Fin 48)) : (s.moveOfftakeCursor p).lockLine = s.lockLine := rfl
@[simp] theorem State.moveOfftakeCursor_settings (s : State) (p : Option (Fin 48)) : (s.moveOfftakeCursor p).settings = s.settings := rfl
@[simp] theorem State.moveOfftakeCursor_sm (s : State) (p : Option (Fin 48)) : (s.moveOfftakeCursor p).sm = s.sm := rfl
@[simp] theorem State.moveOfftakeCursor_ae (s : State) (p : Option (Fin 48)) : (s.moveOfftakeCursor p).ae = s.ae := rfl
@[simp] theorem State.moveOfftakeCursor_fs (s : State) (p : Option (Fin 48)) : (s.moveOfftakeCursor p).fs = s.fs := rfl
@[simp] theorem State.moveOfftakeCursor_flc (s : State) (p : Option (Fin 48)) : (s.moveOfftakeCursor p).flc = s.flc := rfl
@[simp] theorem State.moveOfftakeCursor_hau (s : State) (p : Option (Fin 48)) : (s.moveOfftakeCursor p).hau = s.hau := rfl
@[simp] theorem State.moveOfftakeCursor_esu (s : State) (p : Option (Fin 48)) : (s.moveOfftakeCursor p).esu = s.esu := rfl
@[simp] theorem State.moveOfftakeCursor_cl (s : State) (p : Option (Fin 48)) : (s.moveOfftakeCursor p).cl = s.cl := rfl
@[simp] theorem State.moveOfftakeCursor_nvs (s : State) (p : Option (Fin 48)) : (s.moveOfftakeCursor p).nvs = s.nvs := rfl
@[simp] theorem State.moveOfftakeCursor_store (s : State) (p : Option (Fin 48)) : (s.moveOfftakeCursor p).store = s.store := rfl

@[simp] theorem State.moveAccountCursor_pending (s : State) (p : Option (Fin 64)) : (s.moveAccountCursor p).pending = s.pending := rfl
@[simp] theorem State.moveAccountCursor_now (s : State) (p : Option (Fin 64)) : (s.moveAccountCursor p).now = s.now := rfl
@[simp] theorem State.moveAccountCursor_picks (s : State) (p : Option (Fin 64)) : (s.moveAccountCursor p).picks = s.picks := rfl
@[simp] theorem State.moveAccountCursor_startingUp (s : State) (p : Option (Fin 64)) : (s.moveAccountCursor p).startingUp = s.startingUp := rfl
@[simp] theorem State.moveAccountCursor_lockLine (s : State) (p : Option (Fin 64)) : (s.moveAccountCursor p).lockLine = s.lockLine := rfl
@[simp] theorem State.moveAccountCursor_settings (s : State) (p : Option (Fin 64)) : (s.moveAccountCursor p).settings = s.settings := rfl
@[simp] theorem State.moveAccountCursor_sm (s : State) (p : Option (Fin 64)) : (s.moveAccountCursor p).sm = s.sm := rfl
@[simp] theorem State.moveAccountCursor_ot (s : State) (p : Option (Fin 64)) : (s.moveAccountCursor p).ot = s.ot := rfl
@[simp] theorem State.moveAccountCursor_ae (s : State) (p : Option (Fin 64)) : (s.moveAccountCursor p).ae = s.ae := rfl
@[simp] theorem State.moveAccountCursor_fs (s : State) (p : Option (Fin 64)) : (s.moveAccountCursor p).fs = s.fs := rfl
@[simp] theorem State.moveAccountCursor_flc (s : State) (p : Option (Fin 64)) : (s.moveAccountCursor p).flc = s.flc := rfl
@[simp] theorem State.moveAccountCursor_esu (s : State) (p : Option (Fin 64)) : (s.moveAccountCursor p).esu = s.esu := rfl
@[simp] theorem State.moveAccountCursor_cl (s : State) (p : Option (Fin 64)) : (s.moveAccountCursor p).cl = s.cl := rfl
@[simp] theorem State.moveAccountCursor_nvs (s : State) (p : Option (Fin 64)) : (s.moveAccountCursor p).nvs = s.nvs := rfl
@[simp] theorem State.moveAccountCursor_store (s : State) (p : Option (Fin 64)) : (s.moveAccountCursor p).store = s.store := rfl

@[simp] theorem State.loadLock_pending (s : State) : (s.loadLock).pending = s.pending := rfl
@[simp] theorem State.loadLock_now (s : State) : (s.loadLock).now = s.now := rfl
@[simp] theorem State.loadLock_picks (s : State) : (s.loadLock).picks = s.picks := rfl
@[simp] theorem State.loadLock_startingUp (s : State) : (s.loadLock).startingUp = s.startingUp := rfl
@[simp] theorem State.loadLock_lockLine (s : State) : (s.loadLock).lockLine = s.lockLine := rfl
@[simp] theorem State.loadLock_settings (s : State) : (s.loadLock).settings = s.settings := rfl
@[simp] theorem State.loadLock_sm (s : State) : (s.loadLock).sm = s.sm := rfl
@[simp] theorem State.loadLock_ae (s : State) : (s.loadLock).ae = s.ae := rfl
@[simp] theorem State.loadLock_fs (s : State) : (s.loadLock).fs = s.fs := rfl
@[simp] theorem State.loadLock_flc (s : State) : (s.loadLock).flc = s.flc := rfl
@[simp] theorem State.loadLock_hau (s : State) : (s.loadLock).hau = s.hau := rfl
@[simp] theorem State.loadLock_esu (s : State) : (s.loadLock).esu = s.esu := rfl
@[simp] theorem State.loadLock_cl (s : State) : (s.loadLock).cl = s.cl := rfl
@[simp] theorem State.loadLock_nvs (s : State) : (s.loadLock).nvs = s.nvs := rfl
@[simp] theorem State.loadLock_store (s : State) : (s.loadLock).store = s.store := rfl

@[simp] theorem State.placeRoles_pending (s : State) : (s.placeRoles).pending = s.pending := rfl
@[simp] theorem State.placeRoles_now (s : State) : (s.placeRoles).now = s.now := rfl
@[simp] theorem State.placeRoles_picks (s : State) : (s.placeRoles).picks = s.picks := rfl
@[simp] theorem State.placeRoles_startingUp (s : State) : (s.placeRoles).startingUp = s.startingUp := rfl
@[simp] theorem State.placeRoles_lockLine (s : State) : (s.placeRoles).lockLine = s.lockLine := rfl
@[simp] theorem State.placeRoles_settings (s : State) : (s.placeRoles).settings = s.settings := rfl
@[simp] theorem State.placeRoles_ot (s : State) : (s.placeRoles).ot = s.ot := rfl
@[simp] theorem State.placeRoles_ae (s : State) : (s.placeRoles).ae = s.ae := rfl
@[simp] theorem State.placeRoles_fs (s : State) : (s.placeRoles).fs = s.fs := rfl
@[simp] theorem State.placeRoles_flc (s : State) : (s.placeRoles).flc = s.flc := rfl
@[simp] theorem State.placeRoles_hau (s : State) : (s.placeRoles).hau = s.hau := rfl
@[simp] theorem State.placeRoles_cl (s : State) : (s.placeRoles).cl = s.cl := rfl
@[simp] theorem State.placeRoles_nvs (s : State) : (s.placeRoles).nvs = s.nvs := rfl
@[simp] theorem State.placeRoles_store (s : State) : (s.placeRoles).store = s.store := rfl

@[simp] theorem State.startTimers_pending (s : State) : (s.startTimers).pending = s.pending := rfl
@[simp] theorem State.startTimers_now (s : State) : (s.startTimers).now = s.now := rfl
@[simp] theorem State.startTimers_picks (s : State) : (s.startTimers).picks = s.picks := rfl
@[simp] theorem State.startTimers_lockLine (s : State) : (s.startTimers).lockLine = s.lockLine := rfl
@[simp] theorem State.startTimers_settings (s : State) : (s.startTimers).settings = s.settings := rfl
@[simp] theorem State.startTimers_sm (s : State) : (s.startTimers).sm = s.sm := rfl
@[simp] theorem State.startTimers_ot (s : State) : (s.startTimers).ot = s.ot := rfl
@[simp] theorem State.startTimers_fs (s : State) : (s.startTimers).fs = s.fs := rfl
@[simp] theorem State.startTimers_flc (s : State) : (s.startTimers).flc = s.flc := rfl
@[simp] theorem State.startTimers_hau (s : State) : (s.startTimers).hau = s.hau := rfl
@[simp] theorem State.startTimers_esu (s : State) : (s.startTimers).esu = s.esu := rfl
@[simp] theorem State.startTimers_nvs (s : State) : (s.startTimers).nvs = s.nvs := rfl
@[simp] theorem State.startTimers_store (s : State) : (s.startTimers).store = s.store := rfl

@[simp] theorem State.tick_pending (s : State) : (s.tick).pending = s.pending := rfl
@[simp] theorem State.tick_picks (s : State) : (s.tick).picks = s.picks := rfl
@[simp] theorem State.tick_startingUp (s : State) : (s.tick).startingUp = s.startingUp := rfl
@[simp] theorem State.tick_lockLine (s : State) : (s.tick).lockLine = s.lockLine := rfl
@[simp] theorem State.tick_settings (s : State) : (s.tick).settings = s.settings := rfl
@[simp] theorem State.tick_sm (s : State) : (s.tick).sm = s.sm := rfl
@[simp] theorem State.tick_ot (s : State) : (s.tick).ot = s.ot := rfl
@[simp] theorem State.tick_ae (s : State) : (s.tick).ae = s.ae := rfl
@[simp] theorem State.tick_fs (s : State) : (s.tick).fs = s.fs := rfl
@[simp] theorem State.tick_flc (s : State) : (s.tick).flc = s.flc := rfl
@[simp] theorem State.tick_hau (s : State) : (s.tick).hau = s.hau := rfl
@[simp] theorem State.tick_esu (s : State) : (s.tick).esu = s.esu := rfl
@[simp] theorem State.tick_cl (s : State) : (s.tick).cl = s.cl := rfl
@[simp] theorem State.tick_nvs (s : State) : (s.tick).nvs = s.nvs := rfl
@[simp] theorem State.tick_store (s : State) : (s.tick).store = s.store := rfl

end Sys2Proof.Machine
end

