-- ==== Sys2Proof/Laws/Frames.lean ====
section
/-! SUPPORT. The frame of each shared operation, once: every block of the state it leaves as it was. A
conjunction tagged for simp rewrites each of its fields. -/

namespace Sys2Proof.Machine

@[simp] theorem State.raiseIf_frame (s : State) (b : Bool) (f : AlertFlag) :
    (s.raiseIf b f).pending = s.pending ∧ (s.raiseIf b f).now = s.now ∧ (s.raiseIf b f).picks = s.picks ∧
    (s.raiseIf b f).startingUp = s.startingUp ∧ (s.raiseIf b f).lockLine = s.lockLine ∧
    (s.raiseIf b f).settings = s.settings ∧ (s.raiseIf b f).sm = s.sm ∧ (s.raiseIf b f).ot = s.ot ∧
    (s.raiseIf b f).ae = s.ae ∧ (s.raiseIf b f).flc = s.flc ∧ (s.raiseIf b f).hau = s.hau ∧
    (s.raiseIf b f).esu = s.esu ∧ (s.raiseIf b f).cl = s.cl ∧ (s.raiseIf b f).nvs = s.nvs ∧
    (s.raiseIf b f).store = s.store := by
  unfold State.raiseIf; split <;> simp

@[simp] theorem State.setStation_frame (s : State) (a : Nat) (r : StationRecord) :
    (s.setStation a r).pending = s.pending ∧ (s.setStation a r).now = s.now ∧
    (s.setStation a r).picks = s.picks ∧ (s.setStation a r).startingUp = s.startingUp ∧
    (s.setStation a r).lockLine = s.lockLine ∧ (s.setStation a r).settings = s.settings ∧
    (s.setStation a r).sm = s.sm ∧ (s.setStation a r).ot = s.ot ∧ (s.setStation a r).ae = s.ae ∧
    (s.setStation a r).fs = s.fs ∧ (s.setStation a r).hau = s.hau ∧ (s.setStation a r).esu = s.esu ∧
    (s.setStation a r).cl = s.cl ∧ (s.setStation a r).nvs = s.nvs ∧ (s.setStation a r).store = s.store := by
  unfold State.setStation; split <;> simp

@[simp] theorem State.restartSilence_frame (s : State) :
    (s.restartSilence).pending = s.pending ∧ (s.restartSilence).now = s.now ∧
    (s.restartSilence).picks = s.picks ∧ (s.restartSilence).startingUp = s.startingUp ∧
    (s.restartSilence).lockLine = s.lockLine ∧ (s.restartSilence).settings = s.settings ∧
    (s.restartSilence).sm = s.sm ∧ (s.restartSilence).ot = s.ot ∧ (s.restartSilence).ae = s.ae ∧
    (s.restartSilence).fs = s.fs ∧ (s.restartSilence).flc = s.flc ∧ (s.restartSilence).hau = s.hau ∧
    (s.restartSilence).esu = s.esu ∧ (s.restartSilence).nvs = s.nvs ∧ (s.restartSilence).store = s.store := by
  unfold State.restartSilence; split <;> simp

@[simp] theorem State.frameTaken_frame (s : State) :
    (s.frameTaken).pending = s.pending ∧ (s.frameTaken).now = s.now ∧ (s.frameTaken).picks = s.picks ∧
    (s.frameTaken).startingUp = s.startingUp ∧ (s.frameTaken).lockLine = s.lockLine ∧
    (s.frameTaken).settings = s.settings ∧ (s.frameTaken).sm = s.sm ∧ (s.frameTaken).ot = s.ot ∧
    (s.frameTaken).ae = s.ae ∧ (s.frameTaken).fs = s.fs ∧ (s.frameTaken).flc = s.flc ∧
    (s.frameTaken).hau = s.hau ∧ (s.frameTaken).esu = s.esu ∧ (s.frameTaken).nvs = s.nvs ∧
    (s.frameTaken).store = s.store := by
  simp [State.frameTaken]

@[simp] theorem State.atExpiry_frame (s : State) (e : Time) :
    (s.atExpiry e).pending = s.pending ∧ (s.atExpiry e).picks = s.picks ∧
    (s.atExpiry e).startingUp = s.startingUp ∧ (s.atExpiry e).lockLine = s.lockLine ∧
    (s.atExpiry e).settings = s.settings ∧ (s.atExpiry e).sm = s.sm ∧ (s.atExpiry e).ot = s.ot ∧
    (s.atExpiry e).ae = s.ae ∧ (s.atExpiry e).fs = s.fs ∧ (s.atExpiry e).flc = s.flc ∧
    (s.atExpiry e).hau = s.hau ∧ (s.atExpiry e).esu = s.esu ∧ (s.atExpiry e).cl = s.cl ∧
    (s.atExpiry e).nvs = s.nvs ∧ (s.atExpiry e).store = s.store := by
  unfold State.atExpiry; split <;> simp

@[simp] theorem State.requestRun_frame (s : State) :
    (s.requestRun).pending = s.pending ∧ (s.requestRun).now = s.now ∧ (s.requestRun).picks = s.picks ∧
    (s.requestRun).startingUp = s.startingUp ∧ (s.requestRun).lockLine = s.lockLine ∧
    (s.requestRun).settings = s.settings ∧ (s.requestRun).sm = s.sm ∧ (s.requestRun).ot = s.ot ∧
    (s.requestRun).fs = s.fs ∧ (s.requestRun).flc = s.flc ∧ (s.requestRun).hau = s.hau ∧
    (s.requestRun).esu = s.esu ∧ (s.requestRun).cl = s.cl ∧ (s.requestRun).nvs = s.nvs ∧
    (s.requestRun).store = s.store := by
  unfold State.requestRun; (repeat' split) <;> simp

@[simp] theorem State.integrateFlare_frame (s : State) :
    (s.integrateFlare).pending = s.pending ∧ (s.integrateFlare).now = s.now ∧
    (s.integrateFlare).picks = s.picks ∧ (s.integrateFlare).startingUp = s.startingUp ∧
    (s.integrateFlare).lockLine = s.lockLine ∧ (s.integrateFlare).settings = s.settings ∧
    (s.integrateFlare).sm = s.sm ∧ (s.integrateFlare).ot = s.ot ∧ (s.integrateFlare).fs = s.fs ∧
    (s.integrateFlare).flc = s.flc ∧ (s.integrateFlare).hau = s.hau ∧ (s.integrateFlare).esu = s.esu ∧
    (s.integrateFlare).cl = s.cl ∧ (s.integrateFlare).nvs = s.nvs := by
  unfold State.integrateFlare; dsimp only; split <;> simp

@[simp] theorem State.abortRun_frame (s : State) :
    (s.abortRun).pending = s.pending ∧ (s.abortRun).now = s.now ∧ (s.abortRun).picks = s.picks ∧
    (s.abortRun).startingUp = s.startingUp ∧ (s.abortRun).lockLine = s.lockLine ∧
    (s.abortRun).settings = s.settings ∧ (s.abortRun).sm = s.sm ∧ (s.abortRun).ot = s.ot ∧
    (s.abortRun).flc = s.flc ∧ (s.abortRun).hau = s.hau ∧ (s.abortRun).esu = s.esu ∧
    (s.abortRun).cl = s.cl ∧ (s.abortRun).nvs = s.nvs := by
  simp [State.abortRun]

@[simp] theorem State.withdrawalAtEngine_frame (s : State) :
    (s.withdrawalAtEngine).pending = s.pending ∧ (s.withdrawalAtEngine).now = s.now ∧
    (s.withdrawalAtEngine).picks = s.picks ∧ (s.withdrawalAtEngine).startingUp = s.startingUp ∧
    (s.withdrawalAtEngine).lockLine = s.lockLine ∧ (s.withdrawalAtEngine).settings = s.settings ∧
    (s.withdrawalAtEngine).sm = s.sm ∧ (s.withdrawalAtEngine).ot = s.ot ∧
    (s.withdrawalAtEngine).flc = s.flc ∧ (s.withdrawalAtEngine).hau = s.hau ∧
    (s.withdrawalAtEngine).esu = s.esu ∧ (s.withdrawalAtEngine).cl = s.cl ∧
    (s.withdrawalAtEngine).nvs = s.nvs := by
  unfold State.withdrawalAtEngine; (repeat' split) <;> simp

@[simp] theorem State.settle_frame (s : State) (src : Source) :
    (s.settle src).pending = s.pending ∧ (s.settle src).now = s.now ∧ (s.settle src).picks = s.picks ∧
    (s.settle src).startingUp = s.startingUp ∧ (s.settle src).lockLine = s.lockLine ∧
    (s.settle src).settings = s.settings ∧ (s.settle src).sm = s.sm ∧ (s.settle src).ot = s.ot ∧
    (s.settle src).flc = s.flc ∧ (s.settle src).hau = s.hau ∧ (s.settle src).esu = s.esu ∧
    (s.settle src).cl = s.cl ∧ (s.settle src).nvs = s.nvs := by
  unfold State.settle; split <;> simp

@[simp] theorem State.settleAll_frame (s : State) :
    (s.settleAll).pending = s.pending ∧ (s.settleAll).now = s.now ∧ (s.settleAll).picks = s.picks ∧
    (s.settleAll).startingUp = s.startingUp ∧ (s.settleAll).lockLine = s.lockLine ∧
    (s.settleAll).settings = s.settings ∧ (s.settleAll).sm = s.sm ∧ (s.settleAll).ot = s.ot ∧
    (s.settleAll).flc = s.flc ∧ (s.settleAll).hau = s.hau ∧ (s.settleAll).esu = s.esu ∧
    (s.settleAll).cl = s.cl ∧ (s.settleAll).nvs = s.nvs := by
  simp [State.settleAll]

@[simp] theorem State.evaluate_frame (s : State) (m : Monitor) (b : Bool) :
    (s.evaluate m b).pending = s.pending ∧ (s.evaluate m b).now = s.now ∧
    (s.evaluate m b).picks = s.picks ∧ (s.evaluate m b).startingUp = s.startingUp ∧
    (s.evaluate m b).lockLine = s.lockLine ∧ (s.evaluate m b).settings = s.settings ∧
    (s.evaluate m b).sm = s.sm ∧ (s.evaluate m b).ot = s.ot ∧ (s.evaluate m b).ae = s.ae ∧
    (s.evaluate m b).flc = s.flc ∧ (s.evaluate m b).hau = s.hau ∧ (s.evaluate m b).esu = s.esu ∧
    (s.evaluate m b).cl = s.cl ∧ (s.evaluate m b).nvs = s.nvs ∧ (s.evaluate m b).store = s.store := by
  unfold State.evaluate; dsimp only; split <;> simp

@[simp] theorem State.evaluateGas_frame (s : State) (src : Source) :
    (s.evaluateGas src).pending = s.pending ∧ (s.evaluateGas src).now = s.now ∧
    (s.evaluateGas src).picks = s.picks ∧ (s.evaluateGas src).startingUp = s.startingUp ∧
    (s.evaluateGas src).lockLine = s.lockLine ∧ (s.evaluateGas src).settings = s.settings ∧
    (s.evaluateGas src).sm = s.sm ∧ (s.evaluateGas src).ot = s.ot ∧ (s.evaluateGas src).ae = s.ae ∧
    (s.evaluateGas src).flc = s.flc ∧ (s.evaluateGas src).hau = s.hau ∧ (s.evaluateGas src).esu = s.esu ∧
    (s.evaluateGas src).cl = s.cl ∧ (s.evaluateGas src).nvs = s.nvs ∧ (s.evaluateGas src).store = s.store := by
  simp [State.evaluateGas]

@[simp] theorem State.evaluateTrips_frame (s : State) :
    (s.evaluateTrips).pending = s.pending ∧ (s.evaluateTrips).now = s.now ∧
    (s.evaluateTrips).picks = s.picks ∧ (s.evaluateTrips).startingUp = s.startingUp ∧
    (s.evaluateTrips).lockLine = s.lockLine ∧ (s.evaluateTrips).settings = s.settings ∧
    (s.evaluateTrips).sm = s.sm ∧ (s.evaluateTrips).ot = s.ot ∧ (s.evaluateTrips).ae = s.ae ∧
    (s.evaluateTrips).flc = s.flc ∧ (s.evaluateTrips).hau = s.hau ∧ (s.evaluateTrips).esu = s.esu ∧
    (s.evaluateTrips).cl = s.cl ∧ (s.evaluateTrips).nvs = s.nvs ∧ (s.evaluateTrips).store = s.store := by
  simp [State.evaluateTrips]

@[simp] theorem State.reevaluateGas_frame (s : State) (src : Source) :
    (s.reevaluateGas src).pending = s.pending ∧ (s.reevaluateGas src).now = s.now ∧
    (s.reevaluateGas src).picks = s.picks ∧ (s.reevaluateGas src).startingUp = s.startingUp ∧
    (s.reevaluateGas src).lockLine = s.lockLine ∧ (s.reevaluateGas src).settings = s.settings ∧
    (s.reevaluateGas src).sm = s.sm ∧ (s.reevaluateGas src).ot = s.ot ∧ (s.reevaluateGas src).ae = s.ae ∧
    (s.reevaluateGas src).flc = s.flc ∧ (s.reevaluateGas src).hau = s.hau ∧
    (s.reevaluateGas src).esu = s.esu ∧ (s.reevaluateGas src).cl = s.cl ∧
    (s.reevaluateGas src).nvs = s.nvs ∧ (s.reevaluateGas src).store = s.store := by
  simp [State.reevaluateGas]

@[simp] theorem State.reevaluateHolder_frame (s : State) :
    (s.reevaluateHolder).pending = s.pending ∧ (s.reevaluateHolder).now = s.now ∧
    (s.reevaluateHolder).picks = s.picks ∧ (s.reevaluateHolder).startingUp = s.startingUp ∧
    (s.reevaluateHolder).lockLine = s.lockLine ∧ (s.reevaluateHolder).settings = s.settings ∧
    (s.reevaluateHolder).sm = s.sm ∧ (s.reevaluateHolder).ot = s.ot ∧ (s.reevaluateHolder).ae = s.ae ∧
    (s.reevaluateHolder).flc = s.flc ∧ (s.reevaluateHolder).hau = s.hau ∧
    (s.reevaluateHolder).esu = s.esu ∧ (s.reevaluateHolder).cl = s.cl ∧
    (s.reevaluateHolder).nvs = s.nvs ∧ (s.reevaluateHolder).store = s.store := by
  simp [State.reevaluateHolder]

@[simp] theorem State.changeMode_frame (s : State) (m : Monitor) :
    (s.changeMode m).pending = s.pending ∧ (s.changeMode m).now = s.now ∧
    (s.changeMode m).picks = s.picks ∧ (s.changeMode m).startingUp = s.startingUp ∧
    (s.changeMode m).lockLine = s.lockLine ∧ (s.changeMode m).settings = s.settings ∧
    (s.changeMode m).sm = s.sm ∧ (s.changeMode m).ot = s.ot ∧ (s.changeMode m).ae = s.ae ∧
    (s.changeMode m).flc = s.flc ∧ (s.changeMode m).hau = s.hau ∧ (s.changeMode m).esu = s.esu ∧
    (s.changeMode m).cl = s.cl ∧ (s.changeMode m).nvs = s.nvs ∧ (s.changeMode m).store = s.store := by
  simp [State.changeMode]

@[simp] theorem State.clearMonitor_frame (s : State) (m : Monitor) :
    (s.clearMonitor m).pending = s.pending ∧ (s.clearMonitor m).now = s.now ∧
    (s.clearMonitor m).picks = s.picks ∧ (s.clearMonitor m).startingUp = s.startingUp ∧
    (s.clearMonitor m).lockLine = s.lockLine ∧ (s.clearMonitor m).settings = s.settings ∧
    (s.clearMonitor m).sm = s.sm ∧ (s.clearMonitor m).ot = s.ot ∧ (s.clearMonitor m).ae = s.ae ∧
    (s.clearMonitor m).flc = s.flc ∧ (s.clearMonitor m).hau = s.hau ∧ (s.clearMonitor m).esu = s.esu ∧
    (s.clearMonitor m).cl = s.cl ∧ (s.clearMonitor m).nvs = s.nvs ∧ (s.clearMonitor m).store = s.store := by
  simp [State.clearMonitor]

@[simp] theorem State.publishPart_frame (s : State) (n : Nat) (p : RunPart) :
    (s.publishPart n p).pending = s.pending ∧ (s.publishPart n p).now = s.now ∧
    (s.publishPart n p).picks = s.picks ∧ (s.publishPart n p).startingUp = s.startingUp ∧
    (s.publishPart n p).lockLine = s.lockLine ∧ (s.publishPart n p).settings = s.settings ∧
    (s.publishPart n p).sm = s.sm ∧ (s.publishPart n p).ae = s.ae ∧ (s.publishPart n p).fs = s.fs ∧
    (s.publishPart n p).flc = s.flc ∧ (s.publishPart n p).hau = s.hau ∧ (s.publishPart n p).esu = s.esu ∧
    (s.publishPart n p).cl = s.cl ∧ (s.publishPart n p).nvs = s.nvs := by
  unfold State.publishPart; (repeat' split) <;> simp

@[simp] theorem State.rerunIfPending_frame (s : State) :
    (s.rerunIfPending).pending = s.pending ∧ (s.rerunIfPending).now = s.now ∧
    (s.rerunIfPending).picks = s.picks ∧ (s.rerunIfPending).startingUp = s.startingUp ∧
    (s.rerunIfPending).lockLine = s.lockLine ∧ (s.rerunIfPending).settings = s.settings ∧
    (s.rerunIfPending).sm = s.sm ∧ (s.rerunIfPending).ot = s.ot ∧ (s.rerunIfPending).fs = s.fs ∧
    (s.rerunIfPending).flc = s.flc ∧ (s.rerunIfPending).hau = s.hau ∧ (s.rerunIfPending).esu = s.esu ∧
    (s.rerunIfPending).cl = s.cl ∧ (s.rerunIfPending).nvs = s.nvs ∧ (s.rerunIfPending).store = s.store := by
  unfold State.rerunIfPending; split <;> simp

@[simp] theorem State.lowerFigures_frame (s : State) (use : Use) (kw : Nat) :
    (s.lowerFigures use kw).pending = s.pending ∧ (s.lowerFigures use kw).now = s.now ∧
    (s.lowerFigures use kw).picks = s.picks ∧ (s.lowerFigures use kw).startingUp = s.startingUp ∧
    (s.lowerFigures use kw).lockLine = s.lockLine ∧ (s.lowerFigures use kw).settings = s.settings ∧
    (s.lowerFigures use kw).sm = s.sm ∧ (s.lowerFigures use kw).ot = s.ot ∧
    (s.lowerFigures use kw).fs = s.fs ∧ (s.lowerFigures use kw).flc = s.flc ∧
    (s.lowerFigures use kw).hau = s.hau ∧ (s.lowerFigures use kw).esu = s.esu ∧
    (s.lowerFigures use kw).cl = s.cl ∧ (s.lowerFigures use kw).nvs = s.nvs ∧
    (s.lowerFigures use kw).store = s.store := by
  unfold State.lowerFigures; split <;> simp

@[simp] theorem State.takeReleased_frame (s : State) (use : Use) (g : Grant) :
    (s.takeReleased use g).pending = s.pending ∧ (s.takeReleased use g).now = s.now ∧
    (s.takeReleased use g).picks = s.picks ∧ (s.takeReleased use g).startingUp = s.startingUp ∧
    (s.takeReleased use g).lockLine = s.lockLine ∧ (s.takeReleased use g).settings = s.settings ∧
    (s.takeReleased use g).sm = s.sm ∧ (s.takeReleased use g).ot = s.ot ∧
    (s.takeReleased use g).flc = s.flc ∧ (s.takeReleased use g).hau = s.hau ∧
    (s.takeReleased use g).esu = s.esu ∧ (s.takeReleased use g).cl = s.cl ∧
    (s.takeReleased use g).nvs = s.nvs := by
  simp [State.takeReleased]

@[simp] theorem State.changeBand_frame (s : State) (b : HolderBand) :
    (s.changeBand b).pending = s.pending ∧ (s.changeBand b).now = s.now ∧
    (s.changeBand b).picks = s.picks ∧ (s.changeBand b).startingUp = s.startingUp ∧
    (s.changeBand b).lockLine = s.lockLine ∧ (s.changeBand b).settings = s.settings ∧
    (s.changeBand b).ot = s.ot ∧ (s.changeBand b).flc = s.flc ∧ (s.changeBand b).hau = s.hau ∧
    (s.changeBand b).esu = s.esu ∧ (s.changeBand b).cl = s.cl ∧ (s.changeBand b).nvs = s.nvs ∧
    (s.changeBand b).store = s.store := by
  simp [State.changeBand]

@[simp] theorem State.takeHolder_frame (s : State) (level : Nat) :
    (s.takeHolder level).pending = s.pending ∧ (s.takeHolder level).now = s.now ∧
    (s.takeHolder level).picks = s.picks ∧ (s.takeHolder level).startingUp = s.startingUp ∧
    (s.takeHolder level).lockLine = s.lockLine ∧ (s.takeHolder level).settings = s.settings ∧
    (s.takeHolder level).ot = s.ot ∧ (s.takeHolder level).flc = s.flc ∧
    (s.takeHolder level).hau = s.hau ∧ (s.takeHolder level).esu = s.esu ∧
    (s.takeHolder level).cl = s.cl ∧ (s.takeHolder level).nvs = s.nvs ∧
    (s.takeHolder level).store = s.store := by
  unfold State.takeHolder; dsimp only; split <;> simp

@[simp] theorem State.followSource_frame (s : State) (src : Source) :
    (s.followSource src).pending = s.pending ∧ (s.followSource src).now = s.now ∧
    (s.followSource src).picks = s.picks ∧ (s.followSource src).startingUp = s.startingUp ∧
    (s.followSource src).lockLine = s.lockLine ∧ (s.followSource src).settings = s.settings ∧
    (s.followSource src).ot = s.ot ∧ (s.followSource src).ae = s.ae ∧ (s.followSource src).fs = s.fs ∧
    (s.followSource src).flc = s.flc ∧ (s.followSource src).hau = s.hau ∧
    (s.followSource src).esu = s.esu ∧ (s.followSource src).cl = s.cl ∧
    (s.followSource src).nvs = s.nvs ∧ (s.followSource src).store = s.store := by
  unfold State.followSource; dsimp only; split <;> simp

@[simp] theorem State.followHolder_frame (s : State) (old : Settings) :
    (s.followHolder old).pending = s.pending ∧ (s.followHolder old).now = s.now ∧
    (s.followHolder old).picks = s.picks ∧ (s.followHolder old).startingUp = s.startingUp ∧
    (s.followHolder old).lockLine = s.lockLine ∧ (s.followHolder old).settings = s.settings ∧
    (s.followHolder old).ot = s.ot ∧ (s.followHolder old).flc = s.flc ∧
    (s.followHolder old).hau = s.hau ∧ (s.followHolder old).esu = s.esu ∧
    (s.followHolder old).cl = s.cl ∧ (s.followHolder old).nvs = s.nvs ∧
    (s.followHolder old).store = s.store := by
  unfold State.followHolder; dsimp only; (repeat' split) <;> simp

@[simp] theorem State.supplyChange_frame (s : State) (old : Settings) :
    (s.supplyChange old).pending = s.pending ∧ (s.supplyChange old).now = s.now ∧
    (s.supplyChange old).picks = s.picks ∧ (s.supplyChange old).startingUp = s.startingUp ∧
    (s.supplyChange old).lockLine = s.lockLine ∧ (s.supplyChange old).settings = s.settings ∧
    (s.supplyChange old).ot = s.ot ∧ (s.supplyChange old).flc = s.flc ∧
    (s.supplyChange old).hau = s.hau ∧ (s.supplyChange old).esu = s.esu ∧
    (s.supplyChange old).cl = s.cl ∧ (s.supplyChange old).nvs = s.nvs ∧
    (s.supplyChange old).store = s.store := by
  simp [State.supplyChange]

@[simp] theorem State.takeHeat_frame (s : State) (i : Fin 64) (r : HeatReading) :
    (s.takeHeat i r).pending = s.pending ∧ (s.takeHeat i r).now = s.now ∧
    (s.takeHeat i r).picks = s.picks ∧ (s.takeHeat i r).startingUp = s.startingUp ∧
    (s.takeHeat i r).lockLine = s.lockLine ∧ (s.takeHeat i r).settings = s.settings ∧
    (s.takeHeat i r).sm = s.sm ∧ (s.takeHeat i r).ot = s.ot ∧ (s.takeHeat i r).ae = s.ae ∧
    (s.takeHeat i r).flc = s.flc ∧ (s.takeHeat i r).esu = s.esu ∧ (s.takeHeat i r).cl = s.cl ∧
    (s.takeHeat i r).nvs = s.nvs := by
  unfold State.takeHeat; (repeat' split) <;> simp

@[simp] theorem State.holdAccount_frame (s : State) (i : Fin 64) :
    (s.holdAccount i).pending = s.pending ∧ (s.holdAccount i).now = s.now ∧
    (s.holdAccount i).picks = s.picks ∧ (s.holdAccount i).startingUp = s.startingUp ∧
    (s.holdAccount i).lockLine = s.lockLine ∧ (s.holdAccount i).settings = s.settings ∧
    (s.holdAccount i).sm = s.sm ∧ (s.holdAccount i).ot = s.ot ∧ (s.holdAccount i).ae = s.ae ∧
    (s.holdAccount i).fs = s.fs ∧ (s.holdAccount i).flc = s.flc ∧ (s.holdAccount i).esu = s.esu ∧
    (s.holdAccount i).cl = s.cl ∧ (s.holdAccount i).nvs = s.nvs := by
  unfold State.holdAccount; (repeat' split) <;> simp

@[simp] theorem State.closeSlot_frame (s : State) (n : Nat) (i : Fin 64) :
    (State.closeSlot n s i).pending = s.pending ∧ (State.closeSlot n s i).now = s.now ∧
    (State.closeSlot n s i).picks = s.picks ∧ (State.closeSlot n s i).startingUp = s.startingUp ∧
    (State.closeSlot n s i).lockLine = s.lockLine ∧ (State.closeSlot n s i).settings = s.settings ∧
    (State.closeSlot n s i).sm = s.sm ∧ (State.closeSlot n s i).ot = s.ot ∧
    (State.closeSlot n s i).ae = s.ae ∧ (State.closeSlot n s i).flc = s.flc ∧
    (State.closeSlot n s i).esu = s.esu ∧ (State.closeSlot n s i).cl = s.cl ∧
    (State.closeSlot n s i).nvs = s.nvs := by
  unfold State.closeSlot; (repeat' split) <;> simp

@[simp] theorem State.projectPeriod_frame (s : State) (p : Period) :
    (s.projectPeriod p).pending = s.pending ∧ (s.projectPeriod p).now = s.now ∧
    (s.projectPeriod p).picks = s.picks ∧ (s.projectPeriod p).startingUp = s.startingUp ∧
    (s.projectPeriod p).lockLine = s.lockLine ∧ (s.projectPeriod p).settings = s.settings ∧
    (s.projectPeriod p).sm = s.sm ∧ (s.projectPeriod p).ae = s.ae ∧ (s.projectPeriod p).fs = s.fs ∧
    (s.projectPeriod p).flc = s.flc ∧ (s.projectPeriod p).hau = s.hau ∧ (s.projectPeriod p).cl = s.cl ∧
    (s.projectPeriod p).nvs = s.nvs ∧ (s.projectPeriod p).store = s.store := by
  unfold State.projectPeriod; split <;> simp

@[simp] theorem State.rejectReport_frame (s : State) (a : Nat) :
    (s.rejectReport a).pending = s.pending ∧ (s.rejectReport a).now = s.now ∧
    (s.rejectReport a).picks = s.picks ∧ (s.rejectReport a).startingUp = s.startingUp ∧
    (s.rejectReport a).lockLine = s.lockLine ∧ (s.rejectReport a).settings = s.settings ∧
    (s.rejectReport a).sm = s.sm ∧ (s.rejectReport a).ot = s.ot ∧ (s.rejectReport a).ae = s.ae ∧
    (s.rejectReport a).fs = s.fs ∧ (s.rejectReport a).hau = s.hau ∧ (s.rejectReport a).esu = s.esu ∧
    (s.rejectReport a).cl = s.cl ∧ (s.rejectReport a).nvs = s.nvs ∧ (s.rejectReport a).store = s.store := by
  simp [State.rejectReport]

@[simp] theorem State.takeExport_frame (s : State) (a r : Nat) :
    (s.takeExport a r).pending = s.pending ∧ (s.takeExport a r).now = s.now ∧
    (s.takeExport a r).picks = s.picks ∧ (s.takeExport a r).startingUp = s.startingUp ∧
    (s.takeExport a r).lockLine = s.lockLine ∧ (s.takeExport a r).settings = s.settings ∧
    (s.takeExport a r).sm = s.sm ∧ (s.takeExport a r).ae = s.ae ∧ (s.takeExport a r).fs = s.fs ∧
    (s.takeExport a r).hau = s.hau ∧ (s.takeExport a r).cl = s.cl ∧ (s.takeExport a r).nvs = s.nvs ∧
    (s.takeExport a r).store = s.store := by
  unfold State.takeExport; dsimp only; (repeat' split) <;> simp

@[simp] theorem State.closePeriod_frame (s : State) (p : Period) :
    (s.closePeriod p).pending = s.pending ∧ (s.closePeriod p).now = s.now ∧
    (s.closePeriod p).picks = s.picks ∧ (s.closePeriod p).startingUp = s.startingUp ∧
    (s.closePeriod p).lockLine = s.lockLine ∧ (s.closePeriod p).settings = s.settings ∧
    (s.closePeriod p).sm = s.sm ∧ (s.closePeriod p).ot = s.ot ∧ (s.closePeriod p).ae = s.ae ∧
    (s.closePeriod p).flc = s.flc ∧ (s.closePeriod p).hau = s.hau ∧ (s.closePeriod p).cl = s.cl ∧
    (s.closePeriod p).nvs = s.nvs ∧ (s.closePeriod p).store = s.store := by
  simp [State.closePeriod]

@[simp] theorem State.settlementChange_frame (s : State) (old : Settings) :
    (s.settlementChange old).pending = s.pending ∧ (s.settlementChange old).now = s.now ∧
    (s.settlementChange old).picks = s.picks ∧ (s.settlementChange old).startingUp = s.startingUp ∧
    (s.settlementChange old).lockLine = s.lockLine ∧ (s.settlementChange old).settings = s.settings ∧
    (s.settlementChange old).sm = s.sm ∧ (s.settlementChange old).ae = s.ae ∧
    (s.settlementChange old).fs = s.fs ∧ (s.settlementChange old).flc = s.flc ∧
    (s.settlementChange old).hau = s.hau ∧ (s.settlementChange old).cl = s.cl ∧
    (s.settlementChange old).nvs = s.nvs ∧ (s.settlementChange old).store = s.store := by
  unfold State.settlementChange; dsimp only; (repeat' split) <;> simp

@[simp] theorem State.handStale_frame (s : State) (a : Nat) :
    (s.handStale a).pending = s.pending ∧ (s.handStale a).now = s.now ∧ (s.handStale a).picks = s.picks ∧
    (s.handStale a).startingUp = s.startingUp ∧ (s.handStale a).lockLine = s.lockLine ∧
    (s.handStale a).settings = s.settings ∧ (s.handStale a).ot = s.ot ∧ (s.handStale a).ae = s.ae ∧
    (s.handStale a).flc = s.flc ∧ (s.handStale a).cl = s.cl ∧ (s.handStale a).nvs = s.nvs := by
  unfold State.handStale; split <;> simp

@[simp] theorem State.settleRole_frame (s : State) (role : Role) :
    (s.settleRole role).pending = s.pending ∧ (s.settleRole role).now = s.now ∧
    (s.settleRole role).picks = s.picks ∧ (s.settleRole role).startingUp = s.startingUp ∧
    (s.settleRole role).lockLine = s.lockLine ∧ (s.settleRole role).settings = s.settings ∧
    (s.settleRole role).sm = s.sm ∧ (s.settleRole role).ot = s.ot ∧ (s.settleRole role).flc = s.flc ∧
    (s.settleRole role).hau = s.hau ∧ (s.settleRole role).esu = s.esu ∧ (s.settleRole role).cl = s.cl ∧
    (s.settleRole role).nvs = s.nvs := by
  unfold State.settleRole; split <;> simp

@[simp] theorem State.turnStale_frame (s : State) (a : Nat) (r : StationRecord) :
    (s.turnStale a r).pending = s.pending ∧ (s.turnStale a r).now = s.now ∧
    (s.turnStale a r).picks = s.picks ∧ (s.turnStale a r).startingUp = s.startingUp ∧
    (s.turnStale a r).lockLine = s.lockLine ∧ (s.turnStale a r).settings = s.settings ∧
    (s.turnStale a r).ot = s.ot ∧ (s.turnStale a r).ae = s.ae ∧ (s.turnStale a r).cl = s.cl ∧
    (s.turnStale a r).nvs = s.nvs := by
  simp [State.turnStale]

@[simp] theorem State.makeStale_frame (s : State) (a : Nat) (r : StationRecord) :
    (s.makeStale a r).pending = s.pending ∧ (s.makeStale a r).now = s.now ∧
    (s.makeStale a r).picks = s.picks ∧ (s.makeStale a r).startingUp = s.startingUp ∧
    (s.makeStale a r).lockLine = s.lockLine ∧ (s.makeStale a r).settings = s.settings ∧
    (s.makeStale a r).ot = s.ot ∧ (s.makeStale a r).cl = s.cl ∧ (s.makeStale a r).nvs = s.nvs := by
  simp [State.makeStale]

@[simp] theorem State.enterMiss_frame (s : State) (a : Nat) (v : LastEvent) :
    (s.enterMiss a v).pending = s.pending ∧ (s.enterMiss a v).now = s.now ∧
    (s.enterMiss a v).picks = s.picks ∧ (s.enterMiss a v).startingUp = s.startingUp ∧
    (s.enterMiss a v).lockLine = s.lockLine ∧ (s.enterMiss a v).settings = s.settings ∧
    (s.enterMiss a v).ot = s.ot ∧ (s.enterMiss a v).cl = s.cl ∧ (s.enterMiss a v).nvs = s.nvs := by
  unfold State.enterMiss; dsimp only; split <;> simp

@[simp] theorem State.deliver_frame (s : State) (a : Nat) (b : Bool) (role : Role) (x : Reading) :
    (s.deliver a b role x).pending = s.pending ∧ (s.deliver a b role x).now = s.now ∧
    (s.deliver a b role x).picks = s.picks ∧ (s.deliver a b role x).startingUp = s.startingUp ∧
    (s.deliver a b role x).lockLine = s.lockLine ∧ (s.deliver a b role x).settings = s.settings ∧
    (s.deliver a b role x).cl = s.cl ∧ (s.deliver a b role x).nvs = s.nvs := by
  unfold State.deliver; (repeat' split) <;> simp

@[simp] theorem State.enterGood_frame (s : State) (a : Nat) (role : Role) (x : Reading) :
    (s.enterGood a role x).pending = s.pending ∧ (s.enterGood a role x).now = s.now ∧
    (s.enterGood a role x).picks = s.picks ∧ (s.enterGood a role x).startingUp = s.startingUp ∧
    (s.enterGood a role x).lockLine = s.lockLine ∧ (s.enterGood a role x).settings = s.settings ∧
    (s.enterGood a role x).cl = s.cl ∧ (s.enterGood a role x).nvs = s.nvs := by
  simp [State.enterGood]

@[simp] theorem State.enterUnbound_frame (s : State) (a : Nat) :
    (s.enterUnbound a).pending = s.pending ∧ (s.enterUnbound a).now = s.now ∧
    (s.enterUnbound a).picks = s.picks ∧ (s.enterUnbound a).startingUp = s.startingUp ∧
    (s.enterUnbound a).lockLine = s.lockLine ∧ (s.enterUnbound a).settings = s.settings ∧
    (s.enterUnbound a).sm = s.sm ∧ (s.enterUnbound a).ot = s.ot ∧ (s.enterUnbound a).ae = s.ae ∧
    (s.enterUnbound a).fs = s.fs ∧ (s.enterUnbound a).hau = s.hau ∧ (s.enterUnbound a).esu = s.esu ∧
    (s.enterUnbound a).cl = s.cl ∧ (s.enterUnbound a).nvs = s.nvs ∧ (s.enterUnbound a).store = s.store := by
  simp [State.enterUnbound]

@[simp] theorem State.takeReport_frame (s : State) (a : Nat) (r : Report) :
    (s.takeReport a r).pending = s.pending ∧ (s.takeReport a r).now = s.now ∧
    (s.takeReport a r).picks = s.picks ∧ (s.takeReport a r).startingUp = s.startingUp ∧
    (s.takeReport a r).lockLine = s.lockLine ∧ (s.takeReport a r).settings = s.settings ∧
    (s.takeReport a r).cl = s.cl ∧ (s.takeReport a r).nvs = s.nvs := by
  unfold State.takeReport; split <;> simp

@[simp] theorem State.walkTo_frame (s : State) (n : Nat) :
    (s.walkTo n).pending = s.pending ∧ (s.walkTo n).now = s.now ∧ (s.walkTo n).picks = s.picks ∧
    (s.walkTo n).startingUp = s.startingUp ∧ (s.walkTo n).lockLine = s.lockLine ∧
    (s.walkTo n).settings = s.settings ∧ (s.walkTo n).sm = s.sm ∧ (s.walkTo n).ot = s.ot ∧
    (s.walkTo n).ae = s.ae ∧ (s.walkTo n).fs = s.fs ∧ (s.walkTo n).hau = s.hau ∧
    (s.walkTo n).esu = s.esu ∧ (s.walkTo n).cl = s.cl ∧ (s.walkTo n).nvs = s.nvs ∧
    (s.walkTo n).store = s.store := by
  unfold State.walkTo; split <;> simp

@[simp] theorem State.beginPolling_frame (s : State) :
    (s.beginPolling).pending = s.pending ∧ (s.beginPolling).now = s.now ∧
    (s.beginPolling).picks = s.picks ∧ (s.beginPolling).startingUp = s.startingUp ∧
    (s.beginPolling).lockLine = s.lockLine ∧ (s.beginPolling).settings = s.settings ∧
    (s.beginPolling).sm = s.sm ∧ (s.beginPolling).ot = s.ot ∧ (s.beginPolling).ae = s.ae ∧
    (s.beginPolling).fs = s.fs ∧ (s.beginPolling).hau = s.hau ∧ (s.beginPolling).esu = s.esu ∧
    (s.beginPolling).cl = s.cl ∧ (s.beginPolling).nvs = s.nvs ∧ (s.beginPolling).store = s.store := by
  unfold State.beginPolling; split <;> simp

@[simp] theorem State.delist_frame (s : State) (a : Nat) :
    (s.delist a).pending = s.pending ∧ (s.delist a).now = s.now ∧ (s.delist a).picks = s.picks ∧
    (s.delist a).startingUp = s.startingUp ∧ (s.delist a).lockLine = s.lockLine ∧
    (s.delist a).settings = s.settings ∧ (s.delist a).ot = s.ot ∧ (s.delist a).ae = s.ae ∧
    (s.delist a).cl = s.cl ∧ (s.delist a).nvs = s.nvs := by
  unfold State.delist; split <;> simp

@[simp] theorem State.restartWalk_frame (s : State) :
    (s.restartWalk).pending = s.pending ∧ (s.restartWalk).now = s.now ∧ (s.restartWalk).picks = s.picks ∧
    (s.restartWalk).startingUp = s.startingUp ∧ (s.restartWalk).lockLine = s.lockLine ∧
    (s.restartWalk).settings = s.settings ∧ (s.restartWalk).sm = s.sm ∧ (s.restartWalk).ot = s.ot ∧
    (s.restartWalk).ae = s.ae ∧ (s.restartWalk).fs = s.fs ∧ (s.restartWalk).hau = s.hau ∧
    (s.restartWalk).esu = s.esu ∧ (s.restartWalk).cl = s.cl ∧ (s.restartWalk).nvs = s.nvs ∧
    (s.restartWalk).store = s.store := by
  unfold State.restartWalk; split <;> simp

@[simp] theorem State.engineChange_frame (s : State) (old : Settings) :
    (s.engineChange old).pending = s.pending ∧ (s.engineChange old).now = s.now ∧
    (s.engineChange old).picks = s.picks ∧ (s.engineChange old).startingUp = s.startingUp ∧
    (s.engineChange old).lockLine = s.lockLine ∧ (s.engineChange old).settings = s.settings ∧
    (s.engineChange old).sm = s.sm ∧ (s.engineChange old).ot = s.ot ∧ (s.engineChange old).fs = s.fs ∧
    (s.engineChange old).flc = s.flc ∧ (s.engineChange old).hau = s.hau ∧
    (s.engineChange old).esu = s.esu ∧ (s.engineChange old).cl = s.cl ∧
    (s.engineChange old).nvs = s.nvs ∧ (s.engineChange old).store = s.store := by
  unfold State.engineChange; dsimp only; (repeat' split) <;> simp

@[simp] theorem State.linkChange_frame (s : State) (old : Settings) :
    (s.linkChange old).pending = s.pending ∧ (s.linkChange old).now = s.now ∧
    (s.linkChange old).picks = s.picks ∧ (s.linkChange old).startingUp = s.startingUp ∧
    (s.linkChange old).lockLine = s.lockLine ∧ (s.linkChange old).settings = s.settings ∧
    (s.linkChange old).sm = s.sm ∧ (s.linkChange old).ot = s.ot ∧ (s.linkChange old).ae = s.ae ∧
    (s.linkChange old).fs = s.fs ∧ (s.linkChange old).flc = s.flc ∧ (s.linkChange old).hau = s.hau ∧
    (s.linkChange old).esu = s.esu ∧ (s.linkChange old).nvs = s.nvs ∧ (s.linkChange old).store = s.store := by
  unfold State.linkChange; split <;> simp

@[simp] theorem State.clearCondition_frame (s : State) :
    (s.clearCondition).pending = s.pending ∧ (s.clearCondition).now = s.now ∧
    (s.clearCondition).picks = s.picks ∧ (s.clearCondition).startingUp = s.startingUp ∧
    (s.clearCondition).lockLine = s.lockLine ∧ (s.clearCondition).settings = s.settings ∧
    (s.clearCondition).sm = s.sm ∧ (s.clearCondition).ot = s.ot ∧ (s.clearCondition).ae = s.ae ∧
    (s.clearCondition).fs = s.fs ∧ (s.clearCondition).hau = s.hau ∧ (s.clearCondition).esu = s.esu ∧
    (s.clearCondition).cl = s.cl ∧ (s.clearCondition).store = s.store := by
  simp [State.clearCondition]

@[simp] theorem State.completeSave_frame (s : State) (c : Settings) :
    (s.completeSave c).pending = s.pending ∧ (s.completeSave c).now = s.now ∧
    (s.completeSave c).picks = s.picks ∧ (s.completeSave c).startingUp = s.startingUp ∧
    (s.completeSave c).lockLine = s.lockLine ∧ (s.completeSave c).settings = s.settings ∧
    (s.completeSave c).sm = s.sm ∧ (s.completeSave c).ot = s.ot ∧ (s.completeSave c).ae = s.ae ∧
    (s.completeSave c).fs = s.fs ∧ (s.completeSave c).hau = s.hau ∧ (s.completeSave c).esu = s.esu ∧
    (s.completeSave c).cl = s.cl := by
  simp [State.completeSave]

@[simp] theorem State.leaveStandalone_frame (s : State) :
    (s.leaveStandalone).pending = s.pending ∧ (s.leaveStandalone).now = s.now ∧
    (s.leaveStandalone).picks = s.picks ∧ (s.leaveStandalone).startingUp = s.startingUp ∧
    (s.leaveStandalone).lockLine = s.lockLine ∧ (s.leaveStandalone).settings = s.settings ∧
    (s.leaveStandalone).sm = s.sm ∧ (s.leaveStandalone).ot = s.ot ∧ (s.leaveStandalone).fs = s.fs ∧
    (s.leaveStandalone).flc = s.flc ∧ (s.leaveStandalone).hau = s.hau ∧ (s.leaveStandalone).esu = s.esu ∧
    (s.leaveStandalone).nvs = s.nvs ∧ (s.leaveStandalone).store = s.store := by
  simp [State.leaveStandalone]

@[simp] theorem State.enterStandalone_frame (s : State) :
    (s.enterStandalone).pending = s.pending ∧ (s.enterStandalone).now = s.now ∧
    (s.enterStandalone).picks = s.picks ∧ (s.enterStandalone).startingUp = s.startingUp ∧
    (s.enterStandalone).lockLine = s.lockLine ∧ (s.enterStandalone).settings = s.settings ∧
    (s.enterStandalone).sm = s.sm ∧ (s.enterStandalone).flc = s.flc ∧ (s.enterStandalone).hau = s.hau ∧
    (s.enterStandalone).esu = s.esu ∧ (s.enterStandalone).nvs = s.nvs ∧
    (s.enterStandalone).store = s.store := by
  simp [State.enterStandalone]

@[simp] theorem State.discardFrame_frame (s : State) (c : ResultCode) :
    (s.discardFrame c).pending = s.pending ∧ (s.discardFrame c).now = s.now ∧
    (s.discardFrame c).picks = s.picks ∧ (s.discardFrame c).startingUp = s.startingUp ∧
    (s.discardFrame c).lockLine = s.lockLine ∧ (s.discardFrame c).settings = s.settings ∧
    (s.discardFrame c).sm = s.sm ∧ (s.discardFrame c).ot = s.ot ∧ (s.discardFrame c).ae = s.ae ∧
    (s.discardFrame c).flc = s.flc ∧ (s.discardFrame c).hau = s.hau ∧ (s.discardFrame c).esu = s.esu ∧
    (s.discardFrame c).nvs = s.nvs ∧ (s.discardFrame c).store = s.store := by
  unfold State.discardFrame; split <;> simp

@[simp] theorem State.loadGoodOfftake_frame (s : State) (i : Fin 48) :
    (s.loadGoodOfftake i).pending = s.pending ∧ (s.loadGoodOfftake i).now = s.now ∧
    (s.loadGoodOfftake i).picks = s.picks ∧ (s.loadGoodOfftake i).startingUp = s.startingUp ∧
    (s.loadGoodOfftake i).lockLine = s.lockLine ∧ (s.loadGoodOfftake i).settings = s.settings ∧
    (s.loadGoodOfftake i).sm = s.sm ∧ (s.loadGoodOfftake i).ae = s.ae ∧ (s.loadGoodOfftake i).fs = s.fs ∧
    (s.loadGoodOfftake i).flc = s.flc ∧ (s.loadGoodOfftake i).hau = s.hau ∧
    (s.loadGoodOfftake i).esu = s.esu ∧ (s.loadGoodOfftake i).cl = s.cl ∧
    (s.loadGoodOfftake i).nvs = s.nvs := by
  unfold State.loadGoodOfftake; dsimp only; (repeat' split) <;> simp

@[simp] theorem State.loadFailingOfftake_frame (s : State) (i : Fin 48) :
    (s.loadFailingOfftake i).pending = s.pending ∧ (s.loadFailingOfftake i).now = s.now ∧
    (s.loadFailingOfftake i).picks = s.picks ∧ (s.loadFailingOfftake i).startingUp = s.startingUp ∧
    (s.loadFailingOfftake i).lockLine = s.lockLine ∧ (s.loadFailingOfftake i).settings = s.settings ∧
    (s.loadFailingOfftake i).sm = s.sm ∧ (s.loadFailingOfftake i).ae = s.ae ∧
    (s.loadFailingOfftake i).flc = s.flc ∧ (s.loadFailingOfftake i).hau = s.hau ∧
    (s.loadFailingOfftake i).esu = s.esu ∧ (s.loadFailingOfftake i).cl = s.cl ∧
    (s.loadFailingOfftake i).nvs = s.nvs := by
  unfold State.loadFailingOfftake; dsimp only; split <;> simp

@[simp] theorem State.loadCounter_frame (s : State) :
    (s.loadCounter).pending = s.pending ∧ (s.loadCounter).now = s.now ∧ (s.loadCounter).picks = s.picks ∧
    (s.loadCounter).startingUp = s.startingUp ∧ (s.loadCounter).lockLine = s.lockLine ∧
    (s.loadCounter).settings = s.settings ∧ (s.loadCounter).sm = s.sm ∧ (s.loadCounter).ae = s.ae ∧
    (s.loadCounter).flc = s.flc ∧ (s.loadCounter).hau = s.hau ∧ (s.loadCounter).esu = s.esu ∧
    (s.loadCounter).cl = s.cl ∧ (s.loadCounter).nvs = s.nvs := by
  unfold State.loadCounter; dsimp only; (repeat' split) <;> simp

@[simp] theorem State.loadSettings_frame (s : State) :
    (s.loadSettings).pending = s.pending ∧ (s.loadSettings).now = s.now ∧
    (s.loadSettings).picks = s.picks ∧ (s.loadSettings).startingUp = s.startingUp ∧
    (s.loadSettings).lockLine = s.lockLine ∧ (s.loadSettings).sm = s.sm ∧ (s.loadSettings).ot = s.ot ∧
    (s.loadSettings).ae = s.ae ∧ (s.loadSettings).flc = s.flc ∧ (s.loadSettings).hau = s.hau ∧
    (s.loadSettings).esu = s.esu ∧ (s.loadSettings).cl = s.cl ∧ (s.loadSettings).store = s.store := by
  unfold State.loadSettings; split <;> simp

@[simp] theorem State.holdBand_frame (s : State) :
    (s.holdBand).pending = s.pending ∧ (s.holdBand).now = s.now ∧ (s.holdBand).picks = s.picks ∧
    (s.holdBand).startingUp = s.startingUp ∧ (s.holdBand).lockLine = s.lockLine ∧
    (s.holdBand).sm = s.sm ∧ (s.holdBand).ot = s.ot ∧ (s.holdBand).ae = s.ae ∧ (s.holdBand).fs = s.fs ∧
    (s.holdBand).flc = s.flc ∧ (s.holdBand).hau = s.hau ∧ (s.holdBand).esu = s.esu ∧
    (s.holdBand).cl = s.cl ∧ (s.holdBand).store = s.store := by
  unfold State.holdBand; dsimp only; split <;> simp

@[simp] theorem State.loadGoodAccount_frame (s : State) (i : Fin 64) :
    (s.loadGoodAccount i).pending = s.pending ∧ (s.loadGoodAccount i).now = s.now ∧
    (s.loadGoodAccount i).picks = s.picks ∧ (s.loadGoodAccount i).startingUp = s.startingUp ∧
    (s.loadGoodAccount i).lockLine = s.lockLine ∧ (s.loadGoodAccount i).settings = s.settings ∧
    (s.loadGoodAccount i).sm = s.sm ∧ (s.loadGoodAccount i).ot = s.ot ∧ (s.loadGoodAccount i).ae = s.ae ∧
    (s.loadGoodAccount i).fs = s.fs ∧ (s.loadGoodAccount i).flc = s.flc ∧
    (s.loadGoodAccount i).esu = s.esu ∧ (s.loadGoodAccount i).cl = s.cl ∧
    (s.loadGoodAccount i).nvs = s.nvs ∧ (s.loadGoodAccount i).store = s.store := by
  unfold State.loadGoodAccount; dsimp only; split <;> simp

@[simp] theorem State.loadFailingAccount_frame (s : State) (i : Fin 64) :
    (s.loadFailingAccount i).pending = s.pending ∧ (s.loadFailingAccount i).now = s.now ∧
    (s.loadFailingAccount i).picks = s.picks ∧ (s.loadFailingAccount i).startingUp = s.startingUp ∧
    (s.loadFailingAccount i).lockLine = s.lockLine ∧ (s.loadFailingAccount i).settings = s.settings ∧
    (s.loadFailingAccount i).sm = s.sm ∧ (s.loadFailingAccount i).ot = s.ot ∧
    (s.loadFailingAccount i).ae = s.ae ∧ (s.loadFailingAccount i).flc = s.flc ∧
    (s.loadFailingAccount i).esu = s.esu ∧ (s.loadFailingAccount i).cl = s.cl ∧
    (s.loadFailingAccount i).nvs = s.nvs := by
  unfold State.loadFailingAccount; dsimp only; split <;> simp

@[simp] theorem State.yieldRoles_frame (s : State) :
    (s.yieldRoles).pending = s.pending ∧ (s.yieldRoles).now = s.now ∧ (s.yieldRoles).picks = s.picks ∧
    (s.yieldRoles).startingUp = s.startingUp ∧ (s.yieldRoles).lockLine = s.lockLine ∧
    (s.yieldRoles).sm = s.sm ∧ (s.yieldRoles).ot = s.ot ∧ (s.yieldRoles).ae = s.ae ∧
    (s.yieldRoles).fs = s.fs ∧ (s.yieldRoles).flc = s.flc ∧ (s.yieldRoles).hau = s.hau ∧
    (s.yieldRoles).esu = s.esu ∧ (s.yieldRoles).cl = s.cl ∧ (s.yieldRoles).store = s.store := by
  unfold State.yieldRoles; dsimp only; split <;> simp

@[simp] theorem State.loadCloseNumber_frame (s : State) :
    (s.loadCloseNumber).pending = s.pending ∧ (s.loadCloseNumber).now = s.now ∧
    (s.loadCloseNumber).picks = s.picks ∧ (s.loadCloseNumber).startingUp = s.startingUp ∧
    (s.loadCloseNumber).lockLine = s.lockLine ∧ (s.loadCloseNumber).settings = s.settings ∧
    (s.loadCloseNumber).sm = s.sm ∧ (s.loadCloseNumber).ot = s.ot ∧ (s.loadCloseNumber).ae = s.ae ∧
    (s.loadCloseNumber).flc = s.flc ∧ (s.loadCloseNumber).esu = s.esu ∧ (s.loadCloseNumber).cl = s.cl ∧
    (s.loadCloseNumber).nvs = s.nvs := by
  unfold State.loadCloseNumber; dsimp only; split <;> simp

@[simp] theorem State.loadFlare_frame (s : State) :
    (s.loadFlare).pending = s.pending ∧ (s.loadFlare).now = s.now ∧ (s.loadFlare).picks = s.picks ∧
    (s.loadFlare).startingUp = s.startingUp ∧ (s.loadFlare).lockLine = s.lockLine ∧
    (s.loadFlare).settings = s.settings ∧ (s.loadFlare).sm = s.sm ∧ (s.loadFlare).ot = s.ot ∧
    (s.loadFlare).flc = s.flc ∧ (s.loadFlare).hau = s.hau ∧ (s.loadFlare).esu = s.esu ∧
    (s.loadFlare).cl = s.cl ∧ (s.loadFlare).nvs = s.nvs := by
  unfold State.loadFlare; dsimp only; split <;> simp

end Sys2Proof.Machine
end

