-- ==== Sys2Proof/Laws/Tables.lean ====
section
/-! SUPPORT. Reading a table after writing it: the slots of both tables, the stored records, the monitors,
the stations and the per-source and per-zone figures. -/

namespace Sys2Proof.Machine

theorem getElem_setAt {α : Type} {n : Nat} (v : Vector α n) (i j : Fin n) (x : α) :
    (setAt v i x)[j] = if i = j then x else v[j] := by
  simp [setAt, Vector.getElem_set, Fin.ext_iff]

theorem getElem_mapTable {α β : Type} {n : Nat} (f : α → β) (v : Vector α n) (i : Fin n) :
    (mapTable f v)[i] = f v[i] := by simp [mapTable]

@[simp] theorem PerSource.get_put_self {α : Type} (p : PerSource α) (src : Source) (x : α) :
    (p.put src x).get src = x := by cases src <;> rfl

theorem PerSource.get_put {α : Type} (p : PerSource α) (a b : Source) (x : α) :
    (p.put a x).get b = if a = b then x else p.get b := by cases a <;> cases b <;> rfl

@[simp] theorem PerZone.get_put_self {α : Type} (p : PerZone α) (z : Zone) (x : α) :
    (p.put z x).get z = x := by cases z <;> rfl

theorem PerZone.get_put {α : Type} (p : PerZone α) (a b : Zone) (x : α) :
    (p.put a x).get b = if a = b then x else p.get b := by cases a <;> cases b <;> rfl

/-! ## Offtake entries -/

theorem State.entry_setEntry (s : State) (i j : Fin 48) (e : Option Offtake) :
    (s.setEntry i e).entry j = if i = j then e else s.entry j := getElem_setAt _ i j e

theorem State.entry_writeEntry (s : State) (i j : Fin 48) (e : Option Offtake) :
    (s.writeEntry i e).entry j = if i = j then e else s.entry j := getElem_setAt _ i j e

/-- Two states with one table hold the same entries. -/
theorem State.entry_congr {s t : State} (h : t.ot = s.ot) (i : Fin 48) : t.entry i = s.entry i := by
  simp [State.entry, h]

theorem State.entry_mapBoosts (s : State) (f : Nat → Nat) (i : Fin 48) :
    (s.mapBoosts f).entry i = (s.entry i).map fun e =>
      if Use.isPower e.use && e.takesPart then { e with boost := f e.boost } else e :=
  getElem_mapTable _ s.ot.entries i

/-- What is found under a number stands in its slot and carries the number (R21). -/
theorem State.findOfftake_some {s : State} {n : Nat} {i : Fin 48} {e : Offtake}
    (h : s.findOfftake n = some (i, e)) : n ≠ 0 ∧ s.entry i = some e ∧ e.number = n := by
  unfold State.findOfftake at h
  split at h
  · cases h
  · obtain ⟨j, -, hj⟩ := List.exists_of_findSome?_eq_some h
    split at hj
    · next f hf =>
      split at hj
      · obtain ⟨rfl, rfl⟩ := by simpa using hj
        exact ⟨‹_›, hf, ‹_›⟩
      · cases hj
    · cases hj

/-- Nothing is found under a number that no entry carries, and 0 is carried by none (R21). -/
theorem State.findOfftake_none {s : State} {n : Nat} :
    s.findOfftake n = none ↔ n = 0 ∨ ∀ i, ∀ e ∈ s.entry i, e.number ≠ n := by
  unfold State.findOfftake
  split
  · simp [*]
  · simp only [slots48, List.findSome?_eq_none_iff, List.mem_finRange, forall_const, *, false_or]
    constructor
    · intro h i e he
      have := h i
      rw [Option.mem_def] at he
      simp_all
    · intro h i
      split
      · next e he => simp [h i e he]
      · rfl

/-! ## Accounts -/

theorem State.account_setAccount (s : State) (i j : Fin 64) (a : Option Account) :
    (s.setAccount i a).account j = if i = j then a else s.account j := getElem_setAt _ i j a

theorem State.account_writeAccount (s : State) (i j : Fin 64) (a : Option Account) :
    (s.writeAccount i a).account j = if i = j then a else s.account j := getElem_setAt _ i j a

theorem State.account_congr {s t : State} (h : t.hau = s.hau) (i : Fin 64) :
    t.account i = s.account i := by simp [State.account, h]

/-- What is found under an account number stands in its slot and carries the number (R115). -/
theorem State.findAccount_some {s : State} {n : Nat} {i : Fin 64} {a : Account}
    (h : s.findAccount n = some (i, a)) : n ≠ 0 ∧ s.account i = some a ∧ a.number = n := by
  unfold State.findAccount at h
  split at h
  · cases h
  · obtain ⟨j, -, hj⟩ := List.exists_of_findSome?_eq_some h
    split at hj
    · next f hf =>
      split at hj
      · obtain ⟨rfl, rfl⟩ := by simpa using hj
        exact ⟨‹_›, hf, ‹_›⟩
      · cases hj
    · cases hj

/-- An address is bound exactly when it is not 0 and a non-free account carries it (R101, R116). -/
theorem State.isBound_iff {s : State} {address : Nat} :
    s.isBound address = true ↔ address ≠ 0 ∧ ∃ i, ∃ a ∈ s.account i, a.station = address := by
  unfold State.isBound State.boundAccount
  split
  · simp [*]
  · simp only [slots64, List.findSome?_isSome_iff, List.mem_finRange, true_and, *, ne_eq,
      not_false_eq_true]
    constructor
    · rintro ⟨i, hi⟩
      split at hi
      · next a ha =>
        split at hi
        · exact ⟨i, a, ha, ‹_›⟩
        · cases hi
      · cases hi
    · rintro ⟨i, a, ha, h⟩
      rw [Option.mem_def] at ha
      exact ⟨i, by simp [ha, h]⟩

/-! ## Monitors and stations -/

theorem Monitor.index_injective {m n : Monitor} (h : m.index = n.index) : m = n := by
  rcases m with ⟨_ | _ | _, _ | _ | _ | _⟩ | _ | _ | _ <;>
    rcases n with ⟨_ | _ | _, _ | _ | _ | _⟩ | _ | _ | _ <;>
      first | rfl | exact absurd h (by decide)

theorem State.monitor_setMonitor (s : State) (m n : Monitor) (r : MonitorRecord) :
    (s.setMonitor m r).monitor n = if m = n then r else s.monitor n := by
  have := getElem_setAt s.fs.monitors m.index n.index r
  simp only [State.monitor, State.setMonitor] at this ⊢
  rw [this]
  by_cases h : m = n
  · rw [if_pos (by rw [h]), if_pos h]
  · rw [if_neg fun k => h (Monitor.index_injective k), if_neg h]

theorem State.monitor_congr {s t : State} (h : t.fs.monitors = s.fs.monitors) (m : Monitor) :
    t.monitor m = s.monitor m := by simp [State.monitor, h]

theorem State.station_setStation_self (s : State) {a : Nat} (r : StationRecord)
    (h : 1 ≤ a ∧ a ≤ 127) : (s.setStation a r).station a = r := by
  have h0 : a ≠ 0 := by omega
  have hl : a - 1 < 127 := by omega
  simp [State.station, State.setStation, setAt, h, h0, hl]

theorem State.station_setStation_ne (s : State) {a b : Nat} (r : StationRecord) (h : a ≠ b) :
    (s.setStation a r).station b = s.station b := by
  unfold State.setStation
  split
  · next ha =>
    simp only [State.station, setAt]
    split
    · rfl
    · have : a - 1 ≠ b - 1 := by omega
      simp [this]
  · rfl

/-! ## The figures that read the tables -/

theorem State.grantSum_congr {s t : State} (h : t.ot = s.ot) (src : Source) :
    t.grantSum src = s.grantSum src := by simp [State.grantSum, State.entry, h]

theorem State.anyHold_congr {s t : State} (h : t.fs.monitors = s.fs.monitors) (src : Source) :
    t.anyHold src = s.anyHold src := by simp [State.anyHold, State.monitor, h]

end Sys2Proof.Machine
end

