-- ==== Sys2Proof/Laws/Cases.lean ====
section
/-! SUPPORT. What each branching operation can do, once: a proof about one cites these and never unfolds
it. -/

namespace Sys2Proof.Machine

/-- Settling a source: nothing, a withdrawal handed to the engine, or a readmission with its request
(R87). -/
theorem State.settle_cases (s : State) (src : Source) :
    ((s.fs.admission.get src = .withdrawn ↔ s.anyHold src = true) ∧ s.settle src = s) ∨
    (s.fs.admission.get src = .admitted ∧ s.anyHold src = true ∧
      s.settle src = (s.setAdmission src .withdrawn).withdrawalAtEngine) ∨
    (s.fs.admission.get src = .withdrawn ∧ s.anyHold src = false ∧
      s.settle src = (s.setAdmission src .admitted).requestRun) := by
  unfold State.settle
  cases s.fs.admission.get src <;> cases s.anyHold src <;> simp

/-- A withdrawal at the engine: discarded, a run started, or the run in flight aborted and a new one
started (R49, R72). -/
theorem State.withdrawalAtEngine_cases (s : State) :
    (s.nvs.settingsFault = true ∧ s.withdrawalAtEngine = s) ∨
    (s.nvs.settingsFault = false ∧ s.ae.run = none ∧ s.withdrawalAtEngine = s.startRun) ∨
    (s.nvs.settingsFault = false ∧ s.ae.run.isSome = true ∧ s.withdrawalAtEngine =
      State.startRun { s.abortRun with ae := { s.abortRun.ae with rerunPending := false } }) := by
  unfold State.withdrawalAtEngine
  cases s.nvs.settingsFault <;> cases h : s.ae.run <;> simp

/-- A miss: the station becomes STALE, or only its record changes (R103). -/
theorem State.enterMiss_cases (s : State) (a : Nat) (v : LastEvent) :
    (((s.station a).state ≠ .stale ∧ s.settings.staleThreshold ≤ bump 255 (s.station a).misses) ∧
      s.enterMiss a v = s.makeStale a ((s.station a).missed v)) ∨
    (¬ ((s.station a).state ≠ .stale ∧ s.settings.staleThreshold ≤ bump 255 (s.station a).misses) ∧
      s.enterMiss a v = s.setStation a ((s.station a).missed v)) := by
  by_cases h : (s.station a).state ≠ .stale ∧ s.settings.staleThreshold ≤ bump 255 (s.station a).misses
  · exact .inl ⟨h, if_pos h⟩
  · exact .inr ⟨h, if_neg h⟩

/-- A complete report is taken, discarded as UNBOUND, or a miss, by its verdict (R102 to R105). -/
theorem State.takeReport_cases (s : State) (a : Nat) (r : Report) :
    (∃ role x, s.judge a r = .good role x ∧ s.takeReport a r = s.enterGood a role x) ∨
    (s.judge a r = .unbound ∧ s.takeReport a r = s.enterUnbound a) ∨
    (∃ v, s.judge a r = .miss v ∧ s.takeReport a r = s.enterMiss a v) := by
  unfold State.takeReport
  cases h : s.judge a r with
  | good role x => exact .inl ⟨role, x, rfl, rfl⟩
  | unbound => exact .inr (.inl ⟨rfl, rfl⟩)
  | miss v => exact .inr (.inr ⟨v, rfl, rfl⟩)

/-- A change to STALE reaches the owner of the station's role, or nobody (R106). -/
theorem State.handStale_cases (s : State) (a : Nat) :
    (∃ src, s.role a = .gas src ∧
      s.handStale a = (s.holdSource src).evaluate (.gas src .stale) true) ∨
    (s.role a = .holder ∧ s.handStale a = s.holdHolder.evaluate .holderStale true) ∨
    (s.role a = .export_ ∧ s.handStale a = s.meterSilent) ∨
    (∃ i, s.role a = .heat i ∧ s.handStale a = s.holdAccount i) ∨
    (s.role a = .unbound ∧ s.handStale a = s) := by
  unfold State.handStale
  cases s.role a <;> simp

/-- A role settles the admission of the source it acts on, or of none (R80, R87). -/
theorem State.settleRole_cases (s : State) (role : Role) :
    (∃ src, (role = .gas src ∨ role = .holder ∧ src = .cvg) ∧ s.settleRole role = s.settle src) ∨
    ((∀ src, role ≠ .gas src) ∧ role ≠ .holder ∧ s.settleRole role = s) := by
  unfold State.settleRole
  cases role <;> simp

/-- A reading billed, rejected or ignored: what a heat reading writes (R118). -/
theorem State.takeHeat_cases (s : State) (i : Fin 64) (r : HeatReading) :
    s.takeHeat i r = s ∨
    ∃ a b marked, s.account i = some a ∧ a.takeReading r (s.ae.coverage.get a.zone) = some (b, marked) ∧
      s.takeHeat i r = (s.writeAccount i (some b)).raiseIf marked .accountEvent := by
  unfold State.takeHeat
  split
  · exact .inl rfl
  · next a ha =>
    split
    · exact .inl rfl
    · next b marked h => exact .inr ⟨a, b, marked, ha, h, rfl⟩

/-- A participant is published to, unless it has the released mark or its slot is empty (R59). -/
theorem State.publishPart_cases (s : State) (n : Nat) (p : RunPart) :
    ((p.released = true ∨ s.entry p.slot = none) ∧ s.publishPart n p = s) ∨
    ∃ e, p.released = false ∧ s.entry p.slot = some e ∧
      ((e.state = .pending ∧ s.publishPart n p = s.writeEntry p.slot (some (e.published p n))) ∨
       (e.state ≠ .pending ∧ s.publishPart n p = s.setEntry p.slot (some (e.published p n)))) := by
  unfold State.publishPart
  cases p.released
  · cases h : s.entry p.slot with
    | none => simp
    | some e => by_cases k : e.state = .pending <;> simp [k]
  · simp

/-- Freeing slots: those named are empty after it, the others stand (R60). -/
theorem State.entry_freeSlots (s : State) (is : List (Fin 48)) (j : Fin 48) :
    (s.freeSlots is).entry j = if j ∈ is then none else s.entry j := by
  unfold State.freeSlots
  induction is generalizing s with
  | nil => simp
  | cons i is ih =>
    rw [List.foldl_cons, ih, State.entry_writeEntry]
    by_cases h : i = j
    · simp [h]
    · simp [h, Ne.symm h]

/-- What the last-inserted run part does to the service order: nothing is lost and nothing is new. -/
theorem mem_inServiceOrder (p : RunPart) (ps : List RunPart) : p ∈ inServiceOrder ps ↔ p ∈ ps := by
  have ins (a : RunPart) (l : List RunPart) : p ∈ insertPart a l ↔ p = a ∨ p ∈ l := by
    induction l with
    | nil => simp [insertPart]
    | cons b l ih =>
      unfold insertPart
      split
      · simp
      · simp only [List.mem_cons, ih]; tauto
  unfold inServiceOrder
  induction ps with
  | nil => simp
  | cons a ps ih => simp only [List.foldr_cons, ins, List.mem_cons, ih]

end Sys2Proof.Machine
end

