-- ==== Sys2Proof/Laws/Folds.lean ====
section
/-! SUPPORT. The frame of each operation that goes through a list of slots, parts, monitors or stations. -/

namespace Sys2Proof.Machine

/-- What one step of a fold leaves alone, the whole fold leaves alone. -/
theorem foldl_same {α β γ : Type} {f : β → α → β} (g : β → γ) (h : ∀ b a, g (f b a) = g b) (l : List α)
    (b : β) : g (l.foldl f b) = g b := by
  induction l generalizing b with
  | nil => rfl
  | cons a l ih => rw [List.foldl_cons, ih, h]

@[simp] theorem State.freeSlots_frame (s : State) (is : List (Fin 48)) :
    (s.freeSlots is).pending = s.pending ∧ (s.freeSlots is).now = s.now ∧
    (s.freeSlots is).picks = s.picks ∧ (s.freeSlots is).startingUp = s.startingUp ∧
    (s.freeSlots is).lockLine = s.lockLine ∧ (s.freeSlots is).settings = s.settings ∧
    (s.freeSlots is).sm = s.sm ∧ (s.freeSlots is).ae = s.ae ∧ (s.freeSlots is).fs = s.fs ∧
    (s.freeSlots is).flc = s.flc ∧ (s.freeSlots is).hau = s.hau ∧ (s.freeSlots is).esu = s.esu ∧
    (s.freeSlots is).cl = s.cl ∧ (s.freeSlots is).nvs = s.nvs :=
  ⟨foldl_same State.pending (by intros; simp) _ _,
   foldl_same State.now (by intros; simp) _ _,
   foldl_same State.picks (by intros; simp) _ _,
   foldl_same State.startingUp (by intros; simp) _ _,
   foldl_same State.lockLine (by intros; simp) _ _,
   foldl_same State.settings (by intros; simp) _ _,
   foldl_same State.sm (by intros; simp) _ _,
   foldl_same State.ae (by intros; simp) _ _,
   foldl_same State.fs (by intros; simp) _ _,
   foldl_same State.flc (by intros; simp) _ _,
   foldl_same State.hau (by intros; simp) _ _,
   foldl_same State.esu (by intros; simp) _ _,
   foldl_same State.cl (by intros; simp) _ _,
   foldl_same State.nvs (by intros; simp) _ _⟩

@[simp] theorem State.publishParts_frame (s : State) (n : Nat) (ps : List RunPart) :
    (ps.foldl (fun t p => t.publishPart n p) s).pending = s.pending ∧
    (ps.foldl (fun t p => t.publishPart n p) s).now = s.now ∧
    (ps.foldl (fun t p => t.publishPart n p) s).picks = s.picks ∧
    (ps.foldl (fun t p => t.publishPart n p) s).startingUp = s.startingUp ∧
    (ps.foldl (fun t p => t.publishPart n p) s).lockLine = s.lockLine ∧
    (ps.foldl (fun t p => t.publishPart n p) s).settings = s.settings ∧
    (ps.foldl (fun t p => t.publishPart n p) s).sm = s.sm ∧
    (ps.foldl (fun t p => t.publishPart n p) s).ae = s.ae ∧
    (ps.foldl (fun t p => t.publishPart n p) s).fs = s.fs ∧
    (ps.foldl (fun t p => t.publishPart n p) s).flc = s.flc ∧
    (ps.foldl (fun t p => t.publishPart n p) s).hau = s.hau ∧
    (ps.foldl (fun t p => t.publishPart n p) s).esu = s.esu ∧
    (ps.foldl (fun t p => t.publishPart n p) s).cl = s.cl ∧
    (ps.foldl (fun t p => t.publishPart n p) s).nvs = s.nvs :=
  ⟨foldl_same State.pending (by intros; simp) _ _,
   foldl_same State.now (by intros; simp) _ _,
   foldl_same State.picks (by intros; simp) _ _,
   foldl_same State.startingUp (by intros; simp) _ _,
   foldl_same State.lockLine (by intros; simp) _ _,
   foldl_same State.settings (by intros; simp) _ _,
   foldl_same State.sm (by intros; simp) _ _,
   foldl_same State.ae (by intros; simp) _ _,
   foldl_same State.fs (by intros; simp) _ _,
   foldl_same State.flc (by intros; simp) _ _,
   foldl_same State.hau (by intros; simp) _ _,
   foldl_same State.esu (by intros; simp) _ _,
   foldl_same State.cl (by intros; simp) _ _,
   foldl_same State.nvs (by intros; simp) _ _⟩

@[simp] theorem State.completeRun_frame (s : State) (r : Run) :
    (s.completeRun r).pending = s.pending ∧ (s.completeRun r).now = s.now ∧
    (s.completeRun r).picks = s.picks ∧ (s.completeRun r).startingUp = s.startingUp ∧
    (s.completeRun r).lockLine = s.lockLine ∧ (s.completeRun r).settings = s.settings ∧
    (s.completeRun r).sm = s.sm ∧ (s.completeRun r).flc = s.flc ∧ (s.completeRun r).hau = s.hau ∧
    (s.completeRun r).esu = s.esu ∧ (s.completeRun r).cl = s.cl ∧ (s.completeRun r).nvs = s.nvs := by
  simp [State.completeRun, State.settleFigures]

@[simp] theorem State.clearMonitors_frame (s : State) (ms : List Monitor) :
    (ms.foldl State.clearMonitor s).pending = s.pending ∧ (ms.foldl State.clearMonitor s).now = s.now ∧
    (ms.foldl State.clearMonitor s).picks = s.picks ∧
    (ms.foldl State.clearMonitor s).startingUp = s.startingUp ∧
    (ms.foldl State.clearMonitor s).lockLine = s.lockLine ∧
    (ms.foldl State.clearMonitor s).settings = s.settings ∧ (ms.foldl State.clearMonitor s).sm = s.sm ∧
    (ms.foldl State.clearMonitor s).ot = s.ot ∧ (ms.foldl State.clearMonitor s).ae = s.ae ∧
    (ms.foldl State.clearMonitor s).flc = s.flc ∧ (ms.foldl State.clearMonitor s).hau = s.hau ∧
    (ms.foldl State.clearMonitor s).esu = s.esu ∧ (ms.foldl State.clearMonitor s).cl = s.cl ∧
    (ms.foldl State.clearMonitor s).nvs = s.nvs ∧ (ms.foldl State.clearMonitor s).store = s.store :=
  ⟨foldl_same State.pending (by intros; simp) _ _,
   foldl_same State.now (by intros; simp) _ _,
   foldl_same State.picks (by intros; simp) _ _,
   foldl_same State.startingUp (by intros; simp) _ _,
   foldl_same State.lockLine (by intros; simp) _ _,
   foldl_same State.settings (by intros; simp) _ _,
   foldl_same State.sm (by intros; simp) _ _,
   foldl_same State.ot (by intros; simp) _ _,
   foldl_same State.ae (by intros; simp) _ _,
   foldl_same State.flc (by intros; simp) _ _,
   foldl_same State.hau (by intros; simp) _ _,
   foldl_same State.esu (by intros; simp) _ _,
   foldl_same State.cl (by intros; simp) _ _,
   foldl_same State.nvs (by intros; simp) _ _,
   foldl_same State.store (by intros; simp) _ _⟩

@[simp] theorem State.delistGone_frame (s : State) (old : List Nat) :
    (s.delistGone old).pending = s.pending ∧ (s.delistGone old).now = s.now ∧
    (s.delistGone old).picks = s.picks ∧ (s.delistGone old).startingUp = s.startingUp ∧
    (s.delistGone old).lockLine = s.lockLine ∧ (s.delistGone old).settings = s.settings ∧
    (s.delistGone old).ot = s.ot ∧ (s.delistGone old).ae = s.ae ∧ (s.delistGone old).cl = s.cl ∧
    (s.delistGone old).nvs = s.nvs :=
  ⟨foldl_same State.pending (by intros; simp) _ _,
   foldl_same State.now (by intros; simp) _ _,
   foldl_same State.picks (by intros; simp) _ _,
   foldl_same State.startingUp (by intros; simp) _ _,
   foldl_same State.lockLine (by intros; simp) _ _,
   foldl_same State.settings (by intros; simp) _ _,
   foldl_same State.ot (by intros; simp) _ _,
   foldl_same State.ae (by intros; simp) _ _,
   foldl_same State.cl (by intros; simp) _ _,
   foldl_same State.nvs (by intros; simp) _ _⟩

@[simp] theorem State.closeSlots_frame (s : State) (n : Nat) (is : List (Fin 64)) :
    (is.foldl (State.closeSlot n) s).pending = s.pending ∧
    (is.foldl (State.closeSlot n) s).now = s.now ∧ (is.foldl (State.closeSlot n) s).picks = s.picks ∧
    (is.foldl (State.closeSlot n) s).startingUp = s.startingUp ∧
    (is.foldl (State.closeSlot n) s).lockLine = s.lockLine ∧
    (is.foldl (State.closeSlot n) s).settings = s.settings ∧
    (is.foldl (State.closeSlot n) s).sm = s.sm ∧ (is.foldl (State.closeSlot n) s).ot = s.ot ∧
    (is.foldl (State.closeSlot n) s).ae = s.ae ∧ (is.foldl (State.closeSlot n) s).flc = s.flc ∧
    (is.foldl (State.closeSlot n) s).esu = s.esu ∧ (is.foldl (State.closeSlot n) s).cl = s.cl ∧
    (is.foldl (State.closeSlot n) s).nvs = s.nvs :=
  ⟨foldl_same State.pending (by intros; simp) _ _,
   foldl_same State.now (by intros; simp) _ _,
   foldl_same State.picks (by intros; simp) _ _,
   foldl_same State.startingUp (by intros; simp) _ _,
   foldl_same State.lockLine (by intros; simp) _ _,
   foldl_same State.settings (by intros; simp) _ _,
   foldl_same State.sm (by intros; simp) _ _,
   foldl_same State.ot (by intros; simp) _ _,
   foldl_same State.ae (by intros; simp) _ _,
   foldl_same State.flc (by intros; simp) _ _,
   foldl_same State.esu (by intros; simp) _ _,
   foldl_same State.cl (by intros; simp) _ _,
   foldl_same State.nvs (by intros; simp) _ _⟩

@[simp] theorem State.loadGoodOfftakes_frame (s : State) (is : List (Fin 48)) :
    (is.foldl State.loadGoodOfftake s).pending = s.pending ∧
    (is.foldl State.loadGoodOfftake s).now = s.now ∧
    (is.foldl State.loadGoodOfftake s).picks = s.picks ∧
    (is.foldl State.loadGoodOfftake s).startingUp = s.startingUp ∧
    (is.foldl State.loadGoodOfftake s).lockLine = s.lockLine ∧
    (is.foldl State.loadGoodOfftake s).settings = s.settings ∧
    (is.foldl State.loadGoodOfftake s).sm = s.sm ∧ (is.foldl State.loadGoodOfftake s).ae = s.ae ∧
    (is.foldl State.loadGoodOfftake s).fs = s.fs ∧ (is.foldl State.loadGoodOfftake s).flc = s.flc ∧
    (is.foldl State.loadGoodOfftake s).hau = s.hau ∧ (is.foldl State.loadGoodOfftake s).esu = s.esu ∧
    (is.foldl State.loadGoodOfftake s).cl = s.cl ∧ (is.foldl State.loadGoodOfftake s).nvs = s.nvs :=
  ⟨foldl_same State.pending (by intros; simp) _ _,
   foldl_same State.now (by intros; simp) _ _,
   foldl_same State.picks (by intros; simp) _ _,
   foldl_same State.startingUp (by intros; simp) _ _,
   foldl_same State.lockLine (by intros; simp) _ _,
   foldl_same State.settings (by intros; simp) _ _,
   foldl_same State.sm (by intros; simp) _ _,
   foldl_same State.ae (by intros; simp) _ _,
   foldl_same State.fs (by intros; simp) _ _,
   foldl_same State.flc (by intros; simp) _ _,
   foldl_same State.hau (by intros; simp) _ _,
   foldl_same State.esu (by intros; simp) _ _,
   foldl_same State.cl (by intros; simp) _ _,
   foldl_same State.nvs (by intros; simp) _ _⟩

@[simp] theorem State.loadFailingOfftakes_frame (s : State) (is : List (Fin 48)) :
    (is.foldl State.loadFailingOfftake s).pending = s.pending ∧
    (is.foldl State.loadFailingOfftake s).now = s.now ∧
    (is.foldl State.loadFailingOfftake s).picks = s.picks ∧
    (is.foldl State.loadFailingOfftake s).startingUp = s.startingUp ∧
    (is.foldl State.loadFailingOfftake s).lockLine = s.lockLine ∧
    (is.foldl State.loadFailingOfftake s).settings = s.settings ∧
    (is.foldl State.loadFailingOfftake s).sm = s.sm ∧ (is.foldl State.loadFailingOfftake s).ae = s.ae ∧
    (is.foldl State.loadFailingOfftake s).flc = s.flc ∧
    (is.foldl State.loadFailingOfftake s).hau = s.hau ∧
    (is.foldl State.loadFailingOfftake s).esu = s.esu ∧
    (is.foldl State.loadFailingOfftake s).cl = s.cl ∧ (is.foldl State.loadFailingOfftake s).nvs = s.nvs :=
  ⟨foldl_same State.pending (by intros; simp) _ _,
   foldl_same State.now (by intros; simp) _ _,
   foldl_same State.picks (by intros; simp) _ _,
   foldl_same State.startingUp (by intros; simp) _ _,
   foldl_same State.lockLine (by intros; simp) _ _,
   foldl_same State.settings (by intros; simp) _ _,
   foldl_same State.sm (by intros; simp) _ _,
   foldl_same State.ae (by intros; simp) _ _,
   foldl_same State.flc (by intros; simp) _ _,
   foldl_same State.hau (by intros; simp) _ _,
   foldl_same State.esu (by intros; simp) _ _,
   foldl_same State.cl (by intros; simp) _ _,
   foldl_same State.nvs (by intros; simp) _ _⟩

@[simp] theorem State.loadOfftakes_frame (s : State) :
    (s.loadOfftakes).pending = s.pending ∧ (s.loadOfftakes).now = s.now ∧
    (s.loadOfftakes).picks = s.picks ∧ (s.loadOfftakes).startingUp = s.startingUp ∧
    (s.loadOfftakes).lockLine = s.lockLine ∧ (s.loadOfftakes).settings = s.settings ∧
    (s.loadOfftakes).sm = s.sm ∧ (s.loadOfftakes).ae = s.ae ∧ (s.loadOfftakes).flc = s.flc ∧
    (s.loadOfftakes).hau = s.hau ∧ (s.loadOfftakes).esu = s.esu ∧ (s.loadOfftakes).cl = s.cl ∧
    (s.loadOfftakes).nvs = s.nvs := by
  simp [State.loadOfftakes]

@[simp] theorem State.loadGoodAccounts_frame (s : State) (is : List (Fin 64)) :
    (is.foldl State.loadGoodAccount s).pending = s.pending ∧
    (is.foldl State.loadGoodAccount s).now = s.now ∧
    (is.foldl State.loadGoodAccount s).picks = s.picks ∧
    (is.foldl State.loadGoodAccount s).startingUp = s.startingUp ∧
    (is.foldl State.loadGoodAccount s).lockLine = s.lockLine ∧
    (is.foldl State.loadGoodAccount s).settings = s.settings ∧
    (is.foldl State.loadGoodAccount s).sm = s.sm ∧ (is.foldl State.loadGoodAccount s).ot = s.ot ∧
    (is.foldl State.loadGoodAccount s).ae = s.ae ∧ (is.foldl State.loadGoodAccount s).fs = s.fs ∧
    (is.foldl State.loadGoodAccount s).flc = s.flc ∧ (is.foldl State.loadGoodAccount s).esu = s.esu ∧
    (is.foldl State.loadGoodAccount s).cl = s.cl ∧ (is.foldl State.loadGoodAccount s).nvs = s.nvs ∧
    (is.foldl State.loadGoodAccount s).store = s.store :=
  ⟨foldl_same State.pending (by intros; simp) _ _,
   foldl_same State.now (by intros; simp) _ _,
   foldl_same State.picks (by intros; simp) _ _,
   foldl_same State.startingUp (by intros; simp) _ _,
   foldl_same State.lockLine (by intros; simp) _ _,
   foldl_same State.settings (by intros; simp) _ _,
   foldl_same State.sm (by intros; simp) _ _,
   foldl_same State.ot (by intros; simp) _ _,
   foldl_same State.ae (by intros; simp) _ _,
   foldl_same State.fs (by intros; simp) _ _,
   foldl_same State.flc (by intros; simp) _ _,
   foldl_same State.esu (by intros; simp) _ _,
   foldl_same State.cl (by intros; simp) _ _,
   foldl_same State.nvs (by intros; simp) _ _,
   foldl_same State.store (by intros; simp) _ _⟩

@[simp] theorem State.loadFailingAccounts_frame (s : State) (is : List (Fin 64)) :
    (is.foldl State.loadFailingAccount s).pending = s.pending ∧
    (is.foldl State.loadFailingAccount s).now = s.now ∧
    (is.foldl State.loadFailingAccount s).picks = s.picks ∧
    (is.foldl State.loadFailingAccount s).startingUp = s.startingUp ∧
    (is.foldl State.loadFailingAccount s).lockLine = s.lockLine ∧
    (is.foldl State.loadFailingAccount s).settings = s.settings ∧
    (is.foldl State.loadFailingAccount s).sm = s.sm ∧ (is.foldl State.loadFailingAccount s).ot = s.ot ∧
    (is.foldl State.loadFailingAccount s).ae = s.ae ∧
    (is.foldl State.loadFailingAccount s).flc = s.flc ∧
    (is.foldl State.loadFailingAccount s).esu = s.esu ∧
    (is.foldl State.loadFailingAccount s).cl = s.cl ∧ (is.foldl State.loadFailingAccount s).nvs = s.nvs :=
  ⟨foldl_same State.pending (by intros; simp) _ _,
   foldl_same State.now (by intros; simp) _ _,
   foldl_same State.picks (by intros; simp) _ _,
   foldl_same State.startingUp (by intros; simp) _ _,
   foldl_same State.lockLine (by intros; simp) _ _,
   foldl_same State.settings (by intros; simp) _ _,
   foldl_same State.sm (by intros; simp) _ _,
   foldl_same State.ot (by intros; simp) _ _,
   foldl_same State.ae (by intros; simp) _ _,
   foldl_same State.flc (by intros; simp) _ _,
   foldl_same State.esu (by intros; simp) _ _,
   foldl_same State.cl (by intros; simp) _ _,
   foldl_same State.nvs (by intros; simp) _ _⟩

@[simp] theorem State.loadAccounts_frame (s : State) :
    (s.loadAccounts).pending = s.pending ∧ (s.loadAccounts).now = s.now ∧
    (s.loadAccounts).picks = s.picks ∧ (s.loadAccounts).startingUp = s.startingUp ∧
    (s.loadAccounts).lockLine = s.lockLine ∧ (s.loadAccounts).sm = s.sm ∧ (s.loadAccounts).ot = s.ot ∧
    (s.loadAccounts).ae = s.ae ∧ (s.loadAccounts).flc = s.flc ∧ (s.loadAccounts).esu = s.esu ∧
    (s.loadAccounts).cl = s.cl := by
  simp [State.loadAccounts]

/-- What no re-evaluation and no mode change changes, the supervisor's share of a settings change
leaves alone. -/
theorem State.superviseChange_same {γ : Type} (g : State → γ) (h1 : ∀ t src, g (State.reevaluateGas t src) = g t)
    (h2 : ∀ t, g (State.reevaluateHolder t) = g t) (h3 : ∀ t m, g (State.changeMode t m) = g t) (s : State)
    (old : Settings) :
    g (s.superviseChange old) = g s := by
  have hg : g (Source.all.foldl (fun t src =>
      if t.settings.roles.gas.get src ≠ old.roles.gas.get src then t.reevaluateGas src else t) s) = g s :=
    foldl_same g (fun t src => by split <;> simp [h1]) _ _
  simp only [State.superviseChange]
  rw [foldl_same g (fun t m => by split <;> simp [h3])]
  split
  · rw [h2, hg]
  · exact hg

@[simp] theorem State.superviseChange_frame (s : State) (old : Settings) :
    (s.superviseChange old).pending = s.pending ∧ (s.superviseChange old).now = s.now ∧
    (s.superviseChange old).picks = s.picks ∧ (s.superviseChange old).startingUp = s.startingUp ∧
    (s.superviseChange old).lockLine = s.lockLine ∧ (s.superviseChange old).settings = s.settings ∧
    (s.superviseChange old).sm = s.sm ∧ (s.superviseChange old).ot = s.ot ∧
    (s.superviseChange old).ae = s.ae ∧ (s.superviseChange old).store = s.store ∧
    (s.superviseChange old).flc = s.flc ∧ (s.superviseChange old).hau = s.hau ∧
    (s.superviseChange old).esu = s.esu ∧ (s.superviseChange old).cl = s.cl ∧
    (s.superviseChange old).nvs = s.nvs :=
  ⟨State.superviseChange_same State.pending (by simp) (by simp) (by simp) s old,
   State.superviseChange_same State.now (by simp) (by simp) (by simp) s old,
   State.superviseChange_same State.picks (by simp) (by simp) (by simp) s old,
   State.superviseChange_same State.startingUp (by simp) (by simp) (by simp) s old,
   State.superviseChange_same State.lockLine (by simp) (by simp) (by simp) s old,
   State.superviseChange_same State.settings (by simp) (by simp) (by simp) s old,
   State.superviseChange_same State.sm (by simp) (by simp) (by simp) s old,
   State.superviseChange_same State.ot (by simp) (by simp) (by simp) s old,
   State.superviseChange_same State.ae (by simp) (by simp) (by simp) s old,
   State.superviseChange_same State.store (by simp) (by simp) (by simp) s old,
   State.superviseChange_same State.flc (by simp) (by simp) (by simp) s old,
   State.superviseChange_same State.hau (by simp) (by simp) (by simp) s old,
   State.superviseChange_same State.esu (by simp) (by simp) (by simp) s old,
   State.superviseChange_same State.cl (by simp) (by simp) (by simp) s old,
   State.superviseChange_same State.nvs (by simp) (by simp) (by simp) s old⟩

@[simp] theorem State.applySettings_frame (s : State) (new : Settings) :
    (s.applySettings new).pending = s.pending ∧ (s.applySettings new).now = s.now ∧
    (s.applySettings new).picks = s.picks ∧ (s.applySettings new).startingUp = s.startingUp ∧
    (s.applySettings new).lockLine = s.lockLine ∧ (s.applySettings new).nvs = s.nvs := by
  simp only [State.applySettings, State.lineDelist, State.lineRestart]
  (repeat' split) <;> simp

@[simp] theorem State.applySettings_settings (s : State) (new : Settings) :
    (s.applySettings new).settings = new := by
  simp only [State.applySettings, State.lineDelist, State.lineRestart]
  (repeat' split) <;> simp

@[simp] theorem State.startUp_frame (s : State) :
    (s.startUp).pending = s.pending ∧ (s.startUp).now = s.now ∧ (s.startUp).picks = s.picks ∧
    (s.startUp).lockLine = s.lockLine := by
  simp only [State.startUp]
  split <;> simp [State.loadLock, State.placeRoles, State.startTimers]

end Sys2Proof.Machine
end

