-- ==== Sys2Proof/Laws/Link.lean ====
section
/-! SUPPORT. What taking a frame does, once: which frames are taken, the state an owner sees, and where its
answer goes. -/

namespace Sys2Proof.Machine

theorem State.hearsFrame_iff {s : State} : s.hearsFrame = true ↔ s.Taking := by
  simp [State.hearsFrame, State.Taking, and_comm]

/-- The owner sees the state the frame found, with the transaction ended and the timer restarted (R152,
R159). -/
theorem State.frameTaken_eq (s : State) : s.frameTaken = s.answered s.cl.response := by
  cases h : s.cl.standalone <;>
    simp [State.frameTaken, State.restartSilence, State.endTransaction, State.answered, State.linkAfter, h]

@[simp] theorem State.frameTaken_cl (s : State) : s.frameTaken.cl = s.linkAfter s.cl.response := by
  simp [State.frameTaken_eq, State.answered]

@[simp] theorem State.linkAfter_standalone (s : State) (r : Reply) :
    (s.linkAfter r).standalone = s.cl.standalone := rfl

@[simp] theorem State.linkAfter_resetCause (s : State) (r : Reply) :
    (s.linkAfter r).resetCause = s.cl.resetCause := rfl

@[simp] theorem State.linkAfter_shiftOut (s : State) (r : Reply) : (s.linkAfter r).shiftOut = none := rfl

@[simp] theorem State.linkAfter_response (s : State) (r : Reply) : (s.linkAfter r).response = r := rfl

/-- A frame that is taken: the owner's answer goes into the response buffer (R159, R161). -/
theorem State.takeFrame_of_taking {s : State} (h : s.Taking) (own : State → Answer) :
    s.takeFrame own = (own s.frameTaken).state.respond (own s.frameTaken).reply := by
  simp [State.takeFrame, State.hearsFrame_iff.2 h]

/-- A frame that is not heard changes nothing but the end of its transaction (R166). -/
theorem State.takeFrame_of_not_taking {s : State} (h : ¬ s.Taking) (own : State → Answer) :
    s.takeFrame own = s.endTransaction := by
  have : s.hearsFrame ≠ true := fun k => h (State.hearsFrame_iff.1 k)
  simp [State.takeFrame, this]

/-- Outside standalone operation the owner of a gated command is asked (R155). -/
theorem State.takeFrame_gated_of_serving {s : State} (h : s.Serving) (own : State → Answer) :
    s.takeFrame (gated own) = (own s.frameTaken).state.respond (own s.frameTaken).reply := by
  have k : (s.linkAfter s.cl.response).standalone = false := h.2
  rw [State.takeFrame_of_taking h.1]
  simp [gated, h.2]

/-- Placing an answer over the link as a frame leaves it gives the link after that answer (R161). -/
theorem State.respond_of_cl {s t : State} {q : Reply} (h : t.cl = s.linkAfter q) (r : Reply) :
    t.respond r = { t with cl := s.linkAfter r } := by
  simp [State.respond, h, State.linkAfter]

/-- An owner that refuses changes nothing but the answer (R163). -/
theorem State.respond_frameTaken (s : State) (r : Reply) : s.frameTaken.respond r = s.answered r := by
  rw [State.respond_of_cl (s.frameTaken_cl) r, State.frameTaken_eq]
  rfl

/-! ## What the owners read is as the frame found it -/

@[simp] theorem State.frameTaken_entry (s : State) (i : Fin 48) : s.frameTaken.entry i = s.entry i := by
  rw [State.frameTaken_eq]; rfl

@[simp] theorem State.frameTaken_findOfftake (s : State) (n : Nat) :
    s.frameTaken.findOfftake n = s.findOfftake n := by
  rw [State.frameTaken_eq]; rfl

@[simp] theorem State.frameTaken_bandEnforced (s : State) : s.frameTaken.bandEnforced = s.bandEnforced := by
  rw [State.frameTaken_eq]; rfl

@[simp] theorem State.frameTaken_isProtected (s : State) (i : Fin 48) :
    s.frameTaken.isProtected i = s.isProtected i := by
  rw [State.frameTaken_eq]; rfl

@[simp] theorem State.frameTaken_isParticipant (s : State) (i : Fin 48) :
    s.frameTaken.isParticipant i = s.isParticipant i := by
  rw [State.frameTaken_eq]; rfl

@[simp] theorem State.frameTaken_account (s : State) (i : Fin 64) :
    s.frameTaken.account i = s.account i := by
  rw [State.frameTaken_eq]; rfl

@[simp] theorem State.frameTaken_findAccount (s : State) (n : Nat) :
    s.frameTaken.findAccount n = s.findAccount n := by
  rw [State.frameTaken_eq]; rfl

@[simp] theorem State.frameTaken_isBound (s : State) (a : Nat) : s.frameTaken.isBound a = s.isBound a := by
  rw [State.frameTaken_eq]; rfl

@[simp] theorem State.frameTaken_station (s : State) (a : Nat) : s.frameTaken.station a = s.station a := by
  rw [State.frameTaken_eq]; rfl

@[simp] theorem State.frameTaken_isStale (s : State) (a : Nat) : s.frameTaken.isStale a = s.isStale a := by
  rw [State.frameTaken_eq]; rfl

@[simp] theorem State.frameTaken_meterIsSilent (s : State) :
    s.frameTaken.meterIsSilent = s.meterIsSilent := by
  rw [State.frameTaken_eq]; rfl

@[simp] theorem State.frameTaken_monitor (s : State) (m : Monitor) :
    s.frameTaken.monitor m = s.monitor m := by
  rw [State.frameTaken_eq]; rfl

@[simp] theorem State.frameTaken_mode (s : State) (m : Monitor) : s.frameTaken.mode m = s.mode m := by
  rw [State.frameTaken_eq]; rfl

@[simp] theorem State.frameTaken_anyHold (s : State) (src : Source) :
    s.frameTaken.anyHold src = s.anyHold src := by
  rw [State.frameTaken_eq]; rfl

end Sys2Proof.Machine
end

