-- ==== Sys2Proof/Tests/Slice0.lean ====
section
/-! SUPPORT. The model's own tests, each one step: the worked cases of the spec, the checks of WellFormed,
and for every statement with hypotheses a state and operands that meet them. Expected values are the
spec's, from the section each test names. -/

namespace Sys2Proof.Machine.Tests

set_option Elab.async false

/-- The state after a command. -/
def ran (c : Instr) (s : State) : State :=
  match exec c s with
  | .next t => t
  | _ => s

/-! ## A plant: the settings, supply and offtakes of sections 1.10, 3.12 and 7.8 -/

def plantSettings : Settings :=
  { Settings.defaults with
    holder := ⟨250, 800, 50, 40000, 55000, 50, 950⟩
    limits := ⟨⟨5000, 40000, 999999⟩, ⟨3000, 40000, 999999⟩, ⟨9000, 40000, 999999⟩⟩
    roles := ⟨⟨10, 11, 12⟩, 13, 14⟩
    pollList := [10, 11, 12, 13, 14, 40]
    stationLoad := 3000
    periodLength := 900
    boostStep := 2000
    boostMax := 20000
    exportLimit := 60000 }

def e1 : Offtake :=
  { number := 1, use := .works, priority := 0, accepted := ⟨false, true, true⟩, floor := 200000
    ceiling := 320000, demand := 300000, fallback := 250000, boost := 0, state := .active, sequence := 3
    damaged := false, grant := Grant.zero }

def e2 : Offtake :=
  { e1 with number := 2, accepted := ⟨true, false, true⟩, floor := 60000, ceiling := 120000
            demand := 110000, fallback := 100000, sequence := 7 }

def e3 : Offtake :=
  { e1 with number := 3, use := .townHeat .z1, priority := 2, accepted := ⟨true, true, true⟩
            floor := 40000, ceiling := 150000, demand := 150000, fallback := 100000, sequence := 12 }

def e4 : Offtake :=
  { e1 with number := 4, use := .townHeat .z2, priority := 2, accepted := ⟨false, true, false⟩
            floor := 20000, ceiling := 90000, demand := 80000, fallback := 60000, sequence := 15 }

def e5 : Offtake :=
  { e1 with number := 5, use := .power 360, priority := 4, accepted := ⟨true, true, true⟩, floor := 0
            ceiling := 400000, demand := 250000, fallback := 0, state := .pending, sequence := 9 }

/-- The account of section 6.11. -/
def acc : Account :=
  { Account.fresh 7004 40 .z2 60000 false with
    baseline := some ⟨99995000, 9500, 5500⟩, lastReading := some 100000
    recovered := ⟨120, 900⟩, fired := ⟨310, 400⟩ }

def live : StationRecord := ⟨.live, 0, 0, .good, some 0⟩

def plantTable (a b c d e : Offtake) : OfftakeTable :=
  { OfftakeTable.blank with
    entries := setAt (setAt (setAt (setAt (setAt (Vector.replicate 48 none) 0 (some a)) 1 (some b)) 2
      (some c)) 3 (some d)) 4 (some e)
    counter := 16 }

def plantStations : Vector StationRecord 127 :=
  setAt (setAt (setAt (setAt (setAt (setAt (Vector.replicate 127 StationRecord.blank) 9 live) 10 live) 11
    live) 12 live) 13 live) 39 live

/-- The plant before run 41, with a transaction in progress. -/
def plant : State :=
  { State.reset with
    startingUp := false
    now := 1000000
    settings := plantSettings
    sm := ⟨⟨⟨10, .fresh, 40000, 8100, 90000⟩, ⟨11, .fresh, 420000, 3300, 385000⟩,
      ⟨12, .fresh, 36000, 17900, 179000⟩⟩, ⟨13, .fresh, 620, .normal, false, false, 40000⟩⟩
    ot := plantTable e1 e2 e3 e4 e5
    ae := { Engine.blank with runNumber := 40, lastCompleted := 40, flarePoint := 1000000 }
    flc := { FieldLine.blank with polling := .running, phase := some .query, queried := 10
                                  stations := plantStations }
    hau := { HeatAccounts.blank with accounts := setAt (Vector.replicate 64 none) 0 (some acc), closeNumber := 17 }
    cl := { State.reset.cl with shiftOut := some [] } }

/-- Run 41 in flight. -/
def running : State := plant.startRun

/-- Run 41 completed. -/
def served : State := ran .runCompletion running

/-- The part waits for the answer of a station. -/
def awaiting (s : State) (address : Nat) : State :=
  { s with flc := { s.flc with phase := some .await, queried := address, replyTimer := some (s.now + 40) } }

/-- A report of a station closed by its check byte (R98). -/
def reportOf (address : Nat) (kind : Byte) (payload : List Byte) : List Byte :=
  let body := BitVec.ofNat 8 address :: kind :: payload ++ [0]
  body ++ [0 - byteSum body]

/-! ## WellFormed refuses what cannot arrive -/

theorem test_wf_payload : Instr.wellFormed (.noOp (List.replicate 60 7)) = true ∧
    Instr.wellFormed (.noOp (List.replicate 61 7)) = false := by decide +kernel

theorem test_wf_unknown : Instr.wellFormed (.unknownCommand 0x0D []) = true ∧
    Instr.wellFormed (.unknownCommand 0x30 []) = false := by decide +kernel

theorem test_wf_arrived : Instr.wellFormed (.replyTimerExpiry [10, 1, 0]) = true ∧
    Instr.wellFormed (.replyTimerExpiry (reportOf 13 2 [2, 0x6C])) = false := by decide +kernel

theorem test_wf_report : Instr.wellFormed (.reportComplete (reportOf 13 2 [2, 0x6C])) = true ∧
    Instr.wellFormed (.reportComplete [13, 2, 2, 0x6C, 0]) = false := by decide +kernel

theorem test_wf_torn_offtake : Instr.wellFormed (.powerOn [.offtake 0 { e1.stored with floor := 16777215 }]) =
    true ∧ Instr.wellFormed (.powerOn [.offtake 0 { e1.stored with floor := 16777216 }]) = false ∧
    Instr.wellFormed (.powerOn [.offtake 0 { e1.stored with number := 65536 }]) = false := by decide +kernel

theorem test_wf_torn_account : Instr.wellFormed (.resetLine [.account 0 acc.stored]) = true ∧
    Instr.wellFormed (.resetLine [.account 0 { acc.stored with station := 256 }]) = false ∧
    Instr.wellFormed (.resetLine [.account 0 { acc.stored with baseline := some ⟨0, 40000, 0⟩ }]) = false ∧
    Instr.wellFormed (.resetPart [] [.account 0 { acc.stored with recovered := ⟨4294967296, 0⟩ }]) =
      false := by decide +kernel

/-! ## Frames written out by R158, R159 and R176 -/

theorem test_frames :
    endOfTransaction [] [0x00, 0x00, 0x00] 0 = some (.noOp []) ∧
    endOfTransaction [] [0x29, 0x02, 0x01, 0x02, 0x28] 0 = some (.readOfftake [0x01, 0x02]) ∧
    endOfTransaction [] [0x30, 0x00, 0x30, 0xFF] 0 = some (.startRun []) ∧
    endOfTransaction [] [0x44, 0x02, 0x01, 0x00, 0x47] 0 = some (.clearAlert [0x01, 0x00]) ∧
    endOfTransaction [] [0x51, 0x01, 0x28, 0x78] 0 = some (.readStation [0x28]) ∧
    endOfTransaction [] [0x66, 0x04, 0x00, 0x00, 0x1B, 0x5C, 0x25] 0 =
      some (.readAccount [0x00, 0x00, 0x1B, 0x5C]) ∧
    endOfTransaction [] [0x72, 0x00, 0x72] 0 = some (.stopSettlement []) ∧
    endOfTransaction [] [0x0A, 0x00, 0x0A] 0 = some (.saveSettings []) ∧
    endOfTransaction [] [0x0D, 0x01, 0x05, 0x09] 0 = some (.unknownCommand 0x0D [0x05]) := by
  decide +kernel

/-- The query of section 5.1 to station 10: address, R, and a byte that makes the sum 0 (R98). -/
theorem test_query : queryBytes 10 = [0x0A, 0x52, 0xA4] := by decide +kernel

/-! ## The link -/

/-- Section 9.6, the first two transactions: NONE, then RUN_ACTIVE with the OK of START RUN. -/
theorem test_transactionBegin :
    (ran .transactionBegin State.reset).cl.shiftOut = some [0x00, 0x0F, 0x00, 0x0F] ∧
    (ran .transactionBegin (ran (.startRun []) plant)).cl.shiftOut = some [0x40, 0x00, 0x00, 0x00] := by
  decide +kernel

/-- Section 9.6, transaction 3: CHECK_ERROR and LINK_ERROR. -/
theorem test_checkError : (ran .checkError plant).cl.response = ⟨.checkError, []⟩ ∧
    (ran .checkError plant).fs.alerts = 0x100 := by decide +kernel

theorem test_frameError : (ran .frameError plant).cl.response = ⟨.frameError, []⟩ ∧
    (ran .frameError plant).fs.alerts = 0x100 := by decide +kernel

theorem test_unknownCommand : (ran (.unknownCommand 0x0D [5]) plant).cl.response =
    ⟨.unknownCommand, []⟩ := by decide +kernel

theorem test_noOp : (ran (.noOp [1, 2, 3]) plant).cl.response = ⟨.ok, []⟩ ∧
    (ran (.noOp []) plant).cl.silence = some 1020000 := by decide +kernel

theorem test_resetPart : (ran (.resetPart [] []) running).cl.resetCause = ⟨.command, false, true, false⟩ ∧
    (ran (.resetPart [] []) running).cl.response = ⟨.none, []⟩ ∧
    (ran (.resetPart [1] []) running).cl.response = ⟨.badLength, []⟩ := by decide +kernel

theorem test_powerOn : (ran (.powerOn [.settings]) running).cl.resetCause = ⟨.powerOn, false, false, false⟩ ∧
    (ran (.powerOn [.settings]) running).store.settings.good = false := by decide +kernel

theorem test_resetLine : (ran (.resetLine []) running).cl.resetCause = ⟨.resetLine, false, true, false⟩ ∧
    (ran (.resetLine []) running).ae.run = none := by decide +kernel

/-- R171: a part from the factory is up with its defaults; one whose settings fail holds back polling. -/
theorem test_startUpComplete :
    (ran .startUpComplete State.reset).ae.dispatch = some 30000 ∧
    (ran .startUpComplete State.reset).flc.polling = .empty ∧
    (ran .startUpComplete (ran (.powerOn [.settings]) running)).fs.alerts = 0x400 ∧
    (ran .startUpComplete (ran (.powerOn [.settings]) running)).flc.polling = .stopped := by decide +kernel

theorem test_readResetCause : (ran (.readResetCause []) plant).cl.response = ⟨.ok, [0, 0, 0, 0]⟩ := by
  decide +kernel

/-- R153: every boost becomes 0 and a run is requested. -/
theorem test_linkSilence : (ran .linkSilenceTimerExpiry
      { plant with cl := { plant.cl with silence := some 1000000 } }).cl.standalone = true ∧
    ((ran .linkSilenceTimerExpiry
      { plant with cl := { plant.cl with silence := some 1000000 } }).ae.run.map (·.standaloneAtStart)) =
        some true := by decide +kernel

theorem test_resumeLink :
    (ran (.resumeLink []) { plant with cl := { plant.cl with standalone := true } }).cl.standalone = false ∧
    (ran (.resumeLink []) { plant with cl := { plant.cl with standalone := true } }).ae.runNumber = 41 := by
  decide +kernel

/-! ## Supply (sections 1.10 and 1.11) -/

theorem test_holder_swing :
    stepBand .unknown 620 plantSettings.holder = .normal ∧ stepBand .normal 810 plantSettings.holder = .high ∧
    stepBand .high 780 plantSettings.holder = .high ∧ stepBand .high 740 plantSettings.holder = .normal ∧
    stepBand .normal 240 plantSettings.holder = .low ∧ stepBand .low 280 plantSettings.holder = .low ∧
    stepBand .low 850 plantSettings.holder = .normal ∧ stepBand .normal 850 plantSettings.holder = .high := by
  decide +kernel

theorem test_readSupply : ((ran (.readSupply []) plant).cl.response.payload.take 10) =
    [10, 1, 0, 0x9C, 0x40, 0x1F, 0xA4, 0x01, 0x5F, 0x90] := by decide +kernel

/-! ## Runs (sections 3.5, 3.12 and 3.13) -/

theorem test_runCompletion_grants :
    (served.entry 0).map (·.grant) = some ⟨⟨0, 300000, 0⟩, false, 41⟩ ∧
    (served.entry 1).map (·.grant) = some ⟨⟨60000, 0, 50000⟩, false, 41⟩ ∧
    (served.entry 2).map (·.grant) = some ⟨⟨30000, 45589, 74411⟩, false, 41⟩ ∧
    (served.entry 3).map (·.grant) = some ⟨⟨0, 39411, 0⟩, false, 41⟩ ∧
    (served.entry 4).map (fun e => (e.grant, e.state)) = some (⟨⟨0, 0, 54589⟩, false, 41⟩, .active) := by
  decide +kernel

theorem test_runCompletion_figures :
    served.ae.setpoint = 40000 ∧ served.ae.coverage = ⟨1000, 492, 0, 0⟩ ∧ served.ae.yieldSum = 19652 ∧
    served.ae.exportEstimate = 16652 ∧ served.ae.surplus = ⟨0, 0, 0⟩ ∧ served.ae.short = false := by
  decide +kernel

/-- The odd kilowatts: 10 kW over four needs of 3 kW. -/
theorem test_odd_kilowatts :
    ((shareSource (⟨0, 0, 10⟩, [20, 21, 22, 23].map fun n =>
      { slot := 0, sequence := n, priority := 3, accepted := ⟨false, false, true⟩, need := 3, floor := 0
        grant := ⟨0, 0, 0⟩, short := false, released := false }) 3 .cog).2.map RunPart.total) =
      [3, 3, 2, 2] := by decide +kernel

theorem test_startRun : (ran (.startRun []) plant).cl.response.code = .ok ∧
    (ran (.startRun []) plant).ae.runNumber = 41 ∧
    (ran (.startRun []) running).cl.response.code = .queued := by decide +kernel

theorem test_abortRun : (ran (.abortRun []) running).ae.run = none ∧
    (ran (.abortRun []) running).fs.alerts = 0x002 ∧
    (ran (.abortRun []) plant).cl.response.code = .wrongState := by decide +kernel

theorem test_dispatchTimerExpiry :
    (ran .dispatchTimerExpiry { plant with ae := { plant.ae with dispatch := some 1000000 } }).ae.runNumber =
      41 ∧
    (ran .dispatchTimerExpiry { running with ae := { running.ae with dispatch := some 1000000 } }).ae.rerunPending =
      true := by decide +kernel

/-- Section 3.13: E4's 39,411 kW of BFG goes to the surplus and zone 2 is no longer covered. -/
theorem test_suspendOfftake :
    (ran (.suspendOfftake [0, 4]) { served with cl := plant.cl }).ae.surplus = ⟨0, 39411, 0⟩ ∧
    (ran (.suspendOfftake [0, 4]) { served with cl := plant.cl }).ae.coverage = ⟨1000, 0, 0, 0⟩ ∧
    (ran (.suspendOfftake [0, 4]) { served with cl := plant.cl }).fs.alerts = 0x008 := by decide +kernel

/-- Section 3.13: 30,000 ms at 39,411 kW with a residue of 39,411 kW·ms. -/
theorem test_flareTimerExpiry :
    (ran .flareTimerExpiry { plant with
      now := 1030002
      ae := { plant.ae with surplus := ⟨0, 39411, 0⟩, flareResidue := ⟨39411, 0⟩, flarePoint := 1000002
                            flareTimer := some 1030002 } }).ae.flareTotal = ⟨328, 0⟩ ∧
    (ran .flareTimerExpiry { plant with
      now := 1030002
      ae := { plant.ae with surplus := ⟨0, 39411, 0⟩, flareResidue := ⟨39411, 0⟩, flarePoint := 1000002
                            flareTimer := some 1030002 } }).ae.flareResidue = ⟨1569411, 0⟩ := by
  decide +kernel

theorem test_readRunSummary :
    ((ran (.readRunSummary []) { served with cl := plant.cl }).cl.response.payload.take 8) =
      [0, 0, 41, 0, 41, 0, 0x01, 0x5F] := by decide +kernel

theorem test_readFlareTotals :
    (ran (.readFlareTotals [1]) { plant with ae := { plant.ae with flareTotal := ⟨328, 0⟩ } }).ae.flareTotal =
      ⟨0, 0⟩ ∧ (ran (.readFlareTotals [2]) plant).cl.response.code = .badValue := by decide +kernel

/-! ## Offtakes (section 2.10) -/

/-- The plant with its band of four slots enforced by the LOCK line. -/
def locked : State :=
  { plant with lockLine := true, settings := { plantSettings with bandSize := 4, lockMode := .line } }

def admit230 (slot : Nat) : List Byte :=
  joinFields AdmitRequest.widths [230, 1, 0, 0, 3, 7, 1000, 50000, 2100000, 20000, slot]

theorem test_admitOfftake :
    (ran (.admitOfftake (admit230 255)) locked).cl.response = ⟨.ok, [5, 0, 0, 0, 16]⟩ ∧
    ((ran (.admitOfftake (admit230 255)) locked).entry 5).map (fun e => (e.use, e.demand, e.state)) =
      some (.steam, 2000000, .pending) := by decide +kernel

theorem test_admitOfftake_refused :
    (ran (.admitOfftake (admit230 2)) locked).cl.response.code = .protected_ ∧
    (ran (.admitOfftake (admit230 2)) plant).cl.response.code = .wrongState ∧
    (ran (.admitOfftake (admit230 48)) plant).cl.response.code = .badValue := by decide +kernel

/-- Priority and ceiling are marked present, the others are kept. -/
theorem test_amendOfftake :
    ((ran (.amendOfftake (joinFields AmendRequest.widths [1, 9, 5, 0, 7, 310000, 7])) plant).entry 0).map
      (fun e => (e.priority, e.accepted, e.floor, e.ceiling, e.fallback)) =
      some (5, ⟨false, true, true⟩, 200000, 310000, 250000) ∧
    (ran (.amendOfftake (joinFields AmendRequest.widths [1, 8, 5, 0, 7, 199999, 7])) plant).cl.response.code =
      .badValue := by decide +kernel

theorem test_setDemand :
    (ran (.setDemand (joinFields [2, 3, 2, 3] [1, 280000, 999, 5000])) locked).cl.response =
      ⟨.notFound, [1]⟩ ∧
    ((ran (.setDemand (joinFields [2, 3, 2, 3] [1, 280000, 999, 5000])) locked).entry 0).map (·.demand) =
      some 280000 := by decide +kernel

theorem test_reinstateOfftake :
    ((ran (.reinstateOfftake [0, 4]) { plant with ot := plantTable e1 e2 e3 { e4 with state := .suspended } e5
      }).entry 3).map (·.state) = some .pending ∧
    (ran (.reinstateOfftake [0, 4]) plant).cl.response.code = .wrongState := by decide +kernel

theorem test_retireOfftake : ((ran (.retireOfftake [0, 3]) plant).entry 2).map (·.state) = some .retiring ∧
    (ran (.retireOfftake [0, 3]) locked).cl.response.code = .protected_ := by decide +kernel

theorem test_lockLineChange : (ran (.lockLineChange true) plant).lockLine = true := by decide +kernel

theorem test_setProtection :
    (ran (.setProtection [1, 8, 1]) plant).settings.bandSize = 8 ∧
    (ran (.setProtection [1, 5, 1]) plant).cl.response.code = .badValue ∧
    (ran (.setProtection [1, 8, 1]) locked).cl.response.code = .protected_ := by decide +kernel

theorem test_lockPermanently :
    (ran (.lockPermanently []) locked).store.lock = ⟨true, .low, 4⟩ := by decide +kernel

/-- 43 slots FREE, one PENDING, four ACTIVE; the counter is 16. -/
theorem test_readTable : (ran (.readTable []) plant).cl.response.payload =
    [43, 1, 4, 0, 0, 0, 0, 0, 0, 16, 0, 0, 0, 0, 0, 0] := by decide +kernel

/-- The first bytes of E3's record: slot, number, class, zone, yield, priority, accepted set (R178). -/
theorem test_readOfftake :
    (ran (.readOfftake [0, 3]) plant).cl.response.payload.take 9 = [2, 0, 3, 2, 1, 0, 0, 2, 7] ∧
    (ran (.readOfftake [0, 3]) plant).cl.response.payload.length = 44 ∧
    (ran (.readOfftake [0, 9]) plant).cl.response.code = .notFound := by decide +kernel

/-- State ACTIVE: slots 0 to 3. -/
theorem test_findOfftakes : (ran (.findOfftakes [255, 2, 255]) plant).cl.response = ⟨.ok, [4]⟩ ∧
    (ran (.findOfftakes [255, 2, 255]) plant).ot.cursor.position = some 0 ∧
    (ran (.findOfftakes [255, 3, 255]) plant).cl.response = ⟨.end_, [0]⟩ := by decide +kernel

def walking (p : Option (Fin 48)) : State :=
  { plant with ot := { plant.ot with cursor := ⟨⟨some .townHeat, none, none⟩, p⟩ } }

theorem test_readNextOfftake :
    (ran (.readNextOfftake []) (walking (some 0))).cl.response.payload.take 3 = [2, 0, 3] ∧
    (ran (.readNextOfftake []) (walking (some 0))).ot.cursor.position = some 3 ∧
    (ran (.readNextOfftake []) (walking (some 4))).cl.response.code = .end_ := by decide +kernel

theorem test_readGrants :
    (ran (.readGrants [0, 2, 0, 9]) { served with cl := plant.cl }).cl.response.code = .notFound ∧
    (ran (.readGrants [0, 2]) { served with cl := plant.cl }).cl.response.payload =
      [0, 2, 0, 0xEA, 0x60, 0, 0, 0, 0, 0xC3, 0x50, 1, 0xAD, 0xB0, 0, 0, 41, 0, 0, 41] := by decide +kernel

/-! ## Faults (section 4.8) -/

/-- A report of BFG at an NCV. -/
def bfgAt (ncv : Nat) (s : State) : State :=
  ran (.reportComplete (reportOf 11 1 (beBytes 3 420000 ++ beBytes 2 ncv))) (awaiting s 11)

/-- Gas and holder reports: sections 1.11 and 4.8. -/
theorem test_reportComplete_supply :
    ((ran (.reportComplete (reportOf 11 1 (beBytes 3 418777 ++ beBytes 2 3291))) (awaiting plant 11)).source
      .bfg).availability = 382831 ∧
    (ran (.reportComplete (reportOf 13 2 (beBytes 2 810))) (awaiting plant 13)).sm.holder.draw = 55000 ∧
    ((ran (.reportComplete (reportOf 13 2 (beBytes 2 810))) (awaiting plant 13)).source .cvg).availability =
      123750 ∧
    (bfgAt 2700 running).monitor (.gas .bfg .ncvLow) = ⟨true, true, true, 1, none⟩ ∧
    (bfgAt 2700 running).fs.admission.bfg = .withdrawn ∧ (bfgAt 2700 running).fs.alerts = 0x003 ∧
    (bfgAt 2700 running).ae.run.map (fun r => r.startPools.bfg) = some 0 ∧
    (bfgAt 3100 (bfgAt 2700 plant)).monitor (.gas .bfg .ncvLow) = ⟨false, true, true, 1, some 1060000⟩ ∧
    (bfgAt 3100 (bfgAt 2700 plant)).fs.admission.bfg = .withdrawn := by
  decide +kernel

theorem test_retryTimerExpiry :
    (ran (.retryTimerExpiry (.gas .bfg .ncvLow)) (bfgAt 3100 (bfgAt 2700 plant))).fs.admission.bfg = .admitted ∧
    (ran (.retryTimerExpiry (.gas .bfg .ncvLow)) (bfgAt 3100 (bfgAt 2700 plant))).monitor (.gas .bfg .ncvLow) =
      ⟨false, true, false, 1, none⟩ := by decide +kernel

theorem test_clearFaults :
    (ran (.clearFaults [255]) (bfgAt 2700 plant)).cl.response = ⟨.ok, [1]⟩ ∧
    (ran (.clearFaults [1, 0]) (bfgAt 3100 (bfgAt 2700 plant))).fs.admission.bfg = .admitted ∧
    (ran (.clearFaults [3, 0]) plant).cl.response.code = .badValue := by decide +kernel

theorem test_readFaults : ((ran (.readFaults []) (bfgAt 2700 plant)).cl.response.payload.drop 28).take 7 =
    [3, 1, 1, 1, 0, 0, 0] := by decide +kernel

theorem test_readCounters :
    ((ran (.readCounters []) (bfgAt 2700 plant)).cl.response.payload.drop 4).take 1 = [1] ∧
    ((ran (.readCounters []) (bfgAt 2700 plant)).monitor (.gas .bfg .ncvLow)).counter = 0 := by
  decide +kernel

theorem test_readAlert : (ran (.readAlert []) (bfgAt 2700 plant)).cl.response.payload = [0, 1, 0, 0, 1] := by
  decide +kernel

theorem test_clearAlert : (ran (.clearAlert [0, 1]) (bfgAt 2700 running)).fs.alerts = 0x002 ∧
    (ran (.clearAlert [0, 1]) (bfgAt 2700 running)).cl.response = ⟨.ok, [0, 3]⟩ := by decide +kernel

theorem test_setAlertMask : (ran (.setAlertMask [0xF8, 0x03]) plant).settings.alertMask = 0x803 ∧
    (ran (.setAlertMask [0, 0]) (ran (.saveSettings []) plant)).cl.response.code = .ok ∧
    (ran (.setAlertMask [0, 0]) { ran (.saveSettings []) plant with cl := plant.cl }).cl.response.code =
      .busy := by decide +kernel

/-! ## The field line (sections 5.1 to 5.4) -/

theorem test_querySent : (ran .querySent plant).flc.phase = some .await ∧
    (ran .querySent plant).flc.replyTimer = some 1000040 ∧
    (ran .querySent (awaiting plant 10)).flc.replyTimer = (awaiting plant 10).flc.replyTimer := by
  decide +kernel

/-- In the gap after position 5, the last one. -/
def gapAt (k : Nat) : State :=
  { plant with flc := { plant.flc with phase := some .gap, position := k, gapTimer := some 1000000 } }

theorem test_gapTimerExpiry :
    ((ran .gapTimerExpiry (gapAt 5)).flc.position, (ran .gapTimerExpiry (gapAt 5)).flc.queried) = (0, 10) ∧
    ((ran .gapTimerExpiry (gapAt 4)).flc.position, (ran .gapTimerExpiry (gapAt 4)).flc.queried) = (5, 40) ∧
    (ran .gapTimerExpiry (gapAt 4)).lineQuery = some [40, 0x52, 0x86] := by decide +kernel

/-- The station of an account misses for the third time. -/
def missedTwice : State :=
  awaiting (plant.setStation 40 ⟨.live, 2, 2, .timeout, some 0⟩) 40

theorem test_replyTimerExpiry :
    (ran (.replyTimerExpiry []) missedTwice).station 40 = ⟨.stale, 3, 3, .timeout, some 0⟩ ∧
    (ran (.replyTimerExpiry [40, 9]) missedTwice).station 40 = ⟨.stale, 3, 3, .check, some 0⟩ ∧
    ((ran (.replyTimerExpiry []) missedTwice).account 0).map (·.state) = some .holding ∧
    (ran (.replyTimerExpiry []) missedTwice).fs.alerts = 0x080 := by decide +kernel

theorem test_setPollList :
    (ran (.setPollList [0x81, 40, 12, 40]) plant).settings.pollList = [40, 12, 40] ∧
    (ran (.setPollList [0x81, 40, 12, 40]) plant).cl.response = ⟨.ok, [3]⟩ ∧
    ((ran (.setPollList [0x81, 40, 12, 40]) plant).station 11).state = .stale ∧
    (ran (.setPollList [0x81, 40, 12, 40]) plant).flc.replacementWaiting = true ∧
    (ran (.setPollList [0x02, 40]) plant).cl.response.code = .wrongState := by decide +kernel

theorem test_readStation :
    (ran (.readStation [40]) missedTwice).cl.response.payload =
      [2, 0, 1, 6, 0, 1, 5, 1, 2, 2, 2, 0x00, 0x0F, 0x42, 0x40, 0] ∧
    (ran (.readStation [40]) missedTwice).station 40 = ⟨.live, 2, 0, .timeout, some 0⟩ ∧
    (ran (.readStation [128]) plant).cl.response.code = .badValue := by decide +kernel

/-! ## Heat accounts (sections 6.11 and 6.12) -/

/-- The report of section 6.11. -/
def heatReport : List Byte :=
  reportOf 40 4 (beBytes 4 7500 ++ beBytes 3 50000 ++ beBytes 2 9540 ++ beBytes 2 5515)

def billed : State := ran (.reportComplete heatReport) (awaiting { plant with
  ae := { plant.ae with coverage := ⟨1000, 492, 0, 0⟩ } } 40)

/-- The reading after E4's suspension: ΔV = 10,003 litres, dT = 4010, coverage 0. -/
theorem test_heat_next_reading :
    (((billed.account 0).map fun a => a.billed ⟨17503, 9500, 5490, 0⟩ ⟨7500, 9540, 5515⟩ 0).map
      fun a => (a.residue, a.recovered, a.fired)) = some (28390, ⟨408, 785⟩, ⟨1074, 152⟩) := by
  decide +kernel

theorem test_openAccount :
    (ran (.openAccount (beBytes 4 7004 ++ [41, 2] ++ beBytes 3 60000))
      plant).cl.response.code = .duplicate ∧
    (ran (.openAccount (beBytes 4 7005 ++ [41, 2] ++ beBytes 3 60000)) plant).cl.response = ⟨.ok, [1]⟩ ∧
    ((ran (.openAccount (beBytes 4 7005 ++ [41, 2] ++ beBytes 3 60000)) plant).account 1) =
      some (Account.fresh 7005 41 .z2 60000 false) := by decide +kernel

/-- The close numbered 18 moves the bands aside, and the one numbered 19 finds the copy waiting. -/
def closedOnce : State := ran (.closeBillingPeriod []) plant

theorem test_closeBillingPeriod :
    closedOnce.cl.response = ⟨.ok, [0, 0, 0, 18, 1, 0]⟩ ∧
    (closedOnce.account 0).map (fun a => (a.closed, a.recovered, a.fired)) =
      some (some ⟨⟨120, 900⟩, ⟨310, 400⟩, 18⟩, ⟨0, 0⟩, ⟨0, 0⟩) := by decide +kernel

theorem test_closeBillingPeriod_again :
    (ran (.closeBillingPeriod []) { closedOnce with cl := plant.cl }).cl.response =
      ⟨.uncollected, [0, 0, 0, 19, 0, 1]⟩ ∧
    (ran (.closeBillingPeriod []) { closedOnce with cl := plant.cl }).fs.alerts = 0x040 := by decide +kernel

theorem test_collectAccount :
    ((ran (.collectAccount (beBytes 4 7004)) { closedOnce with cl := plant.cl }).account 0).map (·.closed) =
      some none ∧
    (ran (.collectAccount (beBytes 4 7004)) plant).cl.response.code = .wrongState ∧
    (ran (.collectAccount (beBytes 4 7004)) { closedOnce with cl := plant.cl }).cl.response = ⟨.ok,
      [0, 0, 0x1B, 0x5C, 40, 2, 0, 0, 0, 120, 0x03, 0x84, 0, 0, 1, 0x36, 0x01, 0x90, 0, 0, 0, 18] ++
        List.replicate 12 0 ++ [1]⟩ := by decide +kernel

/-- Account 7004 in CLOSING. -/
def closing : State := { ran (.closeAccount (beBytes 4 7004)) plant with cl := plant.cl }

theorem test_closeAccount : (closing.account 0).map (·.state) = some .closing ∧
    (ran (.closeAccount (beBytes 4 7004)) closing).cl.response.code = .wrongState := by decide +kernel

theorem test_forceFinal :
    ((ran (.forceFinal (beBytes 4 7004)) closing).account 0).map (fun a => (a.state, a.final)) =
      some (.final, some ⟨⟨120, 900⟩, ⟨310, 400⟩⟩) ∧
    (ran (.collectAccount (beBytes 4 7004))
      { ran (.forceFinal (beBytes 4 7004)) closing with cl := plant.cl }).account 0 = none := by
  decide +kernel

theorem test_clearAccountMarks :
    ((ran (.clearAccountMarks (beBytes 4 7004 ++ [0x12]))
      { plant with hau := { plant.hau with accounts := setAt plant.hau.accounts 0 (some { acc with
          gaps := 5, marks := ⟨true, true, false, false, false⟩ }) } }).account 0).map
        (fun a => (a.gaps, a.marks)) = some (0, ⟨true, false, false, false, false⟩) := by decide +kernel

theorem test_readAccount :
    (ran (.readAccount (beBytes 4 7004)) plant).cl.response.payload.take 13 =
      [0, 0, 0, 0x1B, 0x5C, 40, 2, 0, 0xEA, 0x60, 1, 6, 0] ∧
    (ran (.readAccount (beBytes 4 7005)) plant).cl.response.code = .notFound := by decide +kernel

theorem test_findAccounts :
    (ran (.findAccounts [255, 2, 255]) plant).cl.response = ⟨.ok, [1]⟩ ∧
    (ran (.findAccounts [255, 3, 255]) plant).cl.response = ⟨.end_, [0]⟩ ∧
    (ran (.findAccounts [255, 5, 255]) plant).cl.response.code = .badValue := by decide +kernel

def accountWalk (p : Option (Fin 64)) : State :=
  { plant with hau := { plant.hau with cursor := ⟨⟨none, some .z2, none⟩, p⟩ } }

theorem test_readNextAccount :
    (ran (.readNextAccount []) (accountWalk (some 0))).hau.cursor.position = some 1 ∧
    (ran (.readNextAccount []) (accountWalk (some 1))).cl.response.code = .end_ := by decide +kernel

/-! ## Export settlement (section 7.8) -/

/-- Period 5001 with its first report taken. -/
def metering : State :=
  { plant with
    now := 62000
    ae := { plant.ae with exportEstimate := 38000 }
    esu := { plant.esu with
      silent := false
      baseline := some ⟨999990000, 2000⟩
      current := some ⟨5001, 10000, 0, 900, 0, none, false, false⟩
      timer := some 900000 } }

/-- E5, the one POWER entry, is ACTIVE. -/
def powering (boost : Nat) : OfftakeTable :=
  plantTable e1 e2 e3 e4 { e5 with state := .active, boost := boost }

/-- Checks 1 and 5 of R102, the heat report of section 6.11 and the export report of section 7.8. -/
theorem test_reportComplete_units :
    ((ran (.reportComplete [13, 2, 2, 0x6C, 0, 0]) (awaiting plant 13)).station 13).last = .check ∧
    ((ran (.reportComplete [13, 2, 2, 0x6C, 1, 0x82]) (awaiting plant 13)).station 13).last =
      .stationFault ∧
    (billed.account 0).map (fun a => (a.residue, a.recovered, a.fired)) =
      some (37500, ⟨408, 785⟩, ⟨607, 649⟩) ∧
    (billed.account 0).map (fun a => (a.baseline, a.lastReading)) =
      some (some ⟨7500, 9540, 5515⟩, some 1000000) ∧
    (let t := ran (.reportComplete (reportOf 14 3 (beBytes 4 623333)))
      (awaiting { metering with ot := powering 0 } 14)
    t.esu.current = some ⟨5001, 10000, 0, 900, 633333, some 9478888, false, false⟩ ∧
    (t.entry 4).map (·.boost) = some 2000) := by
  decide +kernel

theorem test_startSettlement :
    (ran (.startSettlement (beBytes 4 5001 ++ beBytes 3 10000 ++ beBytes 2 0))
      { plant with now := 0 }).esu.current = some ⟨5001, 10000, 0, 900, 0, none, false, false⟩ ∧
    (ran (.startSettlement (beBytes 4 5001 ++ beBytes 3 10000 ++ beBytes 2 900)) plant).cl.response.code =
      .badValue := by decide +kernel

theorem test_declare :
    (ran (.declare (beBytes 4 5002 ++ beBytes 3 9000)) metering).esu.next = some ⟨5002, 9000⟩ ∧
    (ran (.declare (beBytes 4 5002 ++ beBytes 3 9000)) plant).cl.response.code = .wrongState := by
  decide +kernel

theorem test_stopSettlement :
    (ran (.stopSettlement []) { metering with ot := powering 2000 }).esu.current = none ∧
    ((ran (.stopSettlement []) { metering with ot := powering 2000 }).entry 4).map (·.boost) = some 0 := by
  decide +kernel

/-- Period 5001 at 900,000 closes SHORT with a GAP, and 5002 opens with the next declaration. -/
theorem test_periodTimerExpiry :
    let t := ran .periodTimerExpiry { metering with
      now := 900000
      esu := { metering.esu with
        silent := true, next := some ⟨5002, 9000⟩
        current := some ⟨5001, 10000, 0, 900, 1923333, some 9645821, true, false⟩ } }
    t.esu.lastClosed = some ⟨5001, 10000, 1923333, -8076667, .short, true, false⟩ ∧
    t.esu.current = some ⟨5002, 9000, 900000, 900, 0, none, true, false⟩ ∧ t.esu.outOfBand = 1 ∧
    t.fs.alerts = 0x020 := by decide +kernel

theorem test_readSettlement :
    (ran (.readSettlement []) metering).cl.response.payload.take 17 =
      [1, 2, 0, 0, 0x13, 0x89, 0, 0x27, 0x10, 0, 0, 0xF2, 0x30, 0, 0x0C, 0xC9, 0x70] := by decide +kernel

/-! ## Settings (chapter 10) -/

theorem test_setSetting :
    (ran (.setSetting [0x28, 0, 0, 0, 99]) plant).settings.staleThreshold = 15 ∧
    (ran (.setSetting [0x28, 0, 0, 0, 99]) plant).nvs.unsaved = true ∧
    (ran (.setSetting [0x0B, 0, 0, 3, 0x84]) plant).cl.response.code = .badValue ∧
    (ran (.setSetting [0x28, 0, 0, 0]) plant).cl.response.code = .badLength := by decide +kernel

theorem test_readSettings :
    (ran (.readSettings [1]) plant).cl.response.payload = [10, 11, 12, 13, 14, 40, 0, 0, 0] ∧
    (ran (.readSettings [2]) plant).cl.response.code = .badValue := by decide +kernel

/-- The settings are being saved. -/
def saving : State := { ran (.saveSettings []) plant with cl := plant.cl }

theorem test_saveSettings : saving.store.settings.good = false ∧ saving.nvs.saving = some plantSettings ∧
    (ran (.saveSettings []) saving).cl.response.code = .busy := by decide +kernel

theorem test_saveCompletion : (ran .saveCompletion saving).store.settings = ⟨plantSettings, true⟩ ∧
    (ran .saveCompletion saving).nvs = ⟨false, none, false⟩ := by decide +kernel

theorem test_restoreSettings :
    (ran (.restoreSettings []) plant).settings = Settings.defaults ∧
    (ran (.restoreSettings []) { plant with store := { plant.store with
      settings := ⟨plantSettings, false⟩ } }).cl.response.code = .settingsFault := by decide +kernel

/-- R85, R87: the restore ends the one hold of BFG by a mode change and delists its LIVE station at the
same event; the source stays WITHDRAWN, and the run in flight goes on. -/
theorem test_restoreSettings_settles_once :
    let s : State := { bfgAt 2700 plant with
      cl := plant.cl
      store := { plant.store with settings := ⟨{ plantSettings with
        modes := setAt plantSettings.modes 4 .off, pollList := [10, 12, 13, 14, 40] }, true⟩ } }
    let t := ran (.restoreSettings []) s
    t.fs.admission.bfg = .withdrawn ∧ (t.monitor (.gas .bfg .ncvLow)).hold = false ∧
      (t.monitor (.gas .bfg .stale)).hold = true ∧ t.fs.alerts = 0x081 ∧ t.ae.runNumber = 41 := by
  decide +kernel

theorem test_clearSettingsFault :
    (ran (.clearSettingsFault []) { plant with
      nvs := ⟨true, none, true⟩, flc := FieldLine.blank }).flc.polling = .running ∧
    (ran (.clearSettingsFault []) { plant with nvs := ⟨true, none, true⟩ }).nvs = ⟨true, none, false⟩ := by
  decide +kernel

/-! ## The step -/

/-- The state after a step. -/
def stepped (s : State) : State :=
  match step s with
  | .next t => t
  | _ => s

theorem test_step_front : stepped { plant with pending := [.noOp [], .startRun []] } =
    ran (.noOp []) { plant with pending := [.startRun []] } := by decide +kernel

/-- A timer that is due is taken; otherwise a millisecond passes. -/
theorem test_step_idle :
    stepped { plant with ae := { plant.ae with flareTimer := some 999999 } } =
      ran .flareTimerExpiry { plant with ae := { plant.ae with flareTimer := some 999999 } } ∧
    stepped plant = { plant with now := 1000001 } := by decide +kernel

/-! ## Every statement's hypotheses are met together -/

/-- Standalone operation, with E3 retiring. -/
def alone : State :=
  { plant with cl := { plant.cl with standalone := true }, ot := plantTable e1 e2 { e3 with state := .retiring } e4 e5 }

def faulted : State := { plant with nvs := ⟨true, none, true⟩ }

/-- No transaction is in progress. -/
def deaf : State := { plant with cl := { plant.cl with shiftOut := none } }

/-- A run in flight with a retiring entry and a released run part, about to complete. -/
def mixed : State :=
  let s := State.startRun { ran (.retireOfftake [0, 2]) { served with cl := plant.cl } with cl := plant.cl }
  { ran (.suspendOfftake [0, 1]) s with cl := plant.cl, pending := [.runCompletion] }

theorem witness_StepTakesTheFront :
    ∃ c rest s, State.pending s = c :: rest ∧ rest ≠ [] :=
  ⟨.noOp [], [.startRun []], { plant with pending := [.noOp [], .startRun []] }, by decide +kernel⟩

theorem witness_EveryCommandGoesOn : ∀ b, Instr.transactionBegin ≠ .lockLineChange b := by
  intro b h; cases h

theorem witness_HostFramesRoundTrip :
    (Instr.wellFormed (.setSetting (List.replicate 60 255)) = true ∧
      (Instr.setSetting (List.replicate 60 255)).hostFrame = some (0x08, List.replicate 60 255)) ∧
    (Instr.wellFormed (.resetPart [] [.settings]) = true ∧
      (Instr.resetPart [] [.settings]).hostFrame = some (0x01, []) ∧
      ∀ q u, Instr.resetPart [] [.settings] = .resetPart q u → u = [.settings]) ∧
    (Instr.wellFormed (.unknownCommand 0xFF []) = true ∧
      (Instr.unknownCommand 0xFF []).hostFrame = some (0xFF, [])) := by
  refine ⟨by decide +kernel, ⟨by decide +kernel, by decide +kernel, ?_⟩, by decide +kernel⟩
  intro q u h; cases h; rfl

/-- A length byte of 61, one stray bit, a frame one byte short, and a whole one with a wrong check byte;
and a state in which frames are taken. -/
theorem witness_SpoiledFramesAreDiscarded :
    60 < (61 : Byte).toNat ∧ (0 < 1 ∨ [1, 2].length ≤ (0 : Byte).toNat) ∧
    (0 < 0 ∨ ([] : List Byte).length ≤ (0 : Byte).toNat) ∧
    ((60 : Byte).toNat ≤ 60 ∧ (List.replicate 60 (9 : Byte)).length = (60 : Byte).toNat ∧
      (0 : Byte) ≠ xorOf (0x01 :: 60 :: List.replicate 60 9)) ∧ plant.Taking := by decide +kernel

theorem witness_ResetsBeginStartUp : running.Taking ∧ saving.Taking := by decide +kernel

/-- Factory settings; and a part with the permanent lock whose settings record fails. -/
def lockedStart : State :=
  { State.reset with store := { Store.factory with settings := ⟨plantSettings, false⟩, lock := ⟨true, .high, 48⟩ } }

/-- Without the lock, a role address is bound by a good account record. -/
def boundStart : State :=
  { State.reset with store := { Store.factory with
      settings := ⟨plantSettings, true⟩
      accounts := setAt Store.factory.accounts 5 ⟨{ acc.stored with station := 11 }, true⟩ } }

theorem witness_StartUpCompletes :
    (State.reset.startingUp = true ∧ State.reset.flc.polling = .stopped ∧ State.reset.fs.alerts = 0 ∧
      State.reset.store.settings.good = true) ∧
    (boundStart.startingUp = true ∧ boundStart.flc.polling = .stopped ∧ boundStart.fs.alerts = 0 ∧
      boundStart.store.lock.mark = false ∧ (∀ i, boundStart.account i = none) ∧
      boundStart.store.settings.good = true) ∧
    (lockedStart.startingUp = true ∧ lockedStart.flc.polling = .stopped ∧ lockedStart.fs.alerts = 0 ∧
      lockedStart.store.lock.mark = true ∧ lockedStart.store.settings.good = false) := by decide +kernel

/-- An entry with every value at the end of its range. -/
def greatest : Offtake :=
  { e5 with number := 65535, use := .power 500, priority := 7, floor := 2000000, ceiling := 2000000
            fallback := 2000000, state := .active, sequence := 4294967294 }

/-- The store of a part with one offtake and one account, started again. -/
def stocked : State :=
  { State.reset with store := { Store.factory with
      offtakes := setAt Store.factory.offtakes 47 ⟨greatest.stored, true⟩
      accounts := setAt Store.factory.accounts 63 ⟨acc.stored, true⟩
      flare := ⟨⟨⟨328, 0⟩, ⟨1569411, 3599999⟩⟩, true⟩ } }

theorem witness_GoodRecordsReload : stocked.startingUp = true ∧
    exec .startUpComplete stocked = .next (ran .startUpComplete stocked) ∧
    stocked.store.offtakes[(47 : Fin 48)] = ⟨greatest.stored, true⟩ ∧ greatest.legal ∧
    stocked.store.offtakes[(0 : Fin 48)] = ⟨StoredOfftake.free, true⟩ ∧
    stocked.store.accounts[(63 : Fin 64)] = ⟨acc.stored, true⟩ ∧
    stocked.store.accounts[(0 : Fin 64)] = ⟨StoredAccount.free, true⟩ ∧
    stocked.store.closeNumber.good = true ∧ stocked.store.flare.good = true := by
  refine ⟨by decide +kernel, rfl, by decide +kernel, ?_, by decide +kernel⟩
  unfold Offtake.legal Use.legal greatest
  decide +kernel

/-- One failing record in a table that is FREE otherwise. -/
def tornTable (r : StoredOfftake) : State :=
  { State.reset with store := { Store.factory with
      offtakes := setAt Store.factory.offtakes 47 ⟨r, false⟩ } }

/-- One failing account record in a table that is FREE otherwise. -/
def tornAccounts (r : StoredAccount) : State :=
  { State.reset with store := { Store.factory with
      accounts := setAt Store.factory.accounts 63 ⟨r, false⟩ } }

/-- A part without entries whose sequence counter is good or not, and whose close number and flare record
fail. -/
def tornItems (good : Bool) : State :=
  { stocked with store := { stocked.store with
      counter := ⟨7, good⟩, closeNumber := ⟨17, false⟩, flare := ⟨stocked.store.flare.value, false⟩ } }

/-- A record with every value out of its range; one stored FREE; one with number 0. So the accounts, with
stations past 127, of a role and of none; and the single items. -/
theorem witness_FailingOfftakeRecordLoadsDamaged :
    (∀ r ∈ [⟨65535, 9, 9, 9, 255, ⟨false, false, false⟩, 16777215, 2000001, 16777215, 9, 4294967295, false⟩,
        { e1.stored with state := 0 }, { e1.stored with number := 0 }, { e3.stored with zone := 0 },
        { e3.stored with zone := 5 }, { e5.stored with yield := 199 }, { e2.stored with cls := 1 }],
      (tornTable r).startingUp = true ∧ (tornTable r).ot = OfftakeTable.blank ∧
      (tornTable r).store.offtakes[(47 : Fin 48)] = ⟨r, false⟩ ∧
      ∀ j : Fin 48, j ≠ 47 → (tornTable r).store.offtakes[j] = ⟨StoredOfftake.free, true⟩) ∧
    (∀ r ∈ [{ acc.stored with number := 4294967296, station := 128, zone := 5 },
        { acc.stored with station := 0 }, { acc.stored with state := 0 }, { acc.stored with number := 0 }],
      (tornAccounts r).startingUp = true ∧ (∀ j, (tornAccounts r).account j = none) ∧
      (tornAccounts r).store.accounts[(63 : Fin 64)] = ⟨r, false⟩ ∧
      ∀ j : Fin 64, j ≠ 63 → (tornAccounts r).store.accounts[j] = ⟨StoredAccount.free, true⟩) ∧
    (∀ b ∈ [true, false], (tornItems b).startingUp = true ∧ (tornItems b).ot = OfftakeTable.blank ∧
      (tornItems b).store.counter.good = b ∧ (tornItems b).store.closeNumber.good = false ∧
      (tornItems b).store.flare.good = false) := by
  decide +kernel

theorem witness_NoOpAnswersOk : plant.Taking ∧ alone.Taking := by decide +kernel

theorem witness_UnheardFramesChangeNothing : ¬ deaf.Taking ∧ ¬ State.reset.Taking ∧
    (Instr.startRun []).hostFrame.isSome = true := by decide +kernel

theorem witness_StandaloneRefuses : alone.Taking ∧ alone.cl.standalone = true ∧
    refusedStandalone (.declare []) = true ∧ (2000000 ≤ 2000000 ∧ 899 < alone.settings.periodLength ∧
      899 < 65536 ∧ alone.esu.current = none) := by decide +kernel

/-- The link falls silent: with a run in flight, without one, and under the settings-fault condition. -/
theorem witness_StandaloneIsEnteredAndLeft :
    (∀ s ∈ [plant, running, faulted],
      ({ s with cl := { s.cl with silence := some 1000000 } } : State).BoostsInRange) ∧
    (plant.ae.run = none ∧ running.ae.run.isSome = true ∧ faulted.nvs.settingsFault = true ∧
      plant.nvs.settingsFault = false ∧ running.nvs.settingsFault = false) ∧
    (plant.Taking ∧ plant.cl.standalone = false) ∧ (alone.Taking ∧ alone.cl.standalone = true) := by
  unfold State.BoostsInRange
  decide +kernel

theorem witness_StandaloneKeepsTermsAndDemands : alone.cl.standalone = true ∧ alone.startingUp = false ∧
    isReset .runCompletion = false ∧ (∀ i, ∀ e ∈ alone.entry i, e.boost = 0) ∧
    exec .runCompletion alone.startRun = .next (ran .runCompletion alone.startRun) := by
  refine ⟨by decide +kernel, by decide +kernel, by decide +kernel, by decide +kernel, rfl⟩

theorem witness_ReadingCommandsChangeNothing : plant.Taking ∧ alone.Taking ∧ 1 < (2 : Byte).toNat ∧
    1 < (255 : Byte).toNat ∧ plant.Serving := by decide +kernel

theorem plant_numbers : plant.NumbersUnique := by unfold State.NumbersUnique; decide +kernel

theorem witness_LookupsByNumber : plant.Taking ∧ (65535 < 65536 ∧ 4294967295 < 4294967296) ∧
    (∀ l ∈ [[65535], List.replicate 12 1], 1 ≤ l.length ∧ l.length ≤ 12 ∧ ∀ n ∈ l, n < 65536) ∧
    (1 ≠ 0 ∧ plant.NumbersUnique) :=
  ⟨by decide +kernel, by decide, by decide, by decide, plant_numbers⟩

/-- A filter that is taken and one that is not; a walk that returns its last slot, and one past all its
matches. -/
theorem witness_WalksReturnTheMatches : plant.Taking ∧
    offtakeFilter (255 : Byte).toNat (2 : Byte).toNat (7 : Byte).toNat = some ⟨none, some .active, some 7⟩ ∧
    offtakeFilter (255 : Byte).toNat (255 : Byte).toNat (8 : Byte).toNat = none ∧
    (let s := walking (some 3)
     s.Taking ∧ s.ot.cursor.position = some 3 ∧ (3 : Fin 48) ≤ 3 ∧ s.entry 3 = some e4 ∧
      s.slotMatches s.ot.cursor.filter 3 = true ∧
      ∀ j : Fin 48, 3 ≤ j → j < 3 → s.slotMatches s.ot.cursor.filter j = false) ∧
    (let s := walking (some 4)
     s.Taking ∧ ∀ p ∈ s.ot.cursor.position, ∀ i : Fin 48, p ≤ i →
      s.slotMatches s.ot.cursor.filter i = false) ∧
    accountFilter (255 : Byte).toNat (4 : Byte).toNat (5 : Byte).toNat = some ⟨none, some .z4, some .damaged⟩ ∧
    accountFilter (255 : Byte).toNat (5 : Byte).toNat (255 : Byte).toNat = none ∧
    (let s := accountWalk (some 0)
     s.Taking ∧ s.hau.cursor.position = some 0 ∧ (0 : Fin 64) ≤ 0 ∧ s.account 0 = some acc ∧
      s.accountMatches s.hau.cursor.filter 0 = true ∧
      ∀ j : Fin 64, 0 ≤ j → j < 0 → s.accountMatches s.hau.cursor.filter j = false) ∧
    (let s := accountWalk (some 63)
     s.Taking ∧ ∀ p ∈ s.hau.cursor.position, ∀ i : Fin 64, p ≤ i →
      s.accountMatches s.hau.cursor.filter i = false) := by decide +kernel

theorem witness_ProtectionCommands :
    (plant.Serving ∧ plant.nvs.saving = none ∧ plant.bandEnforced = false ∧ 48 ∈ [0, 4, 8, 16, 32, 48]) ∧
    (locked.Serving ∧ locked.nvs.saving = none ∧ locked.bandEnforced = true) ∧
    plant.ot.permanentLock = false ∧
    (let s := { ran (.lockPermanently []) locked with cl := plant.cl }
     s.Serving ∧ s.ot.permanentLock = true) := by decide +kernel

/-- A POWER entry of the least yield with every power beyond its limit, by "any", under an enforced band;
a TOWN_HEAT entry in the last slot; a WORKS entry with zone and yield bytes that its class ignores. -/
theorem witness_AdmissionFillsASlot :
    ∀ x ∈ [(1, 255, 200, 0, 16777215, 255, Use.power 200, (5 : Fin 48)),
           (65535, 4, 65535, 7, 0, 47, .townHeat .z4, 47), (230, 255, 65535, 7, 0, 5, .works, 5)],
      match x with
      | (number, zone, yield, priority, power, choice, use, i) =>
        let s : State := { locked with ot := { locked.ot with
          entries := setAt locked.ot.entries 0 (some { e1 with number := 77 }), counter := 4294967294 } }
        s.Serving ∧ 1 ≤ number ∧ number < 65536 ∧ (∀ j, ∀ e ∈ s.entry j, e.number ≠ number) ∧ zone < 256 ∧
        yield < 65536 ∧ (∀ z ∈ [Zone.z1, .z2, .z3, .z4], use = .townHeat z → zone = z.number) ∧
        (∀ y ∈ [200, 500], use = .power y → yield = y ∧ 200 ≤ y ∧ y ≤ 500) ∧ priority ≤ 7 ∧
        SourceSet.isEmpty ⟨false, true, false⟩ = false ∧ power < 16777216 ∧ s.entry i = none ∧
        s.isProtected i = false ∧ (choice = i.val ∨
          (choice = 255 ∧ ∀ j < i, (s.entry j).isSome = true ∨ s.isProtected j = true)) ∧
        s.ot.counter < 4294967295 := by decide +kernel

/-- Every field marked, each at its greatest, and none. -/
theorem witness_AmendmentChangesTheMarkedFields :
    ∀ marks ∈ [0, 31], plant.Serving ∧ 3 < 65536 ∧ marks < 32 ∧ 7 < 256 ∧ 16777215 < 16777216 ∧
      plant.findOfftake 3 = some (2, e3) ∧ plant.isProtected 2 = false ∧ e3.damaged = false ∧
      (marks.testBit 0 = true → 7 ≤ 7) ∧
      (marks.testBit 1 = true → SourceSet.isEmpty ⟨true, true, true⟩ = false) ∧
      (if marks.testBit 2 then min 2000000 16777215 else e3.floor) ≤
        (if marks.testBit 3 then min 2000000 16777215 else e3.ceiling) := by decide +kernel

/-- Twelve pairs with the greatest number and demand, and one pair. -/
theorem witness_DemandsAreTakenInOrder : plant.Serving ∧ plant.NumbersUnique ∧
    ∀ l ∈ [List.replicate 12 (65535, 16777215), [(1, 0)]],
      1 ≤ l.length ∧ l.length ≤ 12 ∧ ∀ p ∈ l, p.1 < 65536 ∧ p.2 < 16777216 :=
  ⟨by decide +kernel, plant_numbers, by decide⟩

/-- An ACTIVE TOWN_HEAT and an ACTIVE POWER entry with grants, with no run and with one in flight. -/
theorem witness_SuspensionReleasesTheGrant :
    ∀ s ∈ [{ served with cl := plant.cl }, { ran (.startRun []) { served with cl := plant.cl } with cl := plant.cl }],
      s.Serving ∧ ∀ i ∈ [(3 : Fin 48), 4], s.isProtected i = false ∧ ∃ e ∈ s.entry i,
        s.findOfftake e.number = some (i, e) ∧ e.number < 65536 ∧ (e.state = .pending ∨ e.state = .active) ∧
          e.grant.total ≠ 0 := by decide +kernel

/-- Entries in each state, and a damaged one. -/
theorem witness_ReinstatementAndRetirement :
    ∀ x ∈ [(OfftakeState.suspended, false), (.suspended, true), (.active, false), (.retiring, false)],
      let e : Offtake := { e4 with state := x.1, damaged := x.2, number := 65535 }
      let s : State := { plant with ot := plantTable e1 e2 e3 e e5 }
      s.Serving ∧ 65535 < 65536 ∧ s.findOfftake 65535 = some (3, e) ∧ s.isProtected 3 = false := by
  decide +kernel

/-- `EngineSound` in parts that are decided one by one. -/
theorem sound_of (s : State)
    (a : ∀ i : Fin 48, ∀ e ∈ s.entry i,
      (e.state = .pending ∨ e.state = .suspended) → e.grant.parts = ⟨0, 0, 0⟩)
    (b : ∀ r ∈ s.ae.run, (r.parts.map RunPart.slot).Nodup)
    (c : ∀ r ∈ s.ae.run, ∀ p ∈ r.parts, p.grant = ⟨0, 0, 0⟩ ∧ p.floor ≤ p.need ∧ p.slot ∉ r.retiring ∧
      (s.entry p.slot).isSome = true)
    (d : ∀ r ∈ s.ae.run, ∀ p ∈ r.parts, ∀ e ∈ s.entry p.slot,
      (p.released = true → e.grant.parts = ⟨0, 0, 0⟩) ∧ (p.released = false → e.state ≠ .suspended))
    (f : ∀ r ∈ s.ae.run, ∀ i ∈ r.retiring,
      (s.entry i).isSome = true ∧ ∀ e ∈ s.entry i, e.state = .retiring)
    (g : ∀ r ∈ s.ae.run, ∀ i : Fin 48, ∀ e ∈ s.entry i, e.grant.parts ≠ ⟨0, 0, 0⟩ →
      i ∈ r.retiring ∨ ∃ p ∈ r.parts, p.slot = i ∧ p.released = false)
    (h : s.ae.rerunPending = true → s.ae.run.isSome = true) (u : s.startingUp = false) : s.EngineSound :=
  ⟨a, fun r m => ⟨b r m, c r m, d r m, f r m, g r m⟩, h, by simp [u]⟩

theorem running_sound : running.EngineSound := by apply sound_of <;> decide +kernel

theorem mixed_sound : mixed.EngineSound := by apply sound_of <;> decide +kernel

theorem mixed_run : mixed.ae.run.isSome = true ∧
    ∀ r ∈ mixed.ae.run, r.retiring = [1] ∧ (r.parts.map RunPart.released).contains true := by
  decide +kernel

/-- Slot 3 lies in the enforced band and holds an ACTIVE entry, when a run is in flight. -/
theorem witness_TheBandProtectsItsEntries :
    let s : State := { running with lockLine := true, settings := locked.settings }
    s.EngineSound ∧ s.startingUp = false ∧ isReset .runCompletion = false ∧ s.isProtected 3 = true ∧
      (s.entry 3).isSome = true ∧ exec .runCompletion s = .next (ran .runCompletion s) := by
  refine ⟨?_, by decide +kernel, by decide +kernel, by decide +kernel, by decide +kernel, rfl⟩
  apply sound_of <;> decide +kernel

/-- The plant with a store that holds its tables. -/
def kept : State :=
  { plant with store := { plant.store with
      offtakes := mapTable (fun e => ⟨storedOfftake e, true⟩) plant.ot.entries
      accounts := mapTable (fun a => ⟨storedAccount a, true⟩) plant.hau.accounts } }

/-- The same part when it starts up again, with one record of each table torn. -/
def restarting : State :=
  { State.reset with
    store := { kept.store with
      offtakes := setAt kept.store.offtakes 1 ⟨e1.stored, false⟩
      accounts := setAt kept.store.accounts 9 ⟨acc.stored, false⟩ }
    pending := [.startUpComplete] }

/-- An admission waits in the queue. -/
def admitting : State := { kept with pending := [.admitOfftake (admit230 255)] }

theorem witness_NumbersStayUnique :
    (admitting.startingUp = false ∧ admitting.NumbersUnique ∧ admitting.TableStored ∧
      ∃ t, step admitting = .next t) ∧
    (restarting.startingUp = true ∧ restarting.NumbersUnique ∧ restarting.TableStored ∧
      ∃ t, step restarting = .next t) := by
  refine ⟨⟨by decide +kernel, plant_numbers, ⟨?_, ?_, ?_, ?_⟩, _, rfl⟩,
    ⟨by decide +kernel, ?_, ⟨?_, ?_, ?_, ?_⟩, _, rfl⟩⟩
  all_goals first | decide +kernel | (unfold State.NumbersUnique; decide +kernel)

theorem witness_RunRequests : faulted.nvs.settingsFault = true ∧
    (running.nvs.settingsFault = false ∧ running.ae.run.isSome = true ∧ running.ae.dispatch.isSome = true) ∧
    (plant.nvs.settingsFault = false ∧ plant.ae.run = none) ∧
    (∀ s ∈ [plant, faulted],
      ({ s with ae := { s.ae with dispatch := some 1000000, runNumber := 65535 } } : State).ae.dispatch =
        some 1000000) := by decide +kernel

theorem witness_StartRunAndAbortRun : plant.Serving ∧ (alone.Taking ∧ alone.cl.standalone = true) ∧
    (faulted.Serving ∧ faulted.nvs.settingsFault = true) ∧ (plant.nvs.settingsFault = false ∧ plant.ae.run = none) ∧
    (running.Serving ∧ running.nvs.settingsFault = false ∧ running.ae.run.isSome = true) := by decide +kernel

theorem witness_FlareEnergyIsIntegrated :
    plant.store.flare = ⟨⟨plant.ae.flareTotal, plant.ae.flareResidue⟩, true⟩ ∧ plant.Taking ∧ plant.Serving ∧
    ({ plant with ae := { plant.ae with flareTimer := some 1000000 } } : State).ae.flareTimer = some 1000000 := by
  decide +kernel

/-- A participant of the plant, with pools that cannot meet its floor. -/
theorem witness_FloorsAreServedFromAcceptedPools : ∃ p ∈ plant.participants, p.grant = ⟨0, 0, 0⟩ ∧
    p.short = false ∧ (serveFloor ⟨5, 0, 0⟩ p).2.short = true := by decide +kernel

/-- The odd kilowatts of section 3.13, and a pool one below the need. -/
theorem witness_ProportionalSharesAreExact :
    let ps : List RunPart := [20, 21, 22, 23].map fun n =>
      { slot := 0, sequence := n, priority := 3, accepted := ⟨false, false, true⟩, need := 3, floor := 0
        grant := ⟨0, 0, 0⟩, short := false, released := false }
    ∀ pool ∈ [1, 10, 11], 0 < pool ∧ pool < sumNeed 3 .cog ps := by decide +kernel

theorem witness_PassesShareOutExactlyThePools : running.ae.run.isSome = true ∧
    ∀ r ∈ running.ae.run, r.parts ≠ [] ∧ ∀ p ∈ r.parts, p.grant = ⟨0, 0, 0⟩ ∧ p.floor ≤ p.need := by decide +kernel

theorem witness_CompletionPublishesTheRun : mixed.ae.run.isSome = true ∧ ∀ r ∈ mixed.ae.run, mixed.RunFits r :=
  ⟨mixed_run.1, mixed_sound.2.1⟩

theorem witness_EveryKilowattIsAccountedFor : mixed.EngineSound ∧ mixed.Conserved ∧
    ∃ t, step mixed = .next t := by
  refine ⟨mixed_sound, ?_, _, rfl⟩
  unfold State.Conserved
  intro src
  cases src <;> decide +kernel

theorem witness_CoverageStaysInRange : mixed.EngineSound ∧ mixed.CoverageSound ∧
    ∃ t, step mixed = .next t := by
  refine ⟨mixed_sound, ?_, _, rfl⟩
  unfold State.CoverageSound
  intro z
  cases z <;> decide +kernel

/-- E5 has a boost at the maximum. -/
def boosted : State :=
  { running with ot := powering 20000, pending := [.setSetting [0x2D, 0, 0, 0x10, 0]] }

theorem witness_BoostsStayInRange : boosted.EngineSound ∧ boosted.BoostsInRange ∧
    (boosted.entry 4).map (·.boost) = some boosted.settings.boostMax ∧ ∃ t, step boosted = .next t := by
  refine ⟨?_, ?_, by decide +kernel, _, rfl⟩
  · apply sound_of <;> decide +kernel
  · unfold State.BoostsInRange
    decide +kernel

/-- BFG withdrawn by a condition that is over, its retry timer running. -/
def retrying : State := bfgAt 3100 (bfgAt 2700 plant)

theorem retrying_admission : retrying.AdmissionFollowsHolds := by
  unfold State.AdmissionFollowsHolds
  intro src
  cases src <;> decide +kernel

/-- A condition that appears under each mode, and one that is over. -/
theorem witness_FaultModesAct :
    (∀ m ∈ [FaultMode.off, .report, .latch, .retry],
      let s : State := { plant with settings := { plantSettings with
        modes := setAt plantSettings.modes 4 m } }
      (s.monitor (.gas .bfg .ncvLow)).raw = false ∧ s.mode (.gas .bfg .ncvLow) = m) ∧
    ((bfgAt 2700 plant).monitor (.gas .bfg .ncvLow)).raw = true ∧
    ((retrying.monitor (.gas .bfg .ncvLow)).timer = some 1060000 ∧ retrying.AdmissionFollowsHolds) :=
  ⟨by decide +kernel, by decide +kernel, by decide +kernel, retrying_admission⟩

/-- Two monitors named, one of them twice; and a pair that names none. -/
theorem witness_ClearFaultsClearsWhatIsOver :
    (({ retrying with cl := plant.cl } : State).Serving ∧
      ({ retrying with cl := plant.cl } : State).AdmissionFollowsHolds) ∧
    (let l : List (Byte × Byte) := [(1, 0), (1, 3), (1, 0)]
     1 ≤ l.length ∧ l.length ≤ 15 ∧ l.mapM (fun c => Monitor.ofCodes c.1.toNat c.2.toNat) =
       some [.gas .bfg .ncvLow, .gas .bfg .stale, .gas .bfg .ncvLow]) ∧
    (let l : List (Byte × Byte) := [(1, 0), (9, 0)]
     1 ≤ l.length ∧ l.length ≤ 15 ∧ l.mapM (fun c => Monitor.ofCodes c.1.toNat c.2.toNat) = none) :=
  ⟨⟨by decide +kernel, retrying_admission⟩, by decide +kernel, by decide +kernel⟩

theorem witness_CountersAlertsAndMask : plant.Taking ∧ 65535 < 65536 ∧ plant.cl.standalone = false ∧
    plant.nvs.saving = none := by decide +kernel

theorem witness_AdmissionFollowsTheHolds :
    ({ retrying with pending := [.retryTimerExpiry (.gas .bfg .ncvLow)] } : State).AdmissionFollowsHolds ∧
    ∃ t, step { retrying with pending := [.retryTimerExpiry (.gas .bfg .ncvLow)] } = .next t :=
  ⟨retrying_admission, _, rfl⟩

theorem witness_WalkGoesRoundTheList :
    (∀ k ∈ [0, 5], (gapAt k).flc.phase = some .gap ∧ (gapAt k).flc.gapTimer = some 1000000 ∧
      (gapAt k).settings.pollList ≠ []) ∧
    (let s : State := { gapAt 0 with settings := Settings.defaults }
     s.flc.phase = some .gap ∧ s.flc.gapTimer = some 1000000 ∧ s.settings.pollList = []) ∧
    plant.flc.phase = some .query := by decide +kernel

/-- The plant with the roles at the ends of the address range: BFG at 127, the holder at 1, and the
queried station LIVE. -/
def ends (address : Nat) : State :=
  awaiting (State.setStation { plant with
    settings := { plantSettings with roles := ⟨⟨10, 127, 12⟩, 1, 126⟩ } } address live) address

/-- A report for each outcome of R102 on station 13, which holds the HOLDER role. -/
theorem witness_MissesAndTheOrderOfChecks :
    (∀ a ∈ [1, 127], (awaiting plant a).flc.phase = some .await ∧
      (awaiting plant a).flc.replyTimer = some 1000040 ∧ 1 ≤ (awaiting plant a).flc.queried ∧
      (awaiting plant a).flc.queried ≤ 127) ∧
    (plant.role 13).kind = some .holder ∧ plant.role 77 = .unbound ∧
    (∀ sum ∈ [(1 : Byte), 255], sum ≠ 0) ∧
    (∀ x ∈ [(Report.mk 0 13 (.gas 0 0) 0, LastEvent.kind), (⟨0, 13, .holder 1000, 1⟩, .stationFault),
        (⟨0, 13, .holder 1001, 0⟩, .range), (⟨0, 12, .holder 0, 0⟩, .address), (⟨9, 13, .holder 0, 0⟩, .check)],
      plant.judge 13 x.1 = .miss x.2) ∧
    plant.judge 13 ⟨0, 13, .holder 1000, 2⟩ = .good .holder (.holder 1000) ∧
    (∀ x ∈ [(11, Role.gas .bfg), (13, .holder), (14, .export_), (40, .heat 0), (77, .unbound)],
      let s := awaiting (plant.setStation x.1 ⟨.live, 2, 2, .timeout, some 0⟩) x.1
      s.flc.phase = some .await ∧ s.flc.replyTimer = some 1000040 ∧ s.role s.flc.queried = x.2 ∧
      ((s.station s.flc.queried).state ≠ .stale ∧
        s.settings.staleThreshold ≤ min 255 ((s.station s.flc.queried).misses + 1))) ∧
    (∀ x ∈ [(reportOf 13 1 [0, 0, 0, 0, 0], LastEvent.kind), (reportOf 13 2 [3, 0xE9], .range),
        (reportOf 12 2 [0, 0], .address), ([13, 2, 0, 0, 0, 0], .check), ([13, 2, 2, 0x6C, 1, 0x82], .stationFault)],
      let s := awaiting plant 13
      s.flc.phase = some .await ∧ s.flc.queried = 13 ∧
        (Report.read x.1).map (s.judge s.flc.queried) = some (.miss x.2)) ∧
    (let s := awaiting plant 77
     s.role s.flc.queried = .unbound ∧
      Report.read (reportOf 77 2 [3, 0xE8]) = some ⟨0, s.flc.queried, .holder 1000, 0⟩) := by
  decide +kernel

def gasReport (address flow ncv : Nat) : List Byte := reportOf address 1 (beBytes 3 flow ++ beBytes 2 ncv)

/-- The station at an address is STALE, and the STALE monitor of its role holds the source withdrawn. -/
def silent (s : State) (address : Nat) (m : Monitor) : State :=
  State.setAdmission (State.setMonitor (s.setStation address ⟨.stale, 3, 3, .timeout, some 0⟩) m
    ⟨true, true, true, 1, none⟩) (actsOn m) .withdrawn

/-- The least and the greatest report of BFG, from station 127, and of CVG, from station 10; from a station
that is LIVE and from one that returns. -/
theorem witness_GasReportSetsTheAvailability :
    ∀ y ∈ [(Source.bfg, ends 127), (.bfg, silent (ends 127) 127 (.gas .bfg .stale)),
        (.cvg, awaiting plant 10), (.cvg, silent (awaiting plant 10) 10 (.gas .cvg .stale))],
    ∀ x ∈ [(0, 5000), (999999, 40000)],
      let s := y.2
      s.flc.phase = some .await ∧ 1 ≤ s.flc.queried ∧ s.flc.queried ≤ 127 ∧
      s.role s.flc.queried = .gas y.1 ∧
      Report.read (gasReport s.flc.queried x.1 x.2) = some ⟨0, s.flc.queried, .gas x.1 x.2, 0⟩ ∧
      (0 : Byte).getLsbD 0 = false ∧ x.1 ≤ 999999 ∧ x.2 ≤ 40000 ∧
      (s.settings.limits.get y.1).ncvMin ≤ x.2 ∧ x.2 ≤ (s.settings.limits.get y.1).ncvMax ∧
      x.1 ≤ (s.settings.limits.get y.1).flowMax ∧
      (∀ k ∈ [GasCondition.ncvLow, .ncvHigh, .flowHigh], (s.monitor (.gas y.1 k)).raw = false) ∧
      (s.fs.admission.get y.1 = .withdrawn ↔ s.anyHold y.1 = true) := by decide +kernel

/-- One below the minimum, with a run in flight and without; the modes of the defaults hold. -/
theorem witness_LeanGasWithdrawsTheSource :
    ∀ s ∈ [ends 127, (ends 127).startRun], s.flc.phase = some .await ∧ 1 ≤ s.flc.queried ∧
      s.flc.queried ≤ 127 ∧ s.role s.flc.queried = .gas .bfg ∧
      Report.read (gasReport 127 0 2999) = some ⟨0, s.flc.queried, .gas 0 2999, 0⟩ ∧
      (0 : Byte).getLsbD 0 = false ∧ 2999 < (s.settings.limits.get .bfg).ncvMin ∧
      s.mode (.gas .bfg .ncvLow) = .retry ∧ (s.monitor (.gas .bfg .ncvLow)).raw = false ∧
      s.fs.admission.get .bfg = .admitted ∧ s.nvs.settingsFault = false := by decide +kernel

/-- Settings that only just are consistent; and the trip levels themselves, from station 1: one changes the
band, the other too, and 620 does not. -/
theorem witness_HolderReportSetsTheDraw :
    (let c : HolderSettings := ⟨300, 500, 100, 0, 0, 0, 1000⟩
     c.lLo + c.hyst ≤ c.lHi - c.hyst ∧ c.hyst ≤ c.lHi) ∧
    HolderBand.low ≠ .unknown ∧
    (∀ s ∈ [ends 1, silent (ends 1) 1 .holderStale],
      ∀ x ∈ [(50, HolderBand.low), (620, .normal), (950, .high)],
      s.flc.phase = some .await ∧ 1 ≤ s.flc.queried ∧ s.flc.queried ≤ 127 ∧
      s.role s.flc.queried = .holder ∧
      Report.read (reportOf 1 2 (beBytes 2 x.1)) = some ⟨0, s.flc.queried, .holder x.1, 0⟩ ∧
      (0 : Byte).getLsbD 0 = false ∧ x.1 ≤ 1000 ∧ s.settings.holder.tripLow ≤ x.1 ∧ x.1 ≤ s.settings.holder.tripHigh ∧
      (s.monitor .levelLowTrip).raw = false ∧ (s.monitor .levelHighTrip).raw = false ∧
      (s.fs.admission.get .cvg = .withdrawn ↔ s.anyHold .cvg = true) ∧
      stepBand s.sm.holder.band x.1 s.settings.holder = x.2 ∧
      (s.sm.holder.band = .normal ∧ s.nvs.settingsFault = false ∧ s.ae.run = none)) := by decide +kernel

/-- Stations 1 and 127; a first part of one position, and a final list of 96. -/
theorem witness_StationAndPollListCommands :
    (∀ a ∈ [(1 : Byte), 127], plant.Taking ∧ 1 ≤ a.toNat ∧ a.toNat ≤ 127) ∧
    (plant.Serving ∧ plant.nvs.saving = none) ∧
    (∀ a ∈ List.replicate 59 (127 : Byte), 1 ≤ a.toNat ∧ a.toNat ≤ 127) ∧
    (let s : State := { plant with flc := { plant.flc with staged := some (List.replicate 37 1) } }
     s.Serving ∧ s.nvs.saving = none ∧ s.flc.staged.isSome = true ∧
      (s.flc.staged.getD [] ++ (List.replicate 59 (127 : Byte)).map BitVec.toNat).length ≤ 96) ∧
    (plant.flc.polling = .running ∧ plant.flc.phase = some .query) ∧
    ((gapAt 3).Serving ∧ (gapAt 3).nvs.saving = none ∧ (gapAt 3).flc.polling = .running ∧
      (gapAt 3).flc.phase = some .gap) ∧
    (∀ p ∈ [Polling.empty, .stopped],
      let s : State := { plant with flc := { FieldLine.blank with polling := p } }
      s.Serving ∧ s.nvs.saving = none ∧ s.flc.polling = p) ∧
    ((∀ a ∈ ([] : List Byte), 1 ≤ a.toNat ∧ a.toNat ≤ 127) ∧ ([] : List Byte).map BitVec.toNat = []) := by
  decide +kernel

/-- The plant with another account in slot 0. -/
def holding (a : Account) : State :=
  { plant with hau := { plant.hau with accounts := setAt plant.hau.accounts 0 (some a) } }

/-- The greatest number, station and limit; and an account in each state. -/
theorem witness_AccountsAreOpenedAndEnded :
    (∀ x ∈ [(1, 1, 0), (4294967295, 127, 16777215)],
      plant.Serving ∧ 1 ≤ x.1 ∧ x.1 < 4294967296 ∧ 1 ≤ x.2.1 ∧ x.2.1 ≤ 127 ∧ x.2.2 < 16777216 ∧
      (∀ j, ∀ y ∈ plant.account j, y.number ≠ x.1 ∧ y.station ≠ x.2.1) ∧
      plant.settings.roles.holds x.2.1 = false ∧ plant.account 1 = none ∧
      ∀ j < (1 : Fin 64), (plant.account j).isSome = true) ∧
    (∀ y ∈ [acc, { acc with state := .holding, closed := some ⟨⟨0, 1⟩, ⟨2, 3⟩, 17⟩ }, { acc with state := .closing },
        acc.finish, { acc with damaged := true }],
      let s : State := holding { y with number := 4294967295 }
      s.Serving ∧ 4294967295 < 4294967296 ∧
        s.findAccount 4294967295 = some (0, { y with number := 4294967295 })) := by decide +kernel

/-- A close that sets the bands aside, and one that finds the copy waiting. -/
theorem witness_BillingCloseNeverOverwritesACopy :
    (plant.Serving ∧ (plant.account 0).map (fun a => (a.damaged, a.state, a.closed)) =
      some (false, .opened, none)) ∧
    (let s : State := { closedOnce with cl := plant.cl }
     s.Serving ∧ (s.account 0).map (fun a => (a.damaged, a.state, a.closed.isSome)) =
      some (false, .opened, true)) ∧ plant.account 1 = none := by decide +kernel

/-- Both bands at their end, the greatest residue, and full coverage. -/
theorem witness_EveryWattHourIsBilledOnce :
    let a : Account := { acc with
      residue := 99999, recovered := ⟨999999999, 999⟩, fired := ⟨999999999, 999⟩ }
    (1000 ≤ 1000 ∧ a.residue < 100000 ∧ EnergyBand.content a.recovered ≤ 999999999999 ∧
      EnergyBand.content a.fired ≤ 999999999999) ∧
    (EnergyBand.content acc.recovered + 585134 ≤ 999999999999 ∧
      EnergyBand.content acc.fired + 585134 ≤ 999999999999) := by decide +kernel

/-- The account in every state that a report treats alone, with the greatest and a plausible reading. -/
theorem witness_HeatReportIsBilled :
    ∀ live ∈ [true, false], ∀ a ∈ [acc, { acc with state := .closing }, { acc with state := .holding }, { acc with baseline := none },
        acc.finish, { acc with damaged := true }],
      let s := awaiting (if live then holding a
        else State.setStation (holding a) 40 ⟨.stale, 3, 3, .timeout, some 0⟩) 40
      s.flc.phase = some .await ∧ 1 ≤ s.flc.queried ∧ s.flc.queried ≤ 127 ∧
      s.role s.flc.queried = .heat 0 ∧ s.account 0 = some a ∧
      ∀ x ∈ [(7500, 2000000, (15000 : Int), (15000 : Int)), (99999999, 0, -2000, -2000),
          (99994999, 0, 0, 0)],
        Report.read (reportOf 40 4 (beBytes 4 x.1 ++ beBytes 3 x.2.1 ++ beInt 2 x.2.2.1 ++ beInt 2 x.2.2.2)) =
          some ⟨0, s.flc.queried, .heat x.1 x.2.1 x.2.2.1 x.2.2.2, 0⟩ ∧ (0 : Byte).getLsbD 0 = false ∧
        x.1 < 100000000 ∧ x.2.1 ≤ 2000000 ∧ -2000 ≤ x.2.2.1 ∧ x.2.2.1 ≤ 15000 ∧ -2000 ≤ x.2.2.2 ∧
        x.2.2.2 ≤ 15000 ∧ (a.baseline.map fun base =>
          a.plausible ⟨x.1, x.2.2.1, x.2.2.2, s.now⟩ base) = a.baseline.map fun _ => x.1 != 99994999 := by
  decide +kernel

theorem witness_AccountsAndCopiesLeaveByCollection :
    (closedOnce.startingUp = false ∧ isReset (.closeBillingPeriod []) = false ∧
      (closedOnce.account 0).isSome = true ∧ exec (.closeBillingPeriod []) closedOnce =
        .next (ran (.closeBillingPeriod []) closedOnce)) ∧
    (let s : State := { ran (.forceFinal (beBytes 4 7004)) closing with cl := plant.cl }
     exec (.collectAccount (beBytes 4 7004)) s = .next (ran (.collectAccount (beBytes 4 7004)) s)) :=
  ⟨⟨by decide +kernel, by decide, by decide +kernel, rfl⟩, rfl⟩

/-- A second account is opened beside the one of section 6.11. -/
def opening : State := { kept with pending := [.openAccount (beBytes 4 7005 ++ [41, 2] ++ beBytes 3 60000)] }

theorem witness_BindingsStayApart :
    ∀ s ∈ [opening, restarting], s.BindingsApart ∧ s.AccountNumbersUnique ∧ s.AccountsStored ∧
      ∃ t, step s = .next t := by
  intro s h
  simp only [List.mem_cons, List.not_mem_nil, or_false] at h
  rcases h with rfl | rfl
  all_goals
    refine ⟨⟨?_, ?_⟩, ?_, ⟨?_, ?_, ?_⟩, _, rfl⟩
    all_goals first | decide +kernel | (unfold State.AccountNumbersUnique; decide +kernel) |
      (unfold Checked.holdsAccount; decide +kernel)

/-- The greatest number and declaration, and the last second of a period; with no period and with one. -/
theorem witness_SettlementCommands :
    (plant.Serving ∧ 4294967295 < 4294967296 ∧ 2000000 ≤ 2000000 ∧ 899 < 65536 ∧ plant.esu.current = none ∧
      899 < plant.settings.periodLength) ∧
    (metering.Serving ∧ metering.esu.current.isSome = true) ∧
    ({ metering with ot := powering 20000 } : State).BoostsInRange := by
  refine ⟨by decide +kernel, by decide +kernel, ?_⟩
  unfold State.BoostsInRange
  decide +kernel

/-- The last number, with a declaration for the next period and without. -/
theorem witness_PeriodsFollowOneAnother :
    ∀ d ∈ [none, some (Declaration.mk 5002 9000)],
      let p : Period := ⟨4294967295, 10000, 0, 900, 9500000, none, false, false⟩
      let s : State := { metering with esu := { metering.esu with current := some p, next := d } }
      s.esu.current = some p ∧ s.esu.timer = some 900000 ∧ p.number < 4294967296 := by decide +kernel

/-- The report of section 7.8, and one whose difference is the greatest a register can show. -/
theorem witness_ExportReportIsCredited :
    let s := awaiting { metering with ot := powering 0 } 14
    s.flc.phase = some .await ∧ 1 ≤ s.flc.queried ∧ s.flc.queried ≤ 127 ∧ s.role s.flc.queried = .export_ ∧
    (∀ x ∈ [(623333, true), (999989999, false)],
      Report.read (reportOf 14 3 (beBytes 4 x.1)) = some ⟨0, s.flc.queried, .export_ x.1, 0⟩ ∧
      (0 : Byte).getLsbD 0 = false ∧ x.1 < 1000000000 ∧
      decide ((x.1 + 1000000000 - 999990000) % 1000000000 ≤ 60000 * (s.now - 2000).toNat / 3600 + 1000) = x.2) ∧
    (s.esu.current.isSome = true ∧ s.esu.baseline = some ⟨999990000, 2000⟩) ∧
    (plant.esu.current = none ∧ (awaiting plant 14).role 14 = .export_) ∧
    (let u : State := { metering with esu := { metering.esu with baseline := none } }
     u.esu.current.isSome = true ∧ u.esu.baseline = none ∧ (awaiting u 14).role 14 = .export_) := by
  decide +kernel

/-- The STALE condition of BFG at address 11 and the two of the holder stand; station 50 is STALE. -/
def crowded : State :=
  State.setMonitor (State.setMonitor (plant.setStation 50 ⟨.stale, 3, 3, .timeout, some 0⟩)
    (.gas .bfg .stale) ⟨true, true, false, 1, none⟩) .levelLowTrip ⟨true, true, false, 1, none⟩

/-- What the owners take: every role moved, to a LIVE, a STALE and no station; other draws; another mode
with the condition present and absent; another interval, load, boost maximum and link timeout. -/
theorem witness_settings_taken_over :
    (∀ l ∈ [[(0x22, 60), (0x23, 50), (0x24, 50 + 1), (0x25, 0), (0x26, 50 + 2)],
        [(0x25, 50), (0x26, 0)], [(0x26, 50)], [(0x0E, 41000), (0x0F, 56000)],
        [(0x12 + 4, 0), (0x12 + 7, 2), (0x12 + 12, 1), (0x01, 0), (0x2F, 1), (0x2D, 7), (0x30, 9)]],
      ∃ c, crowded.settings.setItems l = some c ∧ c.consistent = true ∧ c ≠ crowded.settings ∧
        ∀ a ∈ c.roles.list, crowded.isBound a = false) ∧
    (crowded.Serving ∧ crowded.nvs.saving = none ∧ crowded.bandEnforced = false ∧
      crowded.sm.holder.band ≠ .unknown) ∧
    ((crowded.monitor (.gas .bfg .stale)).raw = true ∧ (crowded.monitor (.gas .cog .stale)).raw = false ∧
      (crowded.monitor .levelLowTrip).raw = true ∧ (crowded.station 50).state = .stale ∧
      (crowded.station 60).state ≠ .stale) := by
  refine ⟨?_, by decide +kernel⟩
  intro l hl
  simp only [List.mem_cons, List.not_mem_nil, or_false] at hl
  rcases hl with rfl | rfl | rfl | rfl | rfl <;> exact ⟨_, rfl, by decide +kernel⟩

/-- Ten items with the greatest values; one that leaves the settings inconsistent; one that names no
parameter; and a bound address as a role. -/
theorem witness_SettingsAreWrittenWhole :
    (plant.Serving ∧ plant.nvs.saving = none ∧ plant.bandEnforced = false) ∧
    (locked.Serving ∧ locked.nvs.saving = none ∧ locked.bandEnforced = true ∧
      decide (0x32 ≤ 0x34 ∧ 0x34 ≤ 0x34) = true) ∧
    (let l := List.replicate 10 (0x2F, 4294967295)
     1 ≤ l.length ∧ l.length ≤ 10 ∧ (∀ x ∈ l, x.1 < 256 ∧ x.2 < 4294967296) ∧
      plant.settings.setItems l = some { plantSettings with stationLoad := 200000 } ∧
      ({ plantSettings with stationLoad := 200000 } : Settings).consistent = true ∧
      ∀ a ∈ ({ plantSettings with stationLoad := 200000 } : Settings).roles.list, plant.isBound a = false) ∧
    plant.settings.setItems [(255, 0)] = none ∧
    ((plant.settings.setItems [(0x0B, 900)]).map Settings.consistent = some false) ∧
    ((plant.settings.setItems [(0x22, 40)]).map fun c => c.roles.list.any plant.isBound) = some true ∧
    (3 < 4 ∧ Monitor.holderStale ≠ .levelHighTrip ∧ (0 = 0 ∨ 0x34 < 0) ∧
      (plantSettings.setItem 0x1F 3).isSome = true ∧ (plantSettings.setItem 0x20 3).isSome = true) := by
  decide +kernel

/-- The stored settings have a poll list that delists the LIVE station of each kind of role. -/
def shorter : State :=
  { crowded with store := { plant.store with settings := ⟨{ plantSettings with pollList := [10, 50] }, true⟩ } }

theorem witness_restore_delists : (shorter.Serving ∧ shorter.nvs.saving = none ∧
      shorter.store.settings.good = true) ∧
    (∀ r ∈ [Role.gas .bfg, .gas .cog, .holder, .export_, .heat 0],
      shorter.dropsRole shorter.store.settings.value r = true) ∧
    shorter.dropsRole shorter.store.settings.value (.gas .cvg) = false ∧
    (∀ p ∈ [Polling.stopped, .empty, .running],
      ({ shorter with flc := { shorter.flc with polling := p } } : State).Serving) := by decide +kernel

/-- Saving, restoring with the band enforced and not, and an INVALID record. -/
theorem witness_SettingsAreSavedAndRestored :
    (plant.Serving ∧ plant.nvs.saving = none ∧ plant.store.settings.good = true ∧ plant.bandEnforced = false) ∧
    (saving.Serving ∧ saving.nvs.saving.isSome = true) ∧
    (locked.Serving ∧ locked.nvs.saving = none ∧ locked.store.settings.good = true ∧
      locked.bandEnforced = true) ∧
    (let s : State := { plant with store := { plant.store with settings := ⟨plantSettings, false⟩ } }
     s.Serving ∧ s.nvs.saving = none ∧ s.store.settings.good = false) := by decide +kernel

end Sys2Proof.Machine.Tests
end

section
/-! PROOF. START RUN and ABORT RUN (R51, R72, R73): what a frame that carries a gated command without
payload comes to, what a run request and an integration point do over a frame that was taken, and the
statement assembled from these. -/

namespace Sys2Proof.Machine

/-! ## Gated commands without payload -/

/-- In standalone operation a gated command is refused before its owner looks at it (R155). -/
theorem State.takeFrame_gated_of_standalone {s : State} (h : s.Taking) (k : s.cl.standalone = true)
    (own : State → Answer) : s.takeFrame (gated own) = s.answered ⟨.standalone, []⟩ := by
  rw [State.takeFrame_of_taking h]
  simp [gated, k, State.refuse, State.respond_frameTaken]

/-- A payload where none belongs is BAD_LENGTH (R163). -/
theorem State.takeFrame_gated_bare_cons {s : State} (h : s.Serving) (b : Byte) (p : List Byte)
    (own : State → Answer) :
    s.takeFrame (gated (bare (b :: p) own)) = s.answered ⟨.badLength, []⟩ := by
  rw [State.takeFrame_gated_of_serving h]
  exact s.respond_frameTaken _

/-- A command that its owner refuses leaves only the refusal (R163). -/
theorem State.takeFrame_gated_bare_nil_of_refuse {s : State} (h : s.Serving) {own : State → Answer}
    {code : ResultCode} (k : own s.frameTaken = s.frameTaken.refuse code) :
    s.takeFrame (gated (bare [] own)) = s.answered ⟨code, []⟩ := by
  rw [State.takeFrame_gated_of_serving h]
  change (own s.frameTaken).state.respond (own s.frameTaken).reply = _
  rw [k]
  exact s.respond_frameTaken _

/-- A command that its owner answers from a state whose link is as the frame left it. -/
theorem State.takeFrame_gated_bare_nil_of_answer {s t : State} (h : s.Serving) {own : State → Answer}
    {r : Reply} (k : own s.frameTaken = ⟨r, t⟩) (l : t.cl = s.linkAfter s.cl.response) :
    s.takeFrame (gated (bare [] own)) = { t with cl := s.linkAfter r } := by
  rw [State.takeFrame_gated_of_serving h]
  change (own s.frameTaken).state.respond (own s.frameTaken).reply = _
  rw [k]
  exact State.respond_of_cl l r

/-! ## What the engine reads is as the frame found it -/

@[simp] theorem State.frameTaken_ae (s : State) : s.frameTaken.ae = s.ae := by
  rw [State.frameTaken_eq]; rfl

@[simp] theorem State.frameTaken_nvs (s : State) : s.frameTaken.nvs = s.nvs := by
  rw [State.frameTaken_eq]; rfl

/-- A run request changes the engine alone (R49, R52). -/
theorem State.requestRun_eq (s : State) : s.requestRun = { s with ae := s.requestRun.ae } := by
  unfold State.requestRun
  (repeat' split) <;> rfl

/-- In RUNNING a request sets rerun-pending (R49). -/
theorem State.requestRun_of_running {s : State} (hf : s.nvs.settingsFault = false)
    (hr : s.ae.run.isSome = true) :
    s.requestRun = { s with ae := { s.ae with rerunPending := true } } := by
  obtain ⟨r, hr⟩ := Option.isSome_iff_exists.1 hr
  simp [State.requestRun, hf, hr]

/-- The picture a run takes reads nothing of the link but the standalone flag, which a frame keeps. -/
theorem State.requestRun_frameTaken (s : State) :
    s.frameTaken.requestRun = { s.requestRun with cl := s.linkAfter s.cl.response } := by
  rw [State.frameTaken_eq]
  change State.requestRun { s with cl := _ } = _
  unfold State.requestRun
  dsimp only
  (repeat' split) <;> rfl

/-- An integration point changes the engine and the stored flare record (R69, R70). -/
theorem State.integrateFlare_eq (s : State) : s.integrateFlare =
    { s with ae := s.integrateFlare.ae, store := { s.store with flare := s.integrateFlare.store.flare } } := by
  unfold State.integrateFlare
  dsimp only
  split <;> rfl

/-- An integration point leaves the dispatch timer alone (R69). -/
@[simp] theorem State.integrateFlare_dispatch (s : State) :
    s.integrateFlare.ae.dispatch = s.ae.dispatch := by
  unfold State.integrateFlare
  dsimp only
  split <;> rfl

/-- An integration point reads nothing of the link. -/
theorem State.integrateFlare_frameTaken (s : State) :
    s.frameTaken.integrateFlare = { s.integrateFlare with cl := s.linkAfter s.cl.response } := by
  rw [State.frameTaken_eq]
  change State.integrateFlare { s with cl := _ } = _
  unfold State.integrateFlare
  dsimp only
  split <;> rfl

/-- An abort makes an integration point, discards the run and sets RUN_ABORTED; nothing else (R72). -/
theorem State.abortRun_eq (s : State) : s.abortRun = { s with
    ae := { s.integrateFlare.ae with run := none }
    fs := { s.fs with alerts := s.fs.alerts ||| AlertFlag.runAborted.bit }
    store := { s.store with flare := s.integrateFlare.store.flare } } := by
  unfold State.abortRun
  rw [State.integrateFlare_eq]
  rfl

/-! ## The two commands at their owner -/

theorem exec_startRun (p : List Byte) (s : State) :
    exec (.startRun p) s = .next (s.takeFrame (gated (bare p startRunCommand))) := rfl

theorem exec_abortRun (p : List Byte) (s : State) :
    exec (.abortRun p) s = .next (s.takeFrame (gated (bare p abortRunCommand))) := rfl

theorem startRunCommand_of_settingsFault {s : State} (hf : s.nvs.settingsFault = true) :
    startRunCommand s = s.refuse .settingsFault := by
  simp [startRunCommand, hf]

theorem startRunCommand_of_no_settingsFault {s : State} (hf : s.nvs.settingsFault = false) :
    startRunCommand s = ⟨⟨if s.ae.run.isSome then .queued else .ok, []⟩, s.requestRun⟩ := by
  simp [startRunCommand, hf]

theorem abortRunCommand_of_settingsFault {s : State} (hf : s.nvs.settingsFault = true) :
    abortRunCommand s = s.refuse .wrongState := by
  simp [abortRunCommand, hf]

/-- In IDLE there is nothing to abort, with or without the settings-fault condition (R73). -/
theorem abortRunCommand_of_idle {s : State} (hr : s.ae.run = none) :
    abortRunCommand s = s.refuse .wrongState := by
  cases hf : s.nvs.settingsFault <;> simp [abortRunCommand, hf, hr]

/-- The state ABORT RUN leaves in RUNNING: past an integration point, without the run and the
rerun-pending flag, with RUN_ABORTED set and the dispatch timer running (R72, R73). -/
def State.runAbortedByHost (s : State) : State :=
  { s with
    ae := { s.integrateFlare.ae with
      run := none
      rerunPending := false
      dispatch := if s.ae.dispatch = none then secondsTimer s.now s.settings.dispatchInterval
        else s.ae.dispatch }
    fs := { s.fs with alerts := s.fs.alerts ||| AlertFlag.runAborted.bit }
    store := { s.store with flare := s.integrateFlare.store.flare } }

theorem abortRunCommand_of_running {s : State} {r : Run} (hf : s.nvs.settingsFault = false)
    (hr : s.ae.run = some r) : abortRunCommand s = s.runAbortedByHost.ok [] := by
  cases hd : s.ae.dispatch <;>
    simp [abortRunCommand, hf, hr, State.abortRun_eq, hd, State.restartDispatch, State.runAbortedByHost]

/-- The abort of a run sees the link only through the frame that asked for it. -/
theorem State.runAbortedByHost_frameTaken (s : State) : s.frameTaken.runAbortedByHost =
    { s.runAbortedByHost with cl := s.linkAfter s.cl.response } := by
  unfold State.runAbortedByHost
  rw [State.integrateFlare_frameTaken, State.frameTaken_eq]
  rfl

/-! ## The two commands in a frame -/

/-- START RUN outside the condition: the run request, answered QUEUED in RUNNING and OK in IDLE (R51). -/
theorem exec_startRun_of_serving {s : State} (h : s.Serving) (hf : s.nvs.settingsFault = false) :
    exec (.startRun []) s = .next { s with
      cl := s.linkAfter ⟨if s.ae.run.isSome then .queued else .ok, []⟩, ae := s.requestRun.ae } := by
  have hown : startRunCommand s.frameTaken =
      ⟨⟨if s.ae.run.isSome then .queued else .ok, []⟩, s.frameTaken.requestRun⟩ := by
    rw [startRunCommand_of_no_settingsFault (by simpa using hf), State.frameTaken_ae]
  rw [exec_startRun, State.takeFrame_gated_bare_nil_of_answer h hown (by simp [State.requestRun_frameTaken]),
    State.requestRun_frameTaken, State.requestRun_eq]

/-- ABORT RUN in RUNNING outside the condition (R72, R73). -/
theorem exec_abortRun_of_running {s : State} {r : Run} (h : s.Serving)
    (hf : s.nvs.settingsFault = false) (hr : s.ae.run = some r) :
    exec (.abortRun []) s = .next { s.runAbortedByHost with cl := s.linkAfter ⟨.ok, []⟩ } := by
  have hown : abortRunCommand s.frameTaken = s.frameTaken.runAbortedByHost.ok [] :=
    abortRunCommand_of_running (by simpa using hf) (by simpa using hr)
  rw [exec_abortRun, State.takeFrame_gated_bare_nil_of_answer h hown
    (by simp [State.runAbortedByHost_frameTaken]), State.runAbortedByHost_frameTaken]

/-- Settles O28, by the settings-fault condition and the run in flight. -/
theorem startRunAndAbortRun : Obligations.StartRunAndAbortRun := by
  refine ⟨fun s => ⟨?startLength, ?startAlone, ?startFault, ?startIdle, ?startRunning⟩,
    fun s h => ⟨?abortLength, ?abortFault, ?abortRunning, ?abortIdle, ?abortAlone⟩⟩
  case startLength =>
    intro b p h
    rw [exec_startRun, State.takeFrame_gated_bare_cons h]
  case startAlone =>
    intro p h k
    rw [exec_startRun, State.takeFrame_gated_of_standalone h k]
  case startFault =>
    intro h hf
    rw [exec_startRun, State.takeFrame_gated_bare_nil_of_refuse h
      (startRunCommand_of_settingsFault (by simpa using hf))]
  case startIdle =>
    intro h hf hr
    simp [exec_startRun_of_serving h hf, hr]
  case startRunning =>
    intro h hf hr
    simp [exec_startRun_of_serving h hf, State.requestRun_of_running hf hr, hr]
  case abortLength =>
    intro b p
    rw [exec_abortRun, State.takeFrame_gated_bare_cons h]
  case abortFault =>
    intro hf
    rw [exec_abortRun, State.takeFrame_gated_bare_nil_of_refuse h
      (abortRunCommand_of_settingsFault (by simpa using hf))]
  case abortRunning =>
    intro r hf hr
    exact exec_abortRun_of_running h hf hr
  case abortIdle =>
    intro hr
    rw [exec_abortRun, State.takeFrame_gated_bare_nil_of_refuse h
      (abortRunCommand_of_idle (by simpa using hr))]
  case abortAlone =>
    intro u p h k
    rw [exec_abortRun, State.takeFrame_gated_of_standalone h k]

end Sys2Proof.Machine
end

section
/-! PROOF. NO-OP (R164): a frame whose owner only answers leaves the part as the frame found it but for
the link, and NO-OP is such a frame whatever its payload. -/

namespace Sys2Proof.Machine

/-- An owner that changes nothing and answers OK leaves only its answer, in standalone operation too. -/
theorem State.takeFrame_ok {s : State} (h : s.Taking) (payload : List Byte) :
    s.takeFrame (fun t => t.ok payload) = s.answered ⟨.ok, payload⟩ := by
  rw [State.takeFrame_of_taking h]
  exact s.respond_frameTaken _

theorem exec_noOp (p : List Byte) (s : State) :
    exec (.noOp p) s = .next (s.takeFrame fun t => t.ok []) := rfl

/-- Settles O10: the owner of NO-OP reads neither the payload nor the state. -/
theorem noOpAnswersOk : Obligations.NoOpAnswersOk := by
  intro p s h
  rw [exec_noOp, State.takeFrame_ok h]

end Sys2Proof.Machine
end

section
/-! PROOF. The two passes of a run (3.4, 3.5; O31, O32, O33): what serving one participant gives and takes,
what one act of Pass S does to a pool and its members, and that both passes together share out exactly the
pools. -/

namespace Sys2Proof.Machine

/-! ## Giving to a participant -/

theorem RunPart.give_total (p : RunPart) (src : Source) (kw : Nat) :
    (p.give src kw).total = p.total + kw := by
  cases src <;> simp only [RunPart.give, RunPart.total, PerSource.put, PerSource.get] <;> omega

theorem RunPart.give_grant_get (p : RunPart) (src t : Source) (kw : Nat) :
    (p.give src kw).grant.get t = p.grant.get t + if src = t then kw else 0 := by
  rw [RunPart.give, PerSource.get_put]
  split
  · next h => rw [h]
  · rfl

theorem RunPart.give_zero (p : RunPart) (src : Source) : p.give src 0 = p := by
  cases src <;> rfl

theorem PerSource.put_get_self {α : Type} (p : PerSource α) (src : Source) : p.put src (p.get src) = p := by
  cases src <;> rfl

/-! ## A participant served, and pools shared out -/

/-- `q` is `p` with a grant that never passes its need, from sources it accepts (R58). -/
structure RunPart.Fed (p q : RunPart) : Prop where
  same : q = { p with grant := q.grant, short := q.short }
  within : q.total ≤ max p.total p.need
  accepted : ∀ src, p.accepted.has src = false → q.grant.get src = p.grant.get src

theorem RunPart.Fed.refl (p : RunPart) : p.Fed p := ⟨rfl, by omega, fun _ _ => rfl⟩

theorem RunPart.Fed.trans {p q r : RunPart} (h : p.Fed q) (k : q.Fed r) : p.Fed r := by
  have hn : q.need = p.need := by rw [h.same]
  have ha : q.accepted = p.accepted := by rw [h.same]
  refine ⟨?_, ?_, fun src hs => ?_⟩
  · rw [k.same, h.same]
  · have := h.within
    have := k.within
    omega
  · rw [k.accepted src (by rw [ha]; exact hs), h.accepted src hs]

/-- Giving within the remaining need, from an accepted source, feeds. -/
theorem RunPart.Fed.give (p : RunPart) {src : Source} {kw : Nat} (h : kw ≤ p.remaining)
    (a : p.accepted.has src = true) : p.Fed (p.give src kw) := by
  refine ⟨rfl, ?_, fun t ht => ?_⟩
  · rw [RunPart.give_total]
    simp only [RunPart.remaining] at h
    omega
  · rw [RunPart.give_grant_get, if_neg (by rintro rfl; simp [a] at ht), Nat.add_zero]

/-- Giving nothing feeds, whatever the source. -/
theorem RunPart.Fed.give_zero (p : RunPart) (src : Source) : p.Fed (p.give src 0) := by
  rw [RunPart.give_zero]
  exact .refl p

/-- The computed grants of one source over a list of participants. -/
def partSum (src : Source) (ps : List RunPart) : Nat := (ps.map fun p => p.grant.get src).sum

@[simp] theorem partSum_nil (src : Source) : partSum src [] = 0 := rfl

@[simp] theorem partSum_cons (src : Source) (p : RunPart) (ps : List RunPart) :
    partSum src (p :: ps) = p.grant.get src + partSum src ps := rfl

/-- `v` is `w` after some serving: every participant is fed in its place, and each source has lost from its
pool what its participants have gained (R58, R61). -/
structure SharedOut (w v : PerSource Nat × List RunPart) : Prop where
  parts : List.Forall₂ RunPart.Fed w.2 v.2
  kept : ∀ src, partSum src v.2 + v.1.get src = partSum src w.2 + w.1.get src

theorem SharedOut.refl (w : PerSource Nat × List RunPart) : SharedOut w w :=
  ⟨List.forall₂_same.2 fun p _ => .refl p, fun _ => rfl⟩

theorem forall₂_fed_trans {ps qs rs : List RunPart} (h : List.Forall₂ RunPart.Fed ps qs)
    (k : List.Forall₂ RunPart.Fed qs rs) : List.Forall₂ RunPart.Fed ps rs := by
  induction h generalizing rs with
  | nil => exact k
  | cons a _ ih => cases k with
    | cons b k => exact .cons (a.trans b) (ih k)

theorem SharedOut.trans {u v w : PerSource Nat × List RunPart} (h : SharedOut u v) (k : SharedOut v w) :
    SharedOut u w :=
  ⟨forall₂_fed_trans h.parts k.parts, fun src => (k.kept src).trans (h.kept src)⟩

/-! ## Pass F (R55) -/

/-- What a source holds for a participant: its pool, if the participant accepts it. -/
def RunPart.open_ (p : RunPart) (pools : PerSource Nat) (src : Source) : Nat :=
  if p.accepted.has src = true then pools.get src else 0

theorem RunPart.open_le (p : RunPart) (pools : PerSource Nat) (src : Source) :
    p.open_ pools src ≤ pools.get src := by
  unfold RunPart.open_
  split <;> omega

/-- What a participant is given towards its floor from one source. -/
def floorShare (w : Serving) (src : Source) : Nat := min (w.2.floor - w.2.total) (w.2.open_ w.1 src)

theorem floorFrom_eq (w : Serving) (src : Source) : floorFrom w src =
    (w.1.put src (w.1.get src - floorShare w src), w.2.give src (floorShare w src)) := by
  unfold floorFrom floorShare RunPart.open_
  split
  · rfl
  · rw [Nat.min_zero, Nat.sub_zero, PerSource.put_get_self, RunPart.give_zero]

theorem floorShare_le_pool (w : Serving) (src : Source) : floorShare w src ≤ w.1.get src :=
  (Nat.min_le_right _ _).trans (RunPart.open_le _ _ _)

/-- What goes from a pool goes to the participant. -/
theorem floorFrom_kept (w : Serving) (src t : Source) :
    (floorFrom w src).2.grant.get t + (floorFrom w src).1.get t = w.2.grant.get t + w.1.get t := by
  have h := floorShare_le_pool w src
  rw [floorFrom_eq, RunPart.give_grant_get]
  simp only [PerSource.get_put]
  split
  · next e => subst e; omega
  · omega

theorem floorFrom_fed (w : Serving) (src : Source) (h : w.2.floor ≤ w.2.need) :
    w.2.Fed (floorFrom w src).2 := by
  unfold floorFrom
  split
  · next a => exact .give _ (by simp only [RunPart.remaining]; omega) a
  · exact .refl _

/-- A floor served changes the participant's grant and SHORT mark alone. -/
theorem serveFloor_fed (pools : PerSource Nat) (p : RunPart) (h : p.floor ≤ p.need) :
    p.Fed (serveFloor pools p).2 := by
  have one := floorFrom_fed (pools, p) .cvg h
  have two := one.trans (floorFrom_fed (floorFrom (pools, p) .cvg) .bfg (by rw [one.same]; exact h))
  have three := two.trans
    (floorFrom_fed (floorFrom (floorFrom (pools, p) .cvg) .bfg) .cog (by rw [two.same]; exact h))
  exact ⟨by simp only [serveFloor]; rw [three.same], three.within, three.accepted⟩

theorem serveFloor_kept (pools : PerSource Nat) (p : RunPart) (src : Source) :
    (serveFloor pools p).2.grant.get src + (serveFloor pools p).1.get src =
      p.grant.get src + pools.get src := by
  simp only [serveFloor, floorFrom_kept]

theorem passF_sharedOut (pools : PerSource Nat) (ps : List RunPart) (h : ∀ p ∈ ps, p.floor ≤ p.need) :
    SharedOut (pools, ps) (passF pools ps) := by
  induction ps generalizing pools with
  | nil => exact .refl _
  | cons p ps ih =>
    have rest := ih (serveFloor pools p).1 fun q hq => h q (List.mem_cons_of_mem _ hq)
    refine ⟨.cons (serveFloor_fed pools p (h p List.mem_cons_self)) rest.parts, fun src => ?_⟩
    have one := serveFloor_kept pools p src
    have more := rest.kept src
    simp only [passF, partSum_cons] at more ⊢
    omega

theorem floorFrom_total (w : Serving) (src : Source) :
    (floorFrom w src).2.total = w.2.total + floorShare w src := by
  rw [floorFrom_eq, RunPart.give_total]

/-- Serving from one source leaves the other pools as they were. -/
theorem floorFrom_get (w : Serving) (src t : Source) : (floorFrom w src).1.get t =
    if src = t then w.1.get src - floorShare w src else w.1.get t := by
  rw [floorFrom_eq, PerSource.get_put]

/-- Serving from one source leaves what another holds for the participant. -/
theorem floorFrom_open (w : Serving) {src t : Source} (h : src ≠ t) :
    (floorFrom w src).2.open_ (floorFrom w src).1 t = w.2.open_ w.1 t := by
  rw [RunPart.open_, floorFrom_get, if_neg h, floorFrom_eq]
  rfl

theorem floorFrom_floor (w : Serving) (src : Source) : (floorFrom w src).2.floor = w.2.floor := by
  rw [floorFrom_eq]
  rfl

/-- A floor served from empty hands: the sources that are accepted in turn, as far as they go (R55). -/
theorem serveFloor_total (pools : PerSource Nat) (p : RunPart) (h : p.total = 0) :
    (serveFloor pools p).2.total =
      min p.floor (p.open_ pools .cvg + p.open_ pools .bfg + p.open_ pools .cog) := by
  change (floorFrom (floorFrom (floorFrom (pools, p) .cvg) .bfg) .cog).2.total = _
  simp only [floorFrom_total, floorShare, floorFrom_floor, ne_eq, reduceCtorEq, not_false_eq_true,
    floorFrom_open, h]
  omega

/-- Where a floor is not met, every accepted pool is empty (R55). -/
theorem serveFloor_get_of_short (pools : PerSource Nat) (p : RunPart) (h : p.total = 0)
    (k : (serveFloor pools p).2.total < p.floor) (src : Source) (a : p.accepted.has src = true) :
    (serveFloor pools p).1.get src = 0 := by
  rw [serveFloor_total pools p h] at k
  have hsrc : p.open_ pools src = pools.get src := if_pos a
  change (floorFrom (floorFrom (floorFrom (pools, p) .cvg) .bfg) .cog).1.get src = 0
  cases src <;>
    simp only [floorFrom_get, floorFrom_total, floorShare, floorFrom_floor, ne_eq, reduceCtorEq,
      not_false_eq_true, floorFrom_open, h, if_true, if_false] <;> omega

theorem floorFrom_short (w : Serving) (src : Source) : (floorFrom w src).2.short = w.2.short := by
  rw [floorFrom_eq]
  rfl

theorem floorFrom_accepted (w : Serving) (src : Source) :
    (floorFrom w src).2.accepted = w.2.accepted := by
  rw [floorFrom_eq]
  rfl

/-- Serving gives nothing from a source that is not accepted. -/
theorem floorFrom_grant_of_closed (w : Serving) {t : Source} (h : w.2.accepted.has t = false) (src : Source) :
    (floorFrom w src).2.grant.get t = w.2.grant.get t := by
  unfold floorFrom
  split
  · next a => rw [RunPart.give_grant_get, if_neg (by rintro rfl; simp [a] at h), Nat.add_zero]
  · rfl

/-- Settles O31, by the three accepted sources in turn. -/
theorem floorsAreServedFromAcceptedPools : Obligations.FloorsAreServedFromAcceptedPools := by
  intro pools p hg hs w from_
  have ht : p.total = 0 := by rw [RunPart.total, hg]; rfl
  have hzero (src : Source) : p.grant.get src = 0 := by rw [hg]; cases src <;> rfl
  have hshort : w.2.short = true ↔ w.2.total < p.floor := by
    change (_ || decide (_ < _)) = true ↔ _
    simp only [floorFrom_short, floorFrom_floor, hs, Bool.false_or, decide_eq_true_iff]
    rfl
  refine ⟨?same, fun src => ?kept, fun src hno => ?others, serveFloor_total pools p ht, hshort,
    fun hw => serveFloor_get_of_short pools p ht (hshort.1 hw)⟩
  case same => simp only [w, serveFloor, floorFrom_eq]; rfl
  case kept => simp only [w, serveFloor_kept, hzero, Nat.zero_add]
  case others =>
    simp only [w, serveFloor, floorFrom_grant_of_closed, floorFrom_accepted, hno, hzero]

/-! ## Pass S (R56, R57) -/

theorem RunPart.eligible_iff {p : RunPart} {prio : Nat} {src : Source} : p.eligible prio src = true ↔
    p.priority = prio ∧ p.accepted.has src = true ∧ 0 < p.remaining := by
  simp [RunPart.eligible, and_assoc]

/-- The eligible set of a priority and a source. -/
def members (prio : Nat) (src : Source) (ps : List RunPart) : List RunPart :=
  ps.filter fun p => p.eligible prio src

theorem members_cons (prio : Nat) (src : Source) (p : RunPart) (ps : List RunPart) :
    members prio src (p :: ps) =
      if p.eligible prio src = true then p :: members prio src ps else members prio src ps :=
  List.filter_cons

/-- A share of a short pool leaves room for one kilowatt more (R57). -/
theorem RunPart.share_lt_remaining {p : RunPart} {prio : Nat} {src : Source} {pool n : Nat}
    (e : p.eligible prio src = true) (h : pool < n) : p.share pool n < p.remaining := by
  obtain ⟨-, -, hr⟩ := RunPart.eligible_iff.1 e
  exact Nat.div_lt_of_lt_mul (by rw [Nat.mul_comm n]; exact Nat.mul_lt_mul_of_pos_left h hr)

theorem sumNeed_eq (prio : Nat) (src : Source) (ps : List RunPart) :
    sumNeed prio src ps = ((members prio src ps).map RunPart.remaining).sum := rfl

/-- Proportional shares of `pool` by weights `l` against a total of `n`: they never pass the exact shares,
and each falls short of its own by less than one. -/
theorem sum_shares_bounds (pool n : Nat) (hn : 0 < n) (l : List Nat) :
    n * (l.map fun x => x * pool / n).sum ≤ l.sum * pool ∧
    l.sum * pool + l.length ≤ n * ((l.map fun x => x * pool / n).sum + l.length) := by
  induction l with
  | nil => simp
  | cons x l ih =>
    have hlow : n * (x * pool / n) ≤ x * pool := Nat.mul_div_le _ _
    have hhigh : x * pool + 1 ≤ n * (x * pool / n + 1) := Nat.lt_mul_div_succ _ hn
    simp only [List.map_cons, List.sum_cons, List.length_cons, Nat.add_mul, Nat.mul_add] at *
    omega

theorem sumShares_eq (prio : Nat) (src : Source) (pool n : Nat) (ps : List RunPart) :
    sumShares prio src pool n ps = ((members prio src ps).map fun p => p.share pool n).sum := rfl

/-- The shares of a short pool stay within it, and leave less than one kilowatt for each member (R57). -/
theorem sumShares_bounds {prio : Nat} {src : Source} {pool : Nat} {ps : List RunPart}
    (h : pool < sumNeed prio src ps) :
    sumShares prio src pool (sumNeed prio src ps) ps ≤ pool ∧
    pool - sumShares prio src pool (sumNeed prio src ps) ps < (members prio src ps).length := by
  have hn : 0 < sumNeed prio src ps := by omega
  obtain ⟨hlow, hhigh⟩ :=
    sum_shares_bounds pool _ hn ((members prio src ps).map RunPart.remaining)
  rw [List.map_map] at hlow hhigh
  rw [List.length_map] at hhigh
  change sumNeed prio src ps * sumShares prio src pool (sumNeed prio src ps) ps ≤
    sumNeed prio src ps * pool at hlow
  change sumNeed prio src ps * pool + _ ≤
    sumNeed prio src ps * (sumShares prio src pool (sumNeed prio src ps) ps + _) at hhigh
  have hle := Nat.le_of_mul_le_mul_left hlow hn
  have hmem : 0 < (members prio src ps).length := by
    rw [List.length_pos_iff]
    intro e
    simp [sumNeed_eq, e] at hn
  have := Nat.lt_of_mul_lt_mul_left
    (Nat.lt_of_lt_of_le (Nat.lt_add_of_pos_right (n := sumNeed prio src ps * pool) hmem) hhigh)
  omega

/-- Giving every member its whole remaining need takes their sum from the pool (R56). -/
theorem partSum_giveWhole (prio : Nat) (src t : Source) (ps : List RunPart) :
    partSum t (giveWhole prio src ps) = partSum t ps + if src = t then sumNeed prio src ps else 0 := by
  induction ps with
  | nil => simp [giveWhole, sumNeed]
  | cons p ps ih =>
    have hn : sumNeed prio src (p :: ps) =
        (if p.eligible prio src = true then p.remaining else 0) + sumNeed prio src ps := by
      simp only [sumNeed_eq, members_cons]
      split <;> simp
    change partSum t ((if p.eligible prio src = true then p.give src p.remaining else p) ::
      giveWhole prio src ps) = _
    rw [partSum_cons, partSum_cons, ih, hn]
    by_cases k : src = t
    · simp only [k, if_true]
      split
      · rw [RunPart.give_grant_get, if_pos rfl]; omega
      · omega
    · simp only [k, if_false]
      split
      · rw [RunPart.give_grant_get, if_neg k]; omega
      · rfl

/-- Giving the shares, and the odd kilowatts to the first `k` members (R57). -/
theorem partSum_giveShares (prio : Nat) (src t : Source) (pool n k : Nat) (ps : List RunPart) :
    partSum t (giveShares prio src pool n k ps) = partSum t ps +
      if src = t then sumShares prio src pool n ps + min k (members prio src ps).length else 0 := by
  induction ps generalizing k with
  | nil => simp [giveShares, sumShares, members]
  | cons p ps ih =>
    have hn : sumShares prio src pool n (p :: ps) =
        (if p.eligible prio src = true then p.share pool n else 0) + sumShares prio src pool n ps := by
      simp only [sumShares_eq, members_cons]
      split <;> simp
    rw [hn, members_cons, giveShares]
    by_cases e : p.eligible prio src = true
    · simp only [e, if_true, partSum_cons, ih, RunPart.give_grant_get, List.length_cons]
      by_cases h : src = t
      · simp only [h, if_true]; split <;> omega
      · simp only [h, if_false]; omega
    · simp only [e, if_false, partSum_cons, ih, Bool.false_eq_true, Nat.zero_add, Nat.add_assoc]

/-- What each place holds after the shares are given (R57). -/
theorem getElem?_giveShares (prio : Nat) (src : Source) (pool n k : Nat) (ps : List RunPart) (i : Nat) :
    (giveShares prio src pool n k ps)[i]? = ps[i]?.map fun p => p.give src
      (if p.eligible prio src = true then
        p.share pool n + if (members prio src (ps.take i)).length < k then 1 else 0
      else 0) := by
  induction ps generalizing k i with
  | nil => simp [giveShares]
  | cons p ps ih =>
    rw [giveShares]
    by_cases e : p.eligible prio src = true
    · cases i with
      | zero => simp only [e, if_true, List.getElem?_cons_zero, List.take_zero, Option.map_some]; rfl
      | succ i =>
        simp only [e, if_true, List.getElem?_cons_succ, ih, List.take_succ_cons, members_cons,
          List.length_cons, Nat.lt_sub_iff_add_lt]
    · cases i with
      | zero => simp [e, RunPart.give_zero]
      | succ i => simp [e, ih, List.take_succ_cons, members_cons]

theorem length_giveShares (prio : Nat) (src : Source) (pool n k : Nat) (ps : List RunPart) :
    (giveShares prio src pool n k ps).length = ps.length := by
  induction ps generalizing k with
  | nil => rfl
  | cons p ps ih => rw [giveShares]; split <;> simp [ih]

theorem giveShares_fed (prio : Nat) (src : Source) {pool n : Nat} (h : pool < n) (k : Nat)
    (ps : List RunPart) : List.Forall₂ RunPart.Fed ps (giveShares prio src pool n k ps) := by
  induction ps generalizing k with
  | nil => exact .nil
  | cons p ps ih =>
    rw [giveShares]
    split
    · next e =>
      have := RunPart.share_lt_remaining e h
      exact .cons (.give p (by split <;> omega) (RunPart.eligible_iff.1 e).2.1) (ih _)
    · exact .cons (.refl p) (ih _)

theorem giveWhole_fed (prio : Nat) (src : Source) (ps : List RunPart) :
    List.Forall₂ RunPart.Fed ps (giveWhole prio src ps) := by
  refine List.forall₂_map_right_iff.2 (List.forall₂_same.2 fun p _ => ?_)
  split
  · next e => exact .give p (Nat.le_refl _) (RunPart.eligible_iff.1 e).2.1
  · exact .refl p

/-- One act of Pass S: nothing to share, a pool that meets the need, or a short pool shared out (R56,
R57). -/
theorem shareSource_cases (w : PerSource Nat × List RunPart) (prio : Nat) (src : Source) :
    ((sumNeed prio src w.2 = 0 ∨ w.1.get src = 0) ∧ shareSource w prio src = w) ∨
    (sumNeed prio src w.2 ≤ w.1.get src ∧ shareSource w prio src =
      (w.1.put src (w.1.get src - sumNeed prio src w.2), giveWhole prio src w.2)) ∨
    (0 < w.1.get src ∧ w.1.get src < sumNeed prio src w.2 ∧ shareSource w prio src =
      (w.1.put src 0, giveShares prio src (w.1.get src) (sumNeed prio src w.2)
        (w.1.get src - sumShares prio src (w.1.get src) (sumNeed prio src w.2) w.2) w.2)) := by
  unfold shareSource
  dsimp only
  split
  · exact .inl ⟨‹_›, rfl⟩
  · split
    · exact .inr (.inl ⟨‹_›, rfl⟩)
    · exact .inr (.inr ⟨by omega, by omega, rfl⟩)

theorem shareSource_sharedOut (w : PerSource Nat × List RunPart) (prio : Nat) (src : Source) :
    SharedOut w (shareSource w prio src) := by
  rcases shareSource_cases w prio src with ⟨-, h⟩ | ⟨hle, h⟩ | ⟨-, hlt, h⟩ <;> rw [h]
  · exact .refl w
  · refine ⟨giveWhole_fed prio src w.2, fun t => ?_⟩
    rw [partSum_giveWhole, PerSource.get_put]
    split
    · next e => subst e; omega
    · omega
  · refine ⟨giveShares_fed prio src hlt _ w.2, fun t => ?_⟩
    obtain ⟨hle, hlen⟩ := sumShares_bounds hlt
    rw [partSum_giveShares, PerSource.get_put]
    split
    · next e => subst e; omega
    · omega

/-- Settles O32: every member's share and odd kilowatt, place by place. -/
theorem proportionalSharesAreExact : Obligations.ProportionalSharesAreExact := by
  intro left ps prio src pool n hpos hlt ms given
  obtain ⟨hle, hlen⟩ := sumShares_bounds (ps := ps) hlt
  have hw : shareSource (left, ps) prio src =
      (left.put src 0, giveShares prio src pool n (pool - given) ps) := by
    rcases shareSource_cases (left, ps) prio src with ⟨h, -⟩ | ⟨h, -⟩ | ⟨-, -, h⟩
    · simp only [n, pool] at *; omega
    · simp only [n, pool] at *; omega
    · exact h
  refine ⟨hle, hlen, fun p hp => RunPart.share_lt_remaining (List.mem_filter.1 hp).2 hlt, ?_⟩
  intro w
  have hw1 : w.1 = left.put src 0 := congrArg Prod.fst hw
  have hw2 : w.2 = giveShares prio src pool n (pool - given) ps := congrArg Prod.snd hw
  rw [hw1, hw2]
  refine ⟨rfl, length_giveShares .., ?_, fun k p hp => ?_⟩
  · change partSum src _ = partSum src ps + pool
    rw [partSum_giveShares, if_pos rfl]
    change _ + (given + min (pool - given) ms.length) = _
    have : given ≤ pool := hle
    have : pool - given < ms.length := hlen
    omega
  · refine ⟨_, by rw [getElem?_giveShares, Option.mem_def.1 hp]; rfl, _, rfl, ?_, fun e => by simp [e],
      fun e => by simp only [e, if_true]; rfl⟩
    rw [RunPart.give_total]
    split
    · next e =>
      have := RunPart.share_lt_remaining e hlt
      simp only [RunPart.remaining] at this
      split <;> omega
    · omega

/-! ## Both passes (R58) -/

theorem sharePriority_sharedOut (w : PerSource Nat × List RunPart) (prio : Nat) :
    SharedOut w (sharePriority w prio) :=
  ((shareSource_sharedOut w prio .cvg).trans (shareSource_sharedOut _ prio .bfg)).trans
    (shareSource_sharedOut _ prio .cog)

theorem sharePriorities_sharedOut (prios : List Nat) (w : PerSource Nat × List RunPart) :
    SharedOut w (prios.foldl sharePriority w) := by
  induction prios generalizing w with
  | nil => exact .refl w
  | cons prio prios ih => exact (sharePriority_sharedOut w prio).trans (ih _)

theorem Run.compute_sharedOut (r : Run) (h : ∀ p ∈ r.parts, p.floor ≤ p.need) :
    SharedOut (r.startPools, r.parts) r.compute := by
  unfold Run.compute passS
  exact (passF_sharedOut r.startPools r.parts h).trans (sharePriorities_sharedOut _ _)

theorem partSum_of_empty {src : Source} {ps : List RunPart} (h : ∀ p ∈ ps, p.grant = ⟨0, 0, 0⟩) :
    partSum src ps = 0 := by
  refine List.sum_eq_zero fun x hx => ?_
  obtain ⟨p, hp, rfl⟩ := List.mem_map.1 hx
  rw [h p hp]
  cases src <;> rfl

/-- What both passes make of a participant that begins with nothing (R58). -/
theorem RunPart.Fed.of_empty {p q : RunPart} (h : p.Fed q) (k : p.grant = ⟨0, 0, 0⟩) :
    q.total ≤ p.need ∧ ∀ src, p.accepted.has src = false → q.grant.get src = 0 := by
  have ht : p.total = 0 := by rw [RunPart.total, k]; rfl
  have := h.within
  exact ⟨by omega, fun src hs => by rw [h.accepted src hs, k]; cases src <;> rfl⟩

/-- The participant fed in a place. -/
theorem fed_at {ps qs : List RunPart} (h : List.Forall₂ RunPart.Fed ps qs) {k : Nat} {p : RunPart}
    (hp : p ∈ ps[k]?) : ∃ q ∈ qs[k]?, p.Fed q := by
  obtain ⟨hk, rfl⟩ := List.getElem?_eq_some_iff.1 hp
  have hq : k < qs.length := h.length_eq ▸ hk
  exact ⟨qs[k], List.getElem?_eq_getElem hq, (List.forall₂_iff_get.1 h).2 k hk hq⟩

/-- Settles O33: each act of the passes shares out, so both together do. -/
theorem passesShareOutExactlyThePools : Obligations.PassesShareOutExactlyThePools := by
  intro r hr c
  have h := r.compute_sharedOut fun p hp => (hr p hp).2
  refine ⟨fun src => ?_, h.parts.length_eq.symm, fun k p hp => ?_⟩
  · have := h.kept src
    rw [partSum_of_empty fun p hp => (hr p hp).1, Nat.zero_add] at this
    exact this
  · obtain ⟨q, hq, fed⟩ := fed_at h.parts hp
    obtain ⟨hneed, hacc⟩ := fed.of_empty (hr p (List.mem_of_getElem? hp)).1
    exact ⟨q, hq, fed.same, hneed, hacc⟩

end Sys2Proof.Machine
end

section
/-! PROOF. The start of a run (3.3; O29): whom it counts and in which order. -/

namespace Sys2Proof.Machine

theorem inServiceOrder_eq (ps : List RunPart) :
    inServiceOrder ps = ps.insertionSort fun a b => a.noLater b = true := by
  have insert (p : RunPart) (l : List RunPart) :
      insertPart p l = l.orderedInsert (fun a b => a.noLater b = true) p := by
    induction l with
    | nil => rfl
    | cons q l ih => simp only [insertPart, List.orderedInsert_cons, ih]
  unfold inServiceOrder
  induction ps with
  | nil => rfl
  | cons p ps ih => rw [List.foldr_cons, ih, insert]; rfl

theorem inServiceOrder_perm (ps : List RunPart) : (inServiceOrder ps).Perm ps := by
  rw [inServiceOrder_eq]
  exact List.perm_insertionSort _ ps

theorem RunPart.noLater_iff (a b : RunPart) : a.noLater b = true ↔
    a.priority < b.priority ∨ (a.priority = b.priority ∧ a.sequence ≤ b.sequence) := by
  simp [RunPart.noLater]

theorem inServiceOrder_pairwise (ps : List RunPart) :
    (inServiceOrder ps).Pairwise fun a b => a.noLater b = true := by
  have total : Std.Total fun a b : RunPart => a.noLater b = true :=
    ⟨fun a b => by simp only [RunPart.noLater_iff]; omega⟩
  have trans : IsTrans RunPart fun a b => a.noLater b = true :=
    ⟨fun a b c => by simp only [RunPart.noLater_iff]; omega⟩
  rw [inServiceOrder_eq]
  exact List.pairwise_insertionSort _ ps

/-- The run part of a slot, where its entry takes part (R52, R53). -/
def State.partOf (s : State) (i : Fin 48) : Option RunPart :=
  ((s.entry i).filter Offtake.takesPart).map fun e => e.runPart i s.cl.standalone

theorem State.participants_eq (s : State) :
    s.participants = inServiceOrder (slots48.filterMap s.partOf) := by
  unfold State.participants
  congr 2
  funext i
  unfold State.partOf
  cases s.entry i with
  | none => rfl
  | some e => cases h : e.takesPart <;> simp [h]

theorem State.partOf_some {s : State} {i : Fin 48} {p : RunPart} : s.partOf i = some p ↔
    ∃ e ∈ s.entry i, e.takesPart = true ∧ e.runPart i s.cl.standalone = p := by
  unfold State.partOf
  cases s.entry i <;> simp

theorem State.mem_participants {s : State} {p : RunPart} : p ∈ s.participants ↔
    ∃ i, ∃ e ∈ s.entry i, e.takesPart = true ∧ e.runPart i s.cl.standalone = p := by
  rw [State.participants_eq, (inServiceOrder_perm _).mem_iff]
  simp only [List.mem_filterMap, slots48, List.mem_finRange, true_and, State.partOf_some]

theorem State.slot_partOf {s : State} {i : Fin 48} {p : RunPart} (h : s.partOf i = some p) : p.slot = i := by
  obtain ⟨e, -, -, rfl⟩ := State.partOf_some.1 h
  rfl

/-- Each participant counts once: its slot says which entry it stands for (R52). -/
theorem State.participants_nodup (s : State) : (s.participants.map RunPart.slot).Nodup := by
  rw [State.participants_eq, ((inServiceOrder_perm _).map _).nodup_iff, List.map_filterMap]
  refine (List.nodup_finRange 48).filterMap fun i j k hi hj => ?_
  obtain ⟨p, hp, rfl⟩ := Option.map_eq_some_iff.1 hi
  obtain ⟨q, hq, h⟩ := Option.map_eq_some_iff.1 hj
  rw [← State.slot_partOf hp, ← State.slot_partOf hq, h]

theorem State.mem_retiringSlots {s : State} {i : Fin 48} : i ∈ s.retiringSlots ↔
    ∃ e ∈ s.entry i, e.state = .retiring := by
  simp only [State.retiringSlots, slots48, List.mem_filter, List.mem_finRange, true_and]
  cases s.entry i <;> simp

theorem Offtake.takesPart_iff {e : Offtake} :
    e.takesPart = true ↔ e.state = .pending ∨ e.state = .active := by
  simp [Offtake.takesPart]

/-- Settles O29. -/
theorem participantsOfARun : Obligations.ParticipantsOfARun := by
  refine fun s => ⟨fun p => ?_, s.participants_nodup, ?_, fun i => State.mem_retiringSlots⟩
  · rw [State.mem_participants]
    refine exists_congr fun i => exists_congr fun e => and_congr_right fun _ => ?_
    rw [Offtake.takesPart_iff]
    refine and_congr_right fun _ => ⟨?_, ?_⟩
    · rintro rfl
      exact ⟨_, rfl, rfl⟩
    · rintro ⟨need, rfl, rfl⟩
      rfl
  · rw [State.participants_eq]
    exact (inServiceOrder_pairwise _).imp fun h => (RunPart.noLater_iff _ _).1 h

end Sys2Proof.Machine
end

section
/-! PROOF. Which parts of the state each command and event can change: the frame of every meaning, once.
The laws that all steps keep rest on it. -/

namespace Sys2Proof.Machine

/-! ## Stored items

Which items of the store an operation leaves as they were, once for each operation. -/

@[simp] theorem State.writeEntry_stored (s : State) (i : Fin 48) (e : Option Offtake) :
    (s.writeEntry i e).store.settings = s.store.settings ∧
    (s.writeEntry i e).store.accounts = s.store.accounts ∧
    (s.writeEntry i e).store.counter = s.store.counter ∧
    (s.writeEntry i e).store.closeNumber = s.store.closeNumber ∧
    (s.writeEntry i e).store.flare = s.store.flare ∧ (s.writeEntry i e).store.lock = s.store.lock := by
  simp [State.writeEntry]

@[simp] theorem State.writeCounter_stored (s : State) (n : Nat) :
    (s.writeCounter n).store.settings = s.store.settings ∧
    (s.writeCounter n).store.offtakes = s.store.offtakes ∧
    (s.writeCounter n).store.accounts = s.store.accounts ∧
    (s.writeCounter n).store.closeNumber = s.store.closeNumber ∧
    (s.writeCounter n).store.flare = s.store.flare ∧ (s.writeCounter n).store.lock = s.store.lock := by
  simp [State.writeCounter]

@[simp] theorem State.integrateFlare_stored (s : State) :
    (s.integrateFlare).store.settings = s.store.settings ∧
    (s.integrateFlare).store.offtakes = s.store.offtakes ∧
    (s.integrateFlare).store.accounts = s.store.accounts ∧
    (s.integrateFlare).store.counter = s.store.counter ∧
    (s.integrateFlare).store.closeNumber = s.store.closeNumber ∧
    (s.integrateFlare).store.lock = s.store.lock := by
  rw [State.integrateFlare_eq]; simp

@[simp] theorem State.writeFlare_stored (s : State) :
    (s.writeFlare).store.settings = s.store.settings ∧ (s.writeFlare).store.offtakes = s.store.offtakes ∧
    (s.writeFlare).store.accounts = s.store.accounts ∧ (s.writeFlare).store.counter = s.store.counter ∧
    (s.writeFlare).store.closeNumber = s.store.closeNumber ∧ (s.writeFlare).store.lock = s.store.lock := by
  simp [State.writeFlare]

@[simp] theorem State.abortRun_stored (s : State) :
    (s.abortRun).store.settings = s.store.settings ∧ (s.abortRun).store.offtakes = s.store.offtakes ∧
    (s.abortRun).store.accounts = s.store.accounts ∧ (s.abortRun).store.counter = s.store.counter ∧
    (s.abortRun).store.closeNumber = s.store.closeNumber ∧ (s.abortRun).store.lock = s.store.lock := by
  simp [State.abortRun]

@[simp] theorem State.withdrawalAtEngine_stored (s : State) :
    (s.withdrawalAtEngine).store.settings = s.store.settings ∧
    (s.withdrawalAtEngine).store.offtakes = s.store.offtakes ∧
    (s.withdrawalAtEngine).store.accounts = s.store.accounts ∧
    (s.withdrawalAtEngine).store.counter = s.store.counter ∧
    (s.withdrawalAtEngine).store.closeNumber = s.store.closeNumber ∧
    (s.withdrawalAtEngine).store.lock = s.store.lock := by
  rcases s.withdrawalAtEngine_cases with ⟨-, h⟩ | ⟨-, -, h⟩ | ⟨-, -, h⟩ <;> rw [h] <;> simp

@[simp] theorem State.settle_stored (s : State) (src : Source) :
    (s.settle src).store.settings = s.store.settings ∧ (s.settle src).store.offtakes = s.store.offtakes ∧
    (s.settle src).store.accounts = s.store.accounts ∧ (s.settle src).store.counter = s.store.counter ∧
    (s.settle src).store.closeNumber = s.store.closeNumber ∧ (s.settle src).store.lock = s.store.lock := by
  rcases s.settle_cases src with ⟨-, h⟩ | ⟨-, -, h⟩ | ⟨-, -, h⟩ <;> rw [h] <;> simp

@[simp] theorem State.settleAll_stored (s : State) :
    (s.settleAll).store.settings = s.store.settings ∧ (s.settleAll).store.offtakes = s.store.offtakes ∧
    (s.settleAll).store.accounts = s.store.accounts ∧ (s.settleAll).store.counter = s.store.counter ∧
    (s.settleAll).store.closeNumber = s.store.closeNumber ∧ (s.settleAll).store.lock = s.store.lock := by
  simp [State.settleAll]

@[simp] theorem State.settleRole_stored (s : State) (role : Role) :
    (s.settleRole role).store.settings = s.store.settings ∧
    (s.settleRole role).store.offtakes = s.store.offtakes ∧
    (s.settleRole role).store.accounts = s.store.accounts ∧
    (s.settleRole role).store.counter = s.store.counter ∧
    (s.settleRole role).store.closeNumber = s.store.closeNumber ∧
    (s.settleRole role).store.lock = s.store.lock := by
  rcases s.settleRole_cases role with ⟨src, -, h⟩ | ⟨-, -, h⟩ <;> rw [h] <;> simp

@[simp] theorem State.takeReleased_stored (s : State) (use : Use) (g : Grant) :
    (s.takeReleased use g).store.settings = s.store.settings ∧
    (s.takeReleased use g).store.offtakes = s.store.offtakes ∧
    (s.takeReleased use g).store.accounts = s.store.accounts ∧
    (s.takeReleased use g).store.counter = s.store.counter ∧
    (s.takeReleased use g).store.closeNumber = s.store.closeNumber ∧
    (s.takeReleased use g).store.lock = s.store.lock := by
  simp [State.takeReleased]

@[simp] theorem State.writeAccount_stored (s : State) (i : Fin 64) (a : Option Account) :
    (s.writeAccount i a).store.settings = s.store.settings ∧
    (s.writeAccount i a).store.offtakes = s.store.offtakes ∧
    (s.writeAccount i a).store.counter = s.store.counter ∧
    (s.writeAccount i a).store.closeNumber = s.store.closeNumber ∧
    (s.writeAccount i a).store.flare = s.store.flare ∧ (s.writeAccount i a).store.lock = s.store.lock := by
  simp [State.writeAccount]

@[simp] theorem State.holdAccount_stored (s : State) (i : Fin 64) :
    (s.holdAccount i).store.settings = s.store.settings ∧
    (s.holdAccount i).store.offtakes = s.store.offtakes ∧
    (s.holdAccount i).store.counter = s.store.counter ∧
    (s.holdAccount i).store.closeNumber = s.store.closeNumber ∧
    (s.holdAccount i).store.flare = s.store.flare ∧ (s.holdAccount i).store.lock = s.store.lock := by
  unfold State.holdAccount
  (repeat' split) <;> simp

@[simp] theorem State.takeHeat_stored (s : State) (i : Fin 64) (r : HeatReading) :
    (s.takeHeat i r).store.settings = s.store.settings ∧
    (s.takeHeat i r).store.offtakes = s.store.offtakes ∧ (s.takeHeat i r).store.counter = s.store.counter ∧
    (s.takeHeat i r).store.closeNumber = s.store.closeNumber ∧
    (s.takeHeat i r).store.flare = s.store.flare ∧ (s.takeHeat i r).store.lock = s.store.lock := by
  rcases s.takeHeat_cases i r with h | ⟨a, b, marked, -, -, h⟩ <;> rw [h] <;> simp

@[simp] theorem State.handStale_stored (s : State) (a : Nat) :
    (s.handStale a).store.settings = s.store.settings ∧ (s.handStale a).store.offtakes = s.store.offtakes ∧
    (s.handStale a).store.counter = s.store.counter ∧
    (s.handStale a).store.closeNumber = s.store.closeNumber ∧ (s.handStale a).store.flare = s.store.flare ∧
    (s.handStale a).store.lock = s.store.lock := by
  rcases s.handStale_cases a with ⟨src, -, h⟩ | ⟨-, h⟩ | ⟨-, h⟩ | ⟨i, -, h⟩ | ⟨-, h⟩ <;> rw [h] <;> simp

@[simp] theorem State.turnStale_stored (s : State) (a : Nat) (r : StationRecord) :
    (s.turnStale a r).store.settings = s.store.settings ∧
    (s.turnStale a r).store.offtakes = s.store.offtakes ∧
    (s.turnStale a r).store.counter = s.store.counter ∧
    (s.turnStale a r).store.closeNumber = s.store.closeNumber ∧
    (s.turnStale a r).store.flare = s.store.flare ∧ (s.turnStale a r).store.lock = s.store.lock := by
  simp [State.turnStale]

@[simp] theorem State.makeStale_stored (s : State) (a : Nat) (r : StationRecord) :
    (s.makeStale a r).store.settings = s.store.settings ∧
    (s.makeStale a r).store.offtakes = s.store.offtakes ∧
    (s.makeStale a r).store.counter = s.store.counter ∧
    (s.makeStale a r).store.closeNumber = s.store.closeNumber ∧ (s.makeStale a r).store.lock = s.store.lock := by
  simp [State.makeStale]

@[simp] theorem State.enterMiss_stored (s : State) (a : Nat) (v : LastEvent) :
    (s.enterMiss a v).store.settings = s.store.settings ∧
    (s.enterMiss a v).store.offtakes = s.store.offtakes ∧
    (s.enterMiss a v).store.counter = s.store.counter ∧
    (s.enterMiss a v).store.closeNumber = s.store.closeNumber ∧ (s.enterMiss a v).store.lock = s.store.lock := by
  rcases s.enterMiss_cases a v with ⟨-, h⟩ | ⟨-, h⟩ <;> rw [h] <;> simp

@[simp] theorem State.delist_stored (s : State) (a : Nat) :
    (s.delist a).store.settings = s.store.settings ∧ (s.delist a).store.offtakes = s.store.offtakes ∧
    (s.delist a).store.counter = s.store.counter ∧ (s.delist a).store.closeNumber = s.store.closeNumber ∧
    (s.delist a).store.flare = s.store.flare ∧ (s.delist a).store.lock = s.store.lock := by
  unfold State.delist
  split <;> simp

@[simp] theorem State.delistGone_stored (s : State) (old : List Nat) :
    (s.delistGone old).store.settings = s.store.settings ∧ (s.delistGone old).store.offtakes = s.store.offtakes ∧
    (s.delistGone old).store.counter = s.store.counter ∧
    (s.delistGone old).store.closeNumber = s.store.closeNumber ∧
    (s.delistGone old).store.flare = s.store.flare ∧ (s.delistGone old).store.lock = s.store.lock :=
  ⟨foldl_same (fun t : State => t.store.settings) (by simp) _ _,
   foldl_same (fun t : State => t.store.offtakes) (by simp) _ _,
   foldl_same (fun t : State => t.store.counter) (by simp) _ _,
   foldl_same (fun t : State => t.store.closeNumber) (by simp) _ _,
   foldl_same (fun t : State => t.store.flare) (by simp) _ _,
   foldl_same (fun t : State => t.store.lock) (by simp) _ _⟩

@[simp] theorem State.deliver_stored (s : State) (a : Nat) (returned : Bool) (role : Role) (x : Reading) :
    (s.deliver a returned role x).store.settings = s.store.settings ∧
    (s.deliver a returned role x).store.offtakes = s.store.offtakes ∧
    (s.deliver a returned role x).store.counter = s.store.counter ∧
    (s.deliver a returned role x).store.closeNumber = s.store.closeNumber ∧
    (s.deliver a returned role x).store.lock = s.store.lock := by
  unfold State.deliver
  (repeat' split) <;> simp

@[simp] theorem State.enterGood_stored (s : State) (a : Nat) (role : Role) (x : Reading) :
    (s.enterGood a role x).store.settings = s.store.settings ∧
    (s.enterGood a role x).store.offtakes = s.store.offtakes ∧
    (s.enterGood a role x).store.counter = s.store.counter ∧
    (s.enterGood a role x).store.closeNumber = s.store.closeNumber ∧
    (s.enterGood a role x).store.lock = s.store.lock := by
  simp [State.enterGood]

@[simp] theorem State.takeReport_stored (s : State) (a : Nat) (r : Report) :
    (s.takeReport a r).store.settings = s.store.settings ∧
    (s.takeReport a r).store.offtakes = s.store.offtakes ∧
    (s.takeReport a r).store.counter = s.store.counter ∧
    (s.takeReport a r).store.closeNumber = s.store.closeNumber ∧
    (s.takeReport a r).store.lock = s.store.lock := by
  rcases s.takeReport_cases a r with ⟨role, x, -, h⟩ | ⟨-, h⟩ | ⟨v, -, h⟩ <;> rw [h] <;> simp

@[simp] theorem State.applySettings_stored (s : State) (c : Settings) :
    (s.applySettings c).store.settings = s.store.settings ∧
    (s.applySettings c).store.offtakes = s.store.offtakes ∧
    (s.applySettings c).store.counter = s.store.counter ∧
    (s.applySettings c).store.closeNumber = s.store.closeNumber ∧
    (s.applySettings c).store.lock = s.store.lock := by
  simp only [State.applySettings, State.lineRestart, State.lineDelist]
  (repeat' split) <;> simp

@[simp] theorem State.closeSlot_stored (s : State) (n : Nat) (i : Fin 64) :
    (State.closeSlot n s i).store.settings = s.store.settings ∧
    (State.closeSlot n s i).store.offtakes = s.store.offtakes ∧
    (State.closeSlot n s i).store.counter = s.store.counter ∧
    (State.closeSlot n s i).store.closeNumber = s.store.closeNumber ∧
    (State.closeSlot n s i).store.flare = s.store.flare ∧ (State.closeSlot n s i).store.lock = s.store.lock := by
  unfold State.closeSlot
  (repeat' split) <;> simp


/-! ## Monitors and admissions

Which operations leave the monitors, the admissions or both as they were. -/

@[simp] theorem State.raise_supervised (s : State) (f : AlertFlag) :
    (s.raise f).fs.monitors = s.fs.monitors ∧
    (s.raise f).fs.admission = s.fs.admission := by
  simp [State.raise]

@[simp] theorem State.raiseIf_supervised (s : State) (b : Bool) (f : AlertFlag) :
    (s.raiseIf b f).fs.monitors = s.fs.monitors ∧
    (s.raiseIf b f).fs.admission = s.fs.admission := by
  unfold State.raiseIf
  split <;> simp

@[simp] theorem State.setMonitor_admission (s : State) (m : Monitor) (r : MonitorRecord) :
    (s.setMonitor m r).fs.admission = s.fs.admission := by
  simp [State.setMonitor]

@[simp] theorem State.setAdmission_monitors (s : State) (src : Source) (a : Admission) :
    (s.setAdmission src a).fs.monitors = s.fs.monitors := by
  simp [State.setAdmission]

@[simp] theorem State.abortRun_supervised (s : State) :
    (s.abortRun).fs.monitors = s.fs.monitors ∧
    (s.abortRun).fs.admission = s.fs.admission := by
  simp [State.abortRun]

@[simp] theorem State.withdrawalAtEngine_supervised (s : State) :
    (s.withdrawalAtEngine).fs.monitors = s.fs.monitors ∧
    (s.withdrawalAtEngine).fs.admission = s.fs.admission := by
  rcases s.withdrawalAtEngine_cases with ⟨-, h⟩ | ⟨-, -, h⟩ | ⟨-, -, h⟩ <;> rw [h] <;> simp

@[simp] theorem State.settle_monitors (s : State) (src : Source) :
    (s.settle src).fs.monitors = s.fs.monitors := by
  rcases s.settle_cases src with ⟨-, h⟩ | ⟨-, -, h⟩ | ⟨-, -, h⟩ <;> rw [h] <;> simp

@[simp] theorem State.settleAll_monitors (s : State) :
    (s.settleAll).fs.monitors = s.fs.monitors := by
  simp [State.settleAll]

@[simp] theorem State.settleRole_monitors (s : State) (role : Role) :
    (s.settleRole role).fs.monitors = s.fs.monitors := by
  rcases s.settleRole_cases role with ⟨src, -, h⟩ | ⟨-, -, h⟩ <;> simp [h]

@[simp] theorem State.takeReleased_supervised (s : State) (use : Use) (g : Grant) :
    (s.takeReleased use g).fs.monitors = s.fs.monitors ∧
    (s.takeReleased use g).fs.admission = s.fs.admission := by
  simp [State.takeReleased]

@[simp] theorem State.evaluate_admission (s : State) (m : Monitor) (b : Bool) :
    (s.evaluate m b).fs.admission = s.fs.admission := by
  unfold State.evaluate
  dsimp only
  split <;> simp

@[simp] theorem State.evaluateGas_admission (s : State) (src : Source) :
    (s.evaluateGas src).fs.admission = s.fs.admission := by
  simp [State.evaluateGas]

@[simp] theorem State.evaluateTrips_admission (s : State) :
    (s.evaluateTrips).fs.admission = s.fs.admission := by
  simp [State.evaluateTrips]

@[simp] theorem State.reevaluateGas_admission (s : State) (src : Source) :
    (s.reevaluateGas src).fs.admission = s.fs.admission := by
  simp [State.reevaluateGas]

@[simp] theorem State.reevaluateHolder_admission (s : State) :
    (s.reevaluateHolder).fs.admission = s.fs.admission := by
  simp [State.reevaluateHolder]

@[simp] theorem State.changeMode_admission (s : State) (m : Monitor) :
    (s.changeMode m).fs.admission = s.fs.admission := by
  simp [State.changeMode]

@[simp] theorem State.clearMonitor_admission (s : State) (m : Monitor) :
    (s.clearMonitor m).fs.admission = s.fs.admission := by
  simp [State.clearMonitor]

@[simp] theorem State.superviseChange_admission (s : State) (old : Settings) :
    (s.superviseChange old).fs.admission = s.fs.admission := by
  exact State.superviseChange_same (fun t : State => t.fs.admission) (by simp) (by simp) (by simp) s old

@[simp] theorem State.changeBand_supervised (s : State) (b : HolderBand) :
    (s.changeBand b).fs.monitors = s.fs.monitors ∧
    (s.changeBand b).fs.admission = s.fs.admission := by
  simp [State.changeBand]

@[simp] theorem State.takeHolder_supervised (s : State) (level : Nat) :
    (s.takeHolder level).fs.monitors = s.fs.monitors ∧
    (s.takeHolder level).fs.admission = s.fs.admission := by
  unfold State.takeHolder
  dsimp only
  split <;> simp

@[simp] theorem State.followHolder_supervised (s : State) (old : Settings) :
    (s.followHolder old).fs.monitors = s.fs.monitors ∧
    (s.followHolder old).fs.admission = s.fs.admission := by
  unfold State.followHolder
  dsimp only
  (repeat' split) <;> simp

@[simp] theorem State.supplyChange_supervised (s : State) (old : Settings) :
    (s.supplyChange old).fs.monitors = s.fs.monitors ∧
    (s.supplyChange old).fs.admission = s.fs.admission := by
  simp [State.supplyChange]

@[simp] theorem State.takeHeat_supervised (s : State) (i : Fin 64) (r : HeatReading) :
    (s.takeHeat i r).fs.monitors = s.fs.monitors ∧
    (s.takeHeat i r).fs.admission = s.fs.admission := by
  rcases s.takeHeat_cases i r with h | ⟨a, b, marked, -, -, h⟩ <;> rw [h] <;> simp

@[simp] theorem State.closeSlot_supervised (s : State) (n : Nat) (i : Fin 64) :
    (State.closeSlot n s i).fs.monitors = s.fs.monitors ∧
    (State.closeSlot n s i).fs.admission = s.fs.admission := by
  unfold State.closeSlot
  (repeat' split) <;> simp

@[simp] theorem State.closePeriod_supervised (s : State) (p : Period) :
    (s.closePeriod p).fs.monitors = s.fs.monitors ∧
    (s.closePeriod p).fs.admission = s.fs.admission := by
  simp [State.closePeriod]

@[simp] theorem State.enterStandalone_supervised (s : State) :
    (s.enterStandalone).fs.monitors = s.fs.monitors ∧
    (s.enterStandalone).fs.admission = s.fs.admission := by
  simp [State.enterStandalone]

@[simp] theorem State.discardFrame_supervised (s : State) (c : ResultCode) :
    (s.discardFrame c).fs.monitors = s.fs.monitors ∧
    (s.discardFrame c).fs.admission = s.fs.admission := by
  unfold State.discardFrame
  split <;> simp

@[simp] theorem State.completeRun_supervised (s : State) (r : Run) :
    (s.completeRun r).fs.monitors = s.fs.monitors ∧
    (s.completeRun r).fs.admission = s.fs.admission := by
  simp [State.completeRun]

@[simp] theorem State.handStale_admission (s : State) (a : Nat) :
    (s.handStale a).fs.admission = s.fs.admission := by
  rcases s.handStale_cases a with ⟨src, -, h⟩ | ⟨-, h⟩ | ⟨-, h⟩ | ⟨i, -, h⟩ | ⟨-, h⟩ <;> rw [h] <;> simp

@[simp] theorem State.turnStale_admission (s : State) (a : Nat) (r : StationRecord) :
    (s.turnStale a r).fs.admission = s.fs.admission := by
  simp [State.turnStale]

@[simp] theorem State.delist_admission (s : State) (a : Nat) :
    (s.delist a).fs.admission = s.fs.admission := by
  unfold State.delist
  split <;> simp

@[simp] theorem State.delistGone_admission (s : State) (old : List Nat) :
    (s.delistGone old).fs.admission = s.fs.admission :=
  foldl_same (fun t : State => t.fs.admission) (by simp) _ _

@[simp] theorem State.closeSlots_supervised (s : State) (n : Nat) (is : List (Fin 64)) :
    (is.foldl (State.closeSlot n) s).fs.monitors = s.fs.monitors ∧
    (is.foldl (State.closeSlot n) s).fs.admission = s.fs.admission ∧
    (is.foldl (State.closeSlot n) s).store.offtakes = s.store.offtakes :=
  ⟨foldl_same (fun t : State => t.fs.monitors) (by simp) _ _,
   foldl_same (fun t : State => t.fs.admission) (by simp) _ _,
   foldl_same (fun t : State => t.store.offtakes) (by simp) _ _⟩

@[simp] theorem State.loadSettings_supervised (s : State) :
    (s.loadSettings).fs.monitors = s.fs.monitors ∧ (s.loadSettings).fs.admission = s.fs.admission := by
  unfold State.loadSettings
  split <;> simp

@[simp] theorem State.loadFailingOfftake_supervised (s : State) (i : Fin 48) :
    (s.loadFailingOfftake i).fs.monitors = s.fs.monitors ∧ (s.loadFailingOfftake i).fs.admission = s.fs.admission := by
  unfold State.loadFailingOfftake
  dsimp only
  split <;> simp

@[simp] theorem State.loadCounter_supervised (s : State) :
    (s.loadCounter).fs.monitors = s.fs.monitors ∧ (s.loadCounter).fs.admission = s.fs.admission := by
  unfold State.loadCounter
  dsimp only
  (repeat' split) <;> simp

@[simp] theorem State.loadFailingAccount_supervised (s : State) (i : Fin 64) :
    (s.loadFailingAccount i).fs.monitors = s.fs.monitors ∧ (s.loadFailingAccount i).fs.admission = s.fs.admission := by
  unfold State.loadFailingAccount
  dsimp only
  split <;> simp

@[simp] theorem State.loadCloseNumber_supervised (s : State) :
    (s.loadCloseNumber).fs.monitors = s.fs.monitors ∧ (s.loadCloseNumber).fs.admission = s.fs.admission := by
  unfold State.loadCloseNumber
  dsimp only
  split <;> simp

@[simp] theorem State.loadFlare_supervised (s : State) :
    (s.loadFlare).fs.monitors = s.fs.monitors ∧ (s.loadFlare).fs.admission = s.fs.admission := by
  unfold State.loadFlare
  dsimp only
  split <;> simp

@[simp] theorem State.loadOfftakes_supervised (s : State) :
    s.loadOfftakes.fs.monitors = s.fs.monitors ∧ s.loadOfftakes.fs.admission = s.fs.admission := by
  unfold State.loadOfftakes
  simp [foldl_same (fun t : State => t.fs.monitors) (fun t i => (State.loadFailingOfftake_supervised t i).1),
    foldl_same (fun t : State => t.fs.admission) (fun t i => (State.loadFailingOfftake_supervised t i).2)]

@[simp] theorem State.loadAccounts_supervised (s : State) :
    s.loadAccounts.fs.monitors = s.fs.monitors ∧ s.loadAccounts.fs.admission = s.fs.admission := by
  unfold State.loadAccounts
  simp [foldl_same (fun t : State => t.fs.monitors) (fun t i => (State.loadFailingAccount_supervised t i).1),
    foldl_same (fun t : State => t.fs.admission) (fun t i => (State.loadFailingAccount_supervised t i).2)]

@[simp] theorem State.startUp_supervised (s : State) :
    s.startUp.fs.monitors = s.fs.monitors ∧ s.startUp.fs.admission = s.fs.admission := by
  unfold State.startUp
  dsimp only
  split <;> simp

/-! ## Answers and cursors

What an answer and a moved cursor hold. -/

@[simp] theorem State.ok_state (s : State) (p : List Byte) : (s.ok p).state = s := rfl
@[simp] theorem State.ok_reply (s : State) (p : List Byte) : (s.ok p).reply = ⟨.ok, p⟩ := rfl
@[simp] theorem State.refuse_state (s : State) (c : ResultCode) : (s.refuse c).state = s := rfl
@[simp] theorem State.refuse_reply (s : State) (c : ResultCode) : (s.refuse c).reply = ⟨c, []⟩ := rfl

@[simp] theorem State.moveOfftakeCursor_entries (s : State) (p : Option (Fin 48)) :
    (s.moveOfftakeCursor p).ot.entries = s.ot.entries := rfl

@[simp] theorem State.moveAccountCursor_accounts (s : State) (p : Option (Fin 64)) :
    (s.moveAccountCursor p).hau.accounts = s.hau.accounts := rfl

/-! ## Parts of the state -/

/-- The parts of the state that the laws of the part speak of, as far as a command changes them apart. -/
inductive Part where
  | pending | picks | lockLine | startingUp | settings | entries | records | ae | monitors | admission
  | accounts | accountRecords
  deriving DecidableEq

/-- Both states agree on a part. -/
def Part.Same : Part → State → State → Prop
  | .pending, s, t => t.pending = s.pending
  | .picks, s, t => t.picks = s.picks
  | .lockLine, s, t => t.lockLine = s.lockLine
  | .startingUp, s, t => t.startingUp = s.startingUp
  | .settings, s, t => t.settings = s.settings
  | .entries, s, t => t.ot.entries = s.ot.entries
  | .records, s, t => t.store.offtakes = s.store.offtakes
  | .ae, s, t => t.ae = s.ae
  | .monitors, s, t => t.fs.monitors = s.fs.monitors
  | .admission, s, t => t.fs.admission = s.fs.admission
  | .accounts, s, t => t.hau.accounts = s.hau.accounts
  | .accountRecords, s, t => t.store.accounts = s.store.accounts

/-- `t` differs from `s` in the parts named at most. -/
def State.Within (ps : List Part) (s t : State) : Prop := ∀ p, p ∉ ps → p.Same s t

theorem Part.Same.refl (p : Part) (s : State) : p.Same s s := by cases p <;> rfl

theorem Part.Same.trans {p : Part} {s t u : State} (h : p.Same s t) (k : p.Same t u) : p.Same s u := by
  cases p <;> exact Eq.trans k h

theorem State.Within.refl (ps : List Part) (s : State) : s.Within ps s := fun p _ => .refl p s

theorem State.Within.trans {ps : List Part} {s t u : State} (h : s.Within ps t) (k : t.Within ps u) :
    s.Within ps u := fun p hp => (h p hp).trans (k p hp)

theorem State.Within.mono {ps qs : List Part} {s t : State} (h : s.Within ps t) (k : ps ⊆ qs) :
    s.Within qs t := fun p hp => h p fun hps => hp (k hps)

/-! ## Frames of the host link -/

/-- A relation between a state and a later one that a change of the link before it, with the standalone flag
as it was, and any change of the link behind it keep. -/
structure Linked (R : State → State → Prop) : Prop where
  refl : ∀ s, R s s
  before : ∀ {s t : State} (l : Link), l.standalone = s.cl.standalone → R { s with cl := l } t → R s t
  after_ : ∀ {s t : State} (l : Link), R s t → R s { t with cl := l }

theorem Linked.link {R : State → State → Prop} (hR : Linked R) (s : State) (l : Link) : R s { s with cl := l } :=
  hR.after_ l (hR.refl s)

/-- A transitive relation that a change of the link alone keeps. -/
theorem Linked.of_trans {R : State → State → Prop} (refl : ∀ s, R s s)
    (trans : ∀ {s t u}, R s t → R t u → R s u) (link : ∀ (s : State) (l : Link), R s { s with cl := l }) :
    Linked R :=
  ⟨refl, fun {s} _ l _ h => trans (link s l) h, fun {_ t} l h => trans h (link t l)⟩

theorem State.Within.linked (ps : List Part) : Linked (State.Within ps) :=
  .of_trans (.refl ps) .trans fun _ _ p _ => by cases p <;> rfl

/-- Taking a frame adds to what its owner does a change of the link alone. -/
theorem Linked.takeFrame {R : State → State → Prop} (hR : Linked R) (s : State) {own : State → Answer}
    (h : s.Taking → R s.frameTaken (own s.frameTaken).state) : R s (s.takeFrame own) := by
  by_cases k : s.Taking
  · rw [State.takeFrame_of_taking k]
    have taken := h k
    rw [State.frameTaken_eq] at taken ⊢
    exact hR.after_ _ (hR.before (s.linkAfter s.cl.response) rfl taken)
  · rw [State.takeFrame_of_not_taking k]
    exact hR.link s _

theorem Linked.gated {R : State → State → Prop} (hR : Linked R) {u : State} {own : State → Answer}
    (h : u.cl.standalone = false → R u (own u).state) : R u (gated own u).state := by
  unfold Machine.gated
  split
  · exact hR.refl u
  · exact h (Bool.eq_false_iff.2 ‹_›)

theorem Linked.bare {R : State → State → Prop} (hR : Linked R) {p : List Byte} {u : State}
    {own : State → Answer} (h : R u (own u).state) : R u (bare p own u).state := by
  unfold Machine.bare
  split
  · exact h
  · exact hR.refl u

theorem Linked.namedOfftake {R : State → State → Prop} (hR : Linked R) {p : List Byte} {u : State}
    {act : Fin 48 → Offtake → Answer}
    (h : ∀ i e, u.entry i = some e → u.isProtected i = false → R u (act i e).state) :
    R u (namedOfftake p u act).state := by
  unfold Machine.namedOfftake
  split
  · split
    · exact hR.refl u
    · next hf =>
      split
      · exact hR.refl u
      · exact h _ _ (State.findOfftake_some hf).2.1 (Bool.eq_false_iff.2 ‹_›)
  · exact hR.refl u

theorem Linked.namedAccount {R : State → State → Prop} (hR : Linked R) {p : List Byte} {u : State}
    {act : Fin 64 → Account → Answer} (h : ∀ i a, u.account i = some a → R u (act i a).state) :
    R u (namedAccount p u act).state := by
  unfold Machine.namedAccount
  split
  · split
    · exact hR.refl u
    · next hf => exact h _ _ (State.findAccount_some hf).2.1
  · exact hR.refl u

/-! ## Frames of the owners -/

theorem setSettingCommand_within (p : List Byte) (u : State) :
    u.Within [.settings, .entries, .ae, .monitors, .admission, .accounts, .accountRecords] (setSettingCommand p u).state := by
  unfold setSettingCommand
  (repeat' split) <;> exact fun q hq => by cases q <;> simp [Part.Same] at hq ⊢

theorem restoreCommand_within (u : State) :
    u.Within [.settings, .entries, .ae, .monitors, .admission, .accounts, .accountRecords] (restoreCommand u).state := by
  unfold restoreCommand
  (repeat' split) <;> exact fun q hq => by cases q <;> simp [Part.Same] at hq ⊢

theorem setAlertMaskCommand_within (p : List Byte) (u : State) :
    u.Within [.settings] (setAlertMaskCommand p u).state := by
  unfold setAlertMaskCommand
  (repeat' split) <;> exact fun q hq => by cases q <;> simp [Part.Same] at hq ⊢

theorem setProtectionCommand_within (p : List Byte) (u : State) :
    u.Within [.settings] (setProtectionCommand p u).state := by
  unfold setProtectionCommand
  (repeat' split) <;> exact fun q hq => by cases q <;> simp [Part.Same] at hq ⊢

theorem State.putListInForce_within (u : State) (l : List Nat) :
    u.Within [.settings, .ae, .monitors, .admission, .accounts, .accountRecords] (u.putListInForce l) := by
  unfold State.putListInForce
  intro q hq
  cases q <;> simp [Part.Same] at hq ⊢

/-- SET POLL LIST refuses, stages a list, or puts one in force (R108). -/
theorem setPollListCommand_cases (p : List Byte) (u : State) :
    (setPollListCommand p u).state = u ∨
    (∃ l, (setPollListCommand p u).state = { u with flc := { u.flc with staged := l } }) ∨
    ∃ l, (setPollListCommand p u).state = u.putListInForce l := by
  cases p with
  | nil => exact .inl rfl
  | cons b rest =>
    simp only [setPollListCommand]
    split
    · exact .inl rfl
    split
    · exact .inl rfl
    split
    · exact .inl rfl
    split
    · exact .inl rfl
    next first final _ _ _ =>
      generalize (if first = true then [] else u.flc.staged.getD []) ++ rest.map BitVec.toNat = l
      split
      · exact .inl rfl
      · split
        · exact .inr (.inr ⟨_, rfl⟩)
        · exact .inr (.inl ⟨_, rfl⟩)

theorem setPollListCommand_within (p : List Byte) (u : State) :
    u.Within [.settings, .ae, .monitors, .admission, .accounts, .accountRecords]
      (setPollListCommand p u).state := by
  rcases setPollListCommand_cases p u with h | ⟨l, h⟩ | ⟨l, h⟩ <;> rw [h]
  · exact .refl _ u
  · exact fun q _ => by cases q <;> rfl
  · exact u.putListInForce_within l

theorem admitCommand_within (p : List Byte) (u : State) :
    u.Within [.entries, .records] (admitCommand p u).state := by
  unfold admitCommand
  (repeat' split) <;> exact fun q hq => by cases q <;> simp [Part.Same] at hq ⊢

theorem amendCommand_within (p : List Byte) (u : State) :
    u.Within [.entries, .records] (amendCommand p u).state := by
  unfold amendCommand
  (repeat' split) <;> exact fun q hq => by cases q <;> simp [Part.Same] at hq ⊢

theorem State.takeDemand_eq (s : State) (n kw : Nat) : (s.takeDemand n kw).2 =
    { s with ot := { s.ot with entries := (s.takeDemand n kw).2.ot.entries } } := by
  unfold State.takeDemand
  split <;> rfl

/-- A list of demands changes entries alone (R27). -/
theorem State.takeDemands_eq (s : State) (l : List (Nat × Nat)) : (s.takeDemands l).2 =
    { s with ot := { s.ot with entries := (s.takeDemands l).2.ot.entries } } := by
  induction l generalizing s with
  | nil => rfl
  | cons a l ih =>
    simp only [State.takeDemands]
    rw [ih, State.takeDemand_eq]

theorem setDemandCommand_within (p : List Byte) (u : State) :
    u.Within [.entries] (setDemandCommand p u).state := by
  unfold setDemandCommand
  split
  · exact .refl _ u
  split
  · exact .refl _ u
  · dsimp only
    rw [State.takeDemands_eq]
    intro q hq
    cases q <;> simp [Part.Same] at hq ⊢

theorem suspendEntry_within (i : Fin 48) (e : Offtake) (u : State) :
    u.Within [.entries, .records, .ae] (suspendEntry u i e).state := by
  unfold suspendEntry
  (repeat' split) <;> exact fun q hq => by cases q <;> simp [Part.Same] at hq ⊢

theorem reinstateEntry_within (i : Fin 48) (e : Offtake) (u : State) :
    u.Within [.entries, .records] (reinstateEntry u i e).state := by
  unfold reinstateEntry
  (repeat' split) <;> exact fun q hq => by cases q <;> simp [Part.Same] at hq ⊢

theorem retireEntry_within (i : Fin 48) (e : Offtake) (u : State) :
    u.Within [.entries, .records] (retireEntry u i e).state := by
  unfold retireEntry
  (repeat' split) <;> exact fun q hq => by cases q <;> simp [Part.Same] at hq ⊢

theorem startRunCommand_within (u : State) :
    u.Within [.ae] (startRunCommand u).state := by
  unfold startRunCommand
  (repeat' split) <;> exact fun q hq => by cases q <;> simp [Part.Same] at hq ⊢

/-- ABORT RUN is refused, or discards the run in flight (R73). -/
theorem abortRunCommand_cases (u : State) :
    (abortRunCommand u).state = u ∨ (abortRunCommand u).state = u.runAbortedByHost := by
  cases hf : u.nvs.settingsFault with
  | true => exact .inl (by rw [abortRunCommand_of_settingsFault hf]; rfl)
  | false => cases hr : u.ae.run with
    | none => exact .inl (by rw [abortRunCommand_of_idle hr]; rfl)
    | some r => exact .inr (by rw [abortRunCommand_of_running hf hr]; rfl)

theorem abortRunCommand_within (u : State) : u.Within [.ae] (abortRunCommand u).state := by
  rcases abortRunCommand_cases u with h | h <;> rw [h]
  · exact .refl _ u
  · intro q hq
    cases q <;> simp [Part.Same, State.runAbortedByHost] at hq ⊢

theorem readFlareCommand_within (p : List Byte) (u : State) :
    u.Within [.ae] (readFlareCommand p u).state := by
  unfold readFlareCommand
  (repeat' split) <;> exact fun q hq => by cases q <;> simp [Part.Same] at hq ⊢

theorem readCountersCommand_within (u : State) :
    u.Within [.monitors] (readCountersCommand u).state := by
  unfold readCountersCommand
  intro q hq
  cases q <;> simp [Part.Same] at hq ⊢

theorem State.Within.foldl {α : Type} {ps : List Part} {f : State → α → State}
    (h : ∀ t a, State.Within ps t (f t a)) (l : List α) (s : State) : s.Within ps (l.foldl f s) := by
  induction l generalizing s with
  | nil => exact .refl _ s
  | cons a l ih => exact (h s a).trans (ih _)

theorem State.settle_within (u : State) (src : Source) : u.Within [.ae, .admission] (u.settle src) := by
  intro q hq
  cases q <;> simp [Part.Same] at hq ⊢

theorem State.clearMonitor_within (u : State) (m : Monitor) : u.Within [.monitors] (u.clearMonitor m) := by
  intro q hq
  cases q <;> simp [Part.Same] at hq ⊢

/-- The sources that some monitor of a list acts on are settled, in the order of `Source.all`. -/
def State.settleNamed (s : State) (ms : List Monitor) : State :=
  Source.all.foldl (fun t src => if ms.any (fun m => actsOn m == src) then t.settle src else t) s

/-- CLEAR FAULTS is refused, or clears the monitors named and settles what they act on (R88). -/
theorem clearFaultsCommand_cases (p : List Byte) (u : State) :
    (clearFaultsCommand p u).state = u ∨
    ∃ ms, namedMonitors p = .ok ms ∧
      (clearFaultsCommand p u).state = (ms.foldl State.clearMonitor u).settleNamed ms := by
  unfold clearFaultsCommand
  split
  · exact .inl rfl
  · exact .inr ⟨_, ‹_›, rfl⟩

theorem clearFaultsCommand_within (p : List Byte) (u : State) :
    u.Within [.ae, .monitors, .admission] (clearFaultsCommand p u).state := by
  rcases clearFaultsCommand_cases p u with h | ⟨ms, -, h⟩ <;> rw [h]
  · exact .refl _ u
  · have cleared := State.Within.foldl (fun t m => t.clearMonitor_within m) ms u
    have settled : State.Within [.ae, .admission] (ms.foldl State.clearMonitor u)
        ((ms.foldl State.clearMonitor u).settleNamed ms) :=
      .foldl (fun t src => by split; exacts [t.settle_within src, .refl _ t]) _ _
    exact (cleared.mono (by simp)).trans (settled.mono (by simp))

theorem clearAlertCommand_within (p : List Byte) (u : State) :
    u.Within [] (clearAlertCommand p u).state := by
  unfold clearAlertCommand
  (repeat' split) <;> exact fun q hq => by cases q <;> simp [Part.Same] at hq ⊢

theorem openAccountCommand_within (p : List Byte) (u : State) :
    u.Within [.accounts, .accountRecords] (openAccountCommand p u).state := by
  unfold openAccountCommand
  (repeat' split) <;> exact fun q hq => by cases q <;> simp [Part.Same] at hq ⊢

theorem collectEntry_within (i : Fin 64) (a : Account) (u : State) :
    u.Within [.accounts, .accountRecords] (collectEntry u i a).state := by
  unfold collectEntry
  (repeat' split) <;> exact fun q hq => by cases q <;> simp [Part.Same] at hq ⊢

theorem closeEntry_within (i : Fin 64) (a : Account) (u : State) :
    u.Within [.accounts, .accountRecords] (closeEntry u i a).state := by
  unfold closeEntry
  (repeat' split) <;> exact fun q hq => by cases q <;> simp [Part.Same] at hq ⊢

theorem forceEntry_within (i : Fin 64) (a : Account) (u : State) :
    u.Within [.accounts, .accountRecords] (forceEntry u i a).state := by
  unfold forceEntry
  (repeat' split) <;> exact fun q hq => by cases q <;> simp [Part.Same] at hq ⊢

theorem clearMarksCommand_within (p : List Byte) (u : State) :
    u.Within [.accounts, .accountRecords] (clearMarksCommand p u).state := by
  unfold clearMarksCommand
  (repeat' split) <;> exact fun q hq => by cases q <;> simp [Part.Same] at hq ⊢

theorem closeBillingCommand_within (u : State) :
    u.Within [.accounts, .accountRecords] (closeBillingCommand u).state := by
  intro q hq
  cases q <;> simp [closeBillingCommand, Part.Same] at hq ⊢

theorem startSettlementCommand_within (p : List Byte) (u : State) :
    u.Within [] (startSettlementCommand p u).state := by
  unfold startSettlementCommand
  (repeat' split) <;> exact fun q hq => by cases q <;> simp [Part.Same] at hq ⊢

theorem declareCommand_within (p : List Byte) (u : State) :
    u.Within [] (declareCommand p u).state := by
  unfold declareCommand
  (repeat' split) <;> exact fun q hq => by cases q <;> simp [Part.Same] at hq ⊢

theorem stopSettlementCommand_within (u : State) :
    u.Within [.entries] (stopSettlementCommand u).state := by
  unfold stopSettlementCommand
  (repeat' split) <;> exact fun q hq => by cases q <;> simp [Part.Same] at hq ⊢

theorem resumeLinkCommand_within (u : State) :
    u.Within [.ae] (resumeLinkCommand u).state := by
  unfold resumeLinkCommand
  (repeat' split) <;> exact fun q hq => by cases q <;> simp [Part.Same] at hq ⊢

theorem readOfftakeCommand_within (p : List Byte) (u : State) :
    u.Within [] (readOfftakeCommand p u).state := by
  unfold readOfftakeCommand
  (repeat' split) <;> exact fun q hq => by cases q <;> simp [Part.Same] at hq ⊢

theorem findOfftakesCommand_within (p : List Byte) (u : State) :
    u.Within [] (findOfftakesCommand p u).state := by
  unfold findOfftakesCommand
  (repeat' split) <;> exact fun q hq => by cases q <;> simp [Part.Same] at hq ⊢

theorem readNextOfftakeCommand_within (u : State) :
    u.Within [] (readNextOfftakeCommand u).state := by
  unfold readNextOfftakeCommand
  (repeat' split) <;> exact fun q hq => by cases q <;> simp [Part.Same] at hq ⊢

theorem readGrantsCommand_within (p : List Byte) (u : State) :
    u.Within [] (readGrantsCommand p u).state := by
  unfold readGrantsCommand
  (repeat' split) <;> exact fun q hq => by cases q <;> simp [Part.Same] at hq ⊢

theorem findAccountsCommand_within (p : List Byte) (u : State) :
    u.Within [] (findAccountsCommand p u).state := by
  unfold findAccountsCommand
  (repeat' split) <;> exact fun q hq => by cases q <;> simp [Part.Same] at hq ⊢

theorem readNextAccountCommand_within (u : State) :
    u.Within [] (readNextAccountCommand u).state := by
  unfold readNextAccountCommand
  (repeat' split) <;> exact fun q hq => by cases q <;> simp [Part.Same] at hq ⊢

theorem readSettingsCommand_within (p : List Byte) (u : State) :
    u.Within [] (readSettingsCommand p u).state := by
  unfold readSettingsCommand
  (repeat' split) <;> exact fun q hq => by cases q <;> simp [Part.Same] at hq ⊢

theorem readStationCommand_within (p : List Byte) (u : State) :
    u.Within [] (readStationCommand p u).state := by
  unfold readStationCommand
  (repeat' split) <;> exact fun q hq => by cases q <;> simp [Part.Same] at hq ⊢

theorem saveCommand_within (u : State) :
    u.Within [] (saveCommand u).state := by
  unfold saveCommand
  (repeat' split) <;> exact fun q hq => by cases q <;> simp [Part.Same] at hq ⊢

theorem clearSettingsFaultCommand_within (u : State) :
    u.Within [] (clearSettingsFaultCommand u).state := by
  unfold clearSettingsFaultCommand
  (repeat' split) <;> exact fun q hq => by cases q <;> simp [Part.Same] at hq ⊢

theorem lockCommand_within (u : State) :
    u.Within [] (lockCommand u).state := by
  unfold lockCommand
  (repeat' split) <;> exact fun q hq => by cases q <;> simp [Part.Same] at hq ⊢

/-! ## The frame of every command and event -/

/-- The parts a command or event can change, among those of `Part`. -/
def touched : Instr → List Part
  | .startUpComplete => [.startingUp, .settings, .entries, .records, .ae, .accounts, .accountRecords]
  | .powerOn _ | .resetLine _ | .resetPart _ _ =>
    [.startingUp, .settings, .entries, .records, .ae, .monitors, .admission, .accounts, .accountRecords]
  | .lockLineChange _ => [.lockLine]
  | .setSetting _ | .restoreSettings _ =>
    [.settings, .entries, .ae, .monitors, .admission, .accounts, .accountRecords]
  | .setPollList _ => [.settings, .ae, .monitors, .admission, .accounts, .accountRecords]
  | .setAlertMask _ | .setProtection _ => [.settings]
  | .admitOfftake _ | .amendOfftake _ | .reinstateOfftake _ | .retireOfftake _ => [.entries, .records]
  | .setDemand _ | .stopSettlement _ => [.entries]
  | .suspendOfftake _ | .runCompletion => [.entries, .records, .ae]
  | .linkSilenceTimerExpiry => [.entries, .ae]
  | .resumeLink _ | .startRun _ | .abortRun _ | .readFlareTotals _ | .dispatchTimerExpiry
  | .flareTimerExpiry => [.ae]
  | .readCounters _ => [.monitors]
  | .clearFaults _ | .retryTimerExpiry _ => [.ae, .monitors, .admission]
  | .replyTimerExpiry _ => [.ae, .monitors, .admission, .accounts, .accountRecords]
  | .reportComplete _ => [.entries, .ae, .monitors, .admission, .accounts, .accountRecords]
  | .openAccount _ | .closeBillingPeriod _ | .collectAccount _ | .closeAccount _ | .forceFinal _
  | .clearAccountMarks _ => [.accounts, .accountRecords]
  | _ => []

theorem State.beginReset_within (s : State) (r : ResetRecord) (torn : List Torn) :
    s.Within [.startingUp, .settings, .entries, .records, .ae, .monitors, .admission, .accounts,
      .accountRecords] (s.beginReset r torn) := by
  intro q hq
  cases q <;> simp [Part.Same, State.beginReset, State.begun] at hq ⊢

@[simp] theorem State.publishPart_accountRecords (s : State) (n : Nat) (p : RunPart) :
    (s.publishPart n p).store.accounts = s.store.accounts := by
  rcases s.publishPart_cases n p with ⟨-, h⟩ | ⟨e, -, -, ⟨-, h⟩ | ⟨-, h⟩⟩ <;> rw [h] <;> simp

@[simp] theorem State.completeSave_records (s : State) (c : Settings) :
    (s.completeSave c).store.offtakes = s.store.offtakes ∧
    (s.completeSave c).store.accounts = s.store.accounts := by
  simp [State.completeSave]

theorem State.completeRun_within (s : State) (r : Run) :
    s.Within [.entries, .records, .ae] (s.completeRun r) := by
  have accounts : (s.completeRun r).store.accounts = s.store.accounts := by
    simp only [State.completeRun, State.rerunIfPending_frame, State.raiseIf_frame, State.settleFigures_store]
    rw [State.freeSlots, foldl_same (fun t : State => t.store.accounts) (by simp),
      foldl_same (fun t : State => t.store.accounts) (by simp), s.integrateFlare_stored.2.2.1]
  intro q hq
  cases q <;> simp [Part.Same, accounts] at hq ⊢

/-- A command or event changes the parts named for it at most. -/
theorem exec_within {c : Instr} {s t : State} (h : exec c s = .next t) : s.Within (touched c) t := by
  have L := State.Within.linked (touched c)
  cases c with
  | powerOn torn =>
    obtain rfl := Host.Outcome.next.inj h
    exact s.beginReset_within _ torn
  | resetLine torn =>
    obtain rfl := Host.Outcome.next.inj h
    exact s.beginReset_within _ torn
  | startUpComplete =>
    obtain rfl := Host.Outcome.next.inj h
    split
    · exact fun q hq => by cases q <;> simp [Part.Same, touched] at hq ⊢
    · exact .refl _ s
  | lockLineChange b =>
    obtain rfl := Host.Outcome.next.inj h
    exact fun q hq => by cases q <;> simp [Part.Same, touched] at hq ⊢
  | transactionBegin =>
    obtain rfl := Host.Outcome.next.inj h
    exact fun q _ => by cases q <;> simp [Part.Same]
  | frameError =>
    obtain rfl := Host.Outcome.next.inj h
    exact fun q _ => by cases q <;> simp [Part.Same]
  | checkError =>
    obtain rfl := Host.Outcome.next.inj h
    exact fun q _ => by cases q <;> simp [Part.Same]
  | unknownCommand code p =>
    obtain rfl := Host.Outcome.next.inj h
    exact L.takeFrame s fun _ => L.refl _
  | noOp p =>
    obtain rfl := Host.Outcome.next.inj h
    exact L.takeFrame s fun _ => L.refl _
  | resetPart p torn =>
    obtain rfl := Host.Outcome.next.inj h
    split
    · exact s.beginReset_within _ torn
    · exact L.takeFrame s fun _ => L.refl _
  | resumeLink p =>
    obtain rfl := Host.Outcome.next.inj h
    exact L.takeFrame s fun _ => L.bare (resumeLinkCommand_within _)
  | readResetCause p =>
    obtain rfl := Host.Outcome.next.inj h
    exact L.takeFrame s fun _ => L.bare (L.refl _)
  | setSetting p =>
    obtain rfl := Host.Outcome.next.inj h
    exact L.takeFrame s fun _ => L.gated fun _ => setSettingCommand_within p _
  | readSettings p =>
    obtain rfl := Host.Outcome.next.inj h
    exact L.takeFrame s fun _ => readSettingsCommand_within p _
  | saveSettings p =>
    obtain rfl := Host.Outcome.next.inj h
    exact L.takeFrame s fun _ => L.gated fun _ => L.bare (saveCommand_within _)
  | saveCompletion =>
    obtain rfl := Host.Outcome.next.inj h
    split
    · exact fun q _ => by cases q <;> simp [Part.Same]
    · exact .refl _ s
  | restoreSettings p =>
    obtain rfl := Host.Outcome.next.inj h
    exact L.takeFrame s fun _ => L.gated fun _ => L.bare (restoreCommand_within _)
  | clearSettingsFault p =>
    obtain rfl := Host.Outcome.next.inj h
    exact L.takeFrame s fun _ => L.gated fun _ => L.bare (clearSettingsFaultCommand_within _)
  | readSupply p =>
    obtain rfl := Host.Outcome.next.inj h
    exact L.takeFrame s fun _ => L.bare (L.refl _)
  | admitOfftake p =>
    obtain rfl := Host.Outcome.next.inj h
    exact L.takeFrame s fun _ => L.gated fun _ => admitCommand_within p _
  | amendOfftake p =>
    obtain rfl := Host.Outcome.next.inj h
    exact L.takeFrame s fun _ => L.gated fun _ => amendCommand_within p _
  | setDemand p =>
    obtain rfl := Host.Outcome.next.inj h
    exact L.takeFrame s fun _ => L.gated fun _ => setDemandCommand_within p _
  | suspendOfftake p =>
    obtain rfl := Host.Outcome.next.inj h
    exact L.takeFrame s fun _ => L.gated fun _ => L.namedOfftake fun i e _ _ => suspendEntry_within i e _
  | reinstateOfftake p =>
    obtain rfl := Host.Outcome.next.inj h
    exact L.takeFrame s fun _ => L.gated fun _ => L.namedOfftake fun i e _ _ => reinstateEntry_within i e _
  | retireOfftake p =>
    obtain rfl := Host.Outcome.next.inj h
    exact L.takeFrame s fun _ => L.gated fun _ => L.namedOfftake fun i e _ _ => retireEntry_within i e _
  | setProtection p =>
    obtain rfl := Host.Outcome.next.inj h
    exact L.takeFrame s fun _ => L.gated fun _ => setProtectionCommand_within p _
  | lockPermanently p =>
    obtain rfl := Host.Outcome.next.inj h
    exact L.takeFrame s fun _ => L.gated fun _ => L.bare (lockCommand_within _)
  | readTable p =>
    obtain rfl := Host.Outcome.next.inj h
    exact L.takeFrame s fun _ => L.bare (L.refl _)
  | readOfftake p =>
    obtain rfl := Host.Outcome.next.inj h
    exact L.takeFrame s fun _ => readOfftakeCommand_within p _
  | findOfftakes p =>
    obtain rfl := Host.Outcome.next.inj h
    exact L.takeFrame s fun _ => findOfftakesCommand_within p _
  | readNextOfftake p =>
    obtain rfl := Host.Outcome.next.inj h
    exact L.takeFrame s fun _ => L.bare (readNextOfftakeCommand_within _)
  | readGrants p =>
    obtain rfl := Host.Outcome.next.inj h
    exact L.takeFrame s fun _ => readGrantsCommand_within p _
  | startRun p =>
    obtain rfl := Host.Outcome.next.inj h
    exact L.takeFrame s fun _ => L.gated fun _ => L.bare (startRunCommand_within _)
  | abortRun p =>
    obtain rfl := Host.Outcome.next.inj h
    exact L.takeFrame s fun _ => L.gated fun _ => L.bare (abortRunCommand_within _)
  | readRunSummary p =>
    obtain rfl := Host.Outcome.next.inj h
    exact L.takeFrame s fun _ => L.bare (L.refl _)
  | readFlareTotals p =>
    obtain rfl := Host.Outcome.next.inj h
    exact L.takeFrame s fun _ => readFlareCommand_within p _
  | readFaults p =>
    obtain rfl := Host.Outcome.next.inj h
    exact L.takeFrame s fun _ => L.bare (L.refl _)
  | readCounters p =>
    obtain rfl := Host.Outcome.next.inj h
    exact L.takeFrame s fun _ => L.bare (readCountersCommand_within _)
  | clearFaults p =>
    obtain rfl := Host.Outcome.next.inj h
    exact L.takeFrame s fun _ => L.gated fun _ => clearFaultsCommand_within p _
  | readAlert p =>
    obtain rfl := Host.Outcome.next.inj h
    exact L.takeFrame s fun _ => L.bare (L.refl _)
  | clearAlert p =>
    obtain rfl := Host.Outcome.next.inj h
    exact L.takeFrame s fun _ => clearAlertCommand_within p _
  | setAlertMask p =>
    obtain rfl := Host.Outcome.next.inj h
    exact L.takeFrame s fun _ => L.gated fun _ => setAlertMaskCommand_within p _
  | setPollList p =>
    obtain rfl := Host.Outcome.next.inj h
    exact L.takeFrame s fun _ => L.gated fun _ => setPollListCommand_within p _
  | readStation p =>
    obtain rfl := Host.Outcome.next.inj h
    exact L.takeFrame s fun _ => readStationCommand_within p _
  | gapTimerExpiry =>
    obtain rfl := Host.Outcome.next.inj h
    (repeat' split) <;> exact fun q hq => by cases q <;> simp [Part.Same, touched] at hq ⊢
  | querySent =>
    obtain rfl := Host.Outcome.next.inj h
    (repeat' split) <;> exact fun q hq => by cases q <;> simp [Part.Same, touched] at hq ⊢
  | replyTimerExpiry arrived =>
    obtain rfl := Host.Outcome.next.inj h
    (repeat' split) <;> exact fun q hq => by cases q <;> simp [Part.Same, touched] at hq ⊢
  | reportComplete report =>
    obtain rfl := Host.Outcome.next.inj h
    (repeat' split) <;> exact fun q hq => by cases q <;> simp [Part.Same, touched] at hq ⊢
  | openAccount p =>
    obtain rfl := Host.Outcome.next.inj h
    exact L.takeFrame s fun _ => L.gated fun _ => openAccountCommand_within p _
  | closeBillingPeriod p =>
    obtain rfl := Host.Outcome.next.inj h
    exact L.takeFrame s fun _ => L.gated fun _ => L.bare (closeBillingCommand_within _)
  | collectAccount p =>
    obtain rfl := Host.Outcome.next.inj h
    exact L.takeFrame s fun _ => L.gated fun _ => L.namedAccount fun i a _ => collectEntry_within i a _
  | closeAccount p =>
    obtain rfl := Host.Outcome.next.inj h
    exact L.takeFrame s fun _ => L.gated fun _ => L.namedAccount fun i a _ => closeEntry_within i a _
  | forceFinal p =>
    obtain rfl := Host.Outcome.next.inj h
    exact L.takeFrame s fun _ => L.gated fun _ => L.namedAccount fun i a _ => forceEntry_within i a _
  | clearAccountMarks p =>
    obtain rfl := Host.Outcome.next.inj h
    exact L.takeFrame s fun _ => L.gated fun _ => clearMarksCommand_within p _
  | readAccount p =>
    obtain rfl := Host.Outcome.next.inj h
    exact L.takeFrame s fun _ => L.namedAccount fun i a _ => .refl _ _
  | findAccounts p =>
    obtain rfl := Host.Outcome.next.inj h
    exact L.takeFrame s fun _ => findAccountsCommand_within p _
  | readNextAccount p =>
    obtain rfl := Host.Outcome.next.inj h
    exact L.takeFrame s fun _ => L.bare (readNextAccountCommand_within _)
  | startSettlement p =>
    obtain rfl := Host.Outcome.next.inj h
    exact L.takeFrame s fun _ => startSettlementCommand_within p _
  | declare p =>
    obtain rfl := Host.Outcome.next.inj h
    exact L.takeFrame s fun _ => L.gated fun _ => declareCommand_within p _
  | stopSettlement p =>
    obtain rfl := Host.Outcome.next.inj h
    exact L.takeFrame s fun _ => L.gated fun _ => L.bare (stopSettlementCommand_within _)
  | readSettlement p =>
    obtain rfl := Host.Outcome.next.inj h
    exact L.takeFrame s fun _ => L.bare (L.refl _)
  | periodTimerExpiry =>
    obtain rfl := Host.Outcome.next.inj h
    (repeat' split) <;> exact fun q hq => by cases q <;> simp [Part.Same, touched] at hq ⊢
  | dispatchTimerExpiry =>
    obtain rfl := Host.Outcome.next.inj h
    (repeat' split) <;> exact fun q hq => by cases q <;> simp [Part.Same, touched] at hq ⊢
  | runCompletion =>
    obtain rfl := Host.Outcome.next.inj h
    split
    · exact .refl _ s
    · exact s.completeRun_within _
  | flareTimerExpiry =>
    obtain rfl := Host.Outcome.next.inj h
    (repeat' split) <;> exact fun q hq => by cases q <;> simp [Part.Same, touched] at hq ⊢
  | retryTimerExpiry m =>
    obtain rfl := Host.Outcome.next.inj h
    (repeat' split) <;> exact fun q hq => by cases q <;> simp [Part.Same, touched] at hq ⊢
  | linkSilenceTimerExpiry =>
    obtain rfl := Host.Outcome.next.inj h
    (repeat' split) <;> exact fun q hq => by cases q <;> simp [Part.Same, touched] at hq ⊢

/-! ## The step and the queue -/

/-- Every command and event leads on (assumption log 33). -/
theorem exec_next (c : Instr) (s : State) : ∃ t, exec c s = .next t := by
  cases c <;> exact ⟨_, rfl⟩

theorem lockLine_not_mem_touched {c : Instr} (h : ∀ b, c ≠ .lockLineChange b) :
    Part.lockLine ∉ touched c := by
  cases c <;> simp [touched] at h ⊢

theorem pending_picks_not_mem_touched (c : Instr) :
    Part.pending ∉ touched c ∧ Part.picks ∉ touched c := by
  cases c <;> simp [touched]

/-- Settles O1. -/
theorem stepTakesTheFront : Obligations.StepTakesTheFront := by
  intro c rest s h
  unfold step
  rw [h]

/-- Settles O2, by the frame of every command and event. -/
theorem everyCommandGoesOn : Obligations.EveryCommandGoesOn := by
  intro c s
  obtain ⟨t, h⟩ := exec_next c s
  have w := exec_within h
  obtain ⟨hpending, hpicks⟩ := pending_picks_not_mem_touched c
  exact ⟨t, h, w _ hpending, w _ hpicks, fun hc => w _ (lockLine_not_mem_touched hc)⟩

/-- What a step does: a command or event on the state with another queue or one pick more, or a tick. -/
theorem step_cases {s t : State} (h : step s = .next t) :
    (∃ c rest picks, exec c { s with pending := rest, picks := picks } = .next t) ∨ t = s.tick := by
  unfold step at h
  split at h
  · next c rest _ => exact .inl ⟨c, rest, s.picks, h⟩
  · unfold State.idle at h
    split at h
    · exact .inr (Host.Outcome.next.inj h).symm
    · exact .inl ⟨_, s.pending, s.picks, h⟩
    · exact .inl ⟨_, s.pending, s.picks + 1, h⟩

end Sys2Proof.Machine
end

section
/-! PROOF. What holds of the engine and the table in every state (chapter 3; O35, O36): which operations
only move the run in flight, and what admission, suspension, reinstatement, retirement and the completion of
a run make of grants, surplus and zone sums. -/

namespace Sys2Proof.Machine

/-! ## Entries alike -/

/-- What the engine's laws read of an entry: its state and its published grant. -/
def Offtake.standing (e : Offtake) : OfftakeState × PerSource Nat := (e.state, e.grant.parts)

/-- Both states hold the same slots, with entries of the same state and grant. -/
def State.Alike (s t : State) : Prop :=
  ∀ i, (t.entry i).map Offtake.standing = (s.entry i).map Offtake.standing

theorem State.Alike.of_eq {s t : State} (h : t.ot.entries = s.ot.entries) : s.Alike t := fun i => by
  simp [State.entry, h]

theorem State.Alike.trans {s t u : State} (h : s.Alike t) (k : t.Alike u) : s.Alike u :=
  fun i => (k i).trans (h i)

theorem State.Alike.symm {s t : State} (h : s.Alike t) : t.Alike s := fun i => (h i).symm

theorem State.Alike.entry {s t : State} (h : s.Alike t) {i : Fin 48} {f : Offtake} (hf : t.entry i = some f) :
    ∃ e, s.entry i = some e ∧ e.state = f.state ∧ e.grant.parts = f.grant.parts := by
  have hi := h i
  rw [hf] at hi
  obtain ⟨e, he, hs⟩ := Option.map_eq_some_iff.1 hi.symm
  exact ⟨e, he, congrArg Prod.fst hs, congrArg Prod.snd hs⟩

theorem State.Alike.isSome {s t : State} (h : s.Alike t) (i : Fin 48) :
    (t.entry i).isSome = (s.entry i).isSome := by
  rw [← Option.isSome_map (f := Offtake.standing), h i, Option.isSome_map]

/-- The published grant of a slot, 0 where it is FREE. -/
def State.grantAt (s : State) (src : Source) (i : Fin 48) : Nat :=
  match s.entry i with
  | some e => e.grant.parts.get src
  | none => 0

theorem State.grantSum_eq (s : State) (src : Source) : s.grantSum src = (slots48.map (s.grantAt src)).sum :=
  rfl

theorem State.grantAt_some {s : State} {i : Fin 48} {e : Offtake} (h : s.entry i = some e) (src : Source) :
    s.grantAt src i = e.grant.parts.get src := by simp [State.grantAt, h]

theorem State.grantAt_none {s : State} {i : Fin 48} (h : s.entry i = none) (src : Source) :
    s.grantAt src i = 0 := by simp [State.grantAt, h]

theorem State.Alike.grantSum {s t : State} (h : s.Alike t) (src : Source) :
    t.grantSum src = s.grantSum src := by
  rw [State.grantSum_eq, State.grantSum_eq]
  refine congrArg List.sum (List.map_congr_left fun i _ => ?_)
  cases hf : t.entry i with
  | none =>
    have := h.isSome i
    rw [hf] at this
    rw [State.grantAt_none hf, State.grantAt_none (Option.isSome_eq_false_iff.1 this.symm |> Option.isNone_iff_eq_none.1)]
  | some f =>
    obtain ⟨e, he, -, hg⟩ := h.entry hf
    rw [State.grantAt_some hf, State.grantAt_some he, hg]

/-! ## The run in flight -/

theorem State.RunFits.alike {s t : State} {r : Run} (h : s.RunFits r) (k : s.Alike t) : t.RunFits r := by
  obtain ⟨hnodup, hparts, hreleased, hretiring, hgrants⟩ := h
  refine ⟨hnodup, fun p hp => ?_, fun p hp f hf => ?_, fun i hi => ⟨?_, fun f hf => ?_⟩, fun i f hf hg => ?_⟩
  · obtain ⟨hg, hfloor, hslot, hsome⟩ := hparts p hp
    exact ⟨hg, hfloor, hslot, (k.isSome p.slot).trans hsome⟩
  · obtain ⟨e, he, hs, hg⟩ := k.entry hf
    rw [← hs, ← hg]
    exact hreleased p hp e he
  · exact (k.isSome i).trans (hretiring i hi).1
  · obtain ⟨e, he, hs, -⟩ := k.entry hf
    rw [← hs]
    exact (hretiring i hi).2 e he
  · obtain ⟨e, he, -, hge⟩ := k.entry hf
    exact hgrants i e he (by rwa [hge])

/-- A run that starts fits the table it is taken from (R52, R53). -/
theorem State.runPicture_fits {s : State} (h : s.WaitingHoldNone) : s.RunFits s.runPicture := by
  refine ⟨s.participants_nodup, fun p hp => ?_, fun p hp f hf => ?_, fun i hi => ?_, fun i e he hg => ?_⟩
  · obtain ⟨i, e, he, htakes, rfl⟩ := State.mem_participants.1 hp
    refine ⟨rfl, Nat.min_le_right _ _, fun hi => ?_, by simp [Offtake.runPart, Option.mem_def.1 he]⟩
    obtain ⟨f, hf, hs⟩ := State.mem_retiringSlots.1 hi
    obtain rfl : e = f := Option.mem_unique he hf
    simp [Offtake.takesPart, hs] at htakes
  · obtain ⟨i, e, he, htakes, rfl⟩ := State.mem_participants.1 hp
    obtain rfl : e = f := Option.mem_unique he hf
    refine ⟨fun hrel => absurd hrel (by simp [Offtake.runPart]), fun _ hs => ?_⟩
    simp [Offtake.takesPart, hs] at htakes
  · obtain ⟨e, he, hs⟩ := State.mem_retiringSlots.1 hi
    refine ⟨by simp [Option.mem_def.1 he], fun f hf => ?_⟩
    rwa [← Option.mem_unique he hf]
  · cases hs : e.state with
    | pending => exact absurd (h i e he (.inl hs)) hg
    | suspended => exact absurd (h i e he (.inr hs)) hg
    | retiring => exact .inl (State.mem_retiringSlots.2 ⟨e, he, hs⟩)
    | active =>
      exact .inr ⟨_, State.mem_participants.2 ⟨i, e, he, by simp [Offtake.takesPart, hs], rfl⟩, rfl, rfl⟩

/-! ## Operations that only move the run -/

/-- What holds of the engine and the table while the part is up (R18, R49, R52, R60, R68). -/
def State.EngineCore (s : State) : Prop :=
  s.WaitingHoldNone ∧ (∀ r ∈ s.ae.run, s.RunFits r) ∧ (s.ae.rerunPending = true → s.ae.run.isSome = true)

/-- The run in flight stands, or was discarded with a pending rerun, or began on a table alike. -/
def State.RunMoves (s t : State) : Prop :=
  (t.ae.run = s.ae.run ∧
    (t.ae.rerunPending = true → s.ae.rerunPending = true ∨ s.ae.run.isSome = true)) ∨
  (t.ae.run = none ∧ t.ae.rerunPending = false) ∨
  ∃ u, s.Alike u ∧ t.ae.run = some u.runPicture

/-- The run in flight may move; grants, states and the figures of the last completed run stand. -/
structure State.EngineKept (s t : State) : Prop where
  alike : s.Alike t
  lastPools : t.ae.lastPools = s.ae.lastPools
  surplus : t.ae.surplus = s.ae.surplus
  zoneGrant : t.ae.zoneGrant = s.ae.zoneGrant
  zoneNeed : t.ae.zoneNeed = s.ae.zoneNeed
  coverage : t.ae.coverage = s.ae.coverage
  run : s.RunMoves t

/-- An operation that leaves the engine alone keeps it, whatever it does to fields the laws do not read. -/
theorem State.EngineKept.of_alike {s t : State} (h : t.ae = s.ae) (k : s.Alike t) : s.EngineKept t :=
  ⟨k, by rw [h], by rw [h], by rw [h], by rw [h], by rw [h], .inl ⟨by rw [h], fun hr => .inl (by rwa [h] at hr)⟩⟩

theorem State.EngineKept.of_eq {s t : State} (h : t.ae = s.ae) (k : t.ot.entries = s.ot.entries) :
    s.EngineKept t := .of_alike h (.of_eq k)

theorem State.EngineKept.refl (s : State) : s.EngineKept s := .of_eq rfl rfl

theorem State.RunMoves.trans {s t u : State} (a : s.Alike t) (h : s.RunMoves t) (k : t.RunMoves u) :
    s.RunMoves u := by
  rcases k with ⟨hrun, hrerun⟩ | k | ⟨v, hv, hrun⟩
  · rcases h with ⟨hrun', hrerun'⟩ | ⟨hrun', hrerun'⟩ | ⟨v, hv, hrun'⟩
    · refine .inl ⟨hrun.trans hrun', fun hr => ?_⟩
      rcases hrerun hr with h | h
      · exact hrerun' h
      · exact .inr (by rwa [hrun'] at h)
    · refine .inr (.inl ⟨hrun.trans hrun', Bool.eq_false_iff.2 fun hr => ?_⟩)
      rcases hrerun hr with h | h
      · rw [hrerun'] at h; cases h
      · rw [hrun'] at h; cases h
    · exact .inr (.inr ⟨v, hv, hrun.trans hrun'⟩)
  · exact .inr (.inl k)
  · exact .inr (.inr ⟨v, a.trans hv, hrun⟩)

theorem State.EngineKept.trans {s t u : State} (h : s.EngineKept t) (k : t.EngineKept u) :
    s.EngineKept u where
  alike := h.alike.trans k.alike
  lastPools := k.lastPools.trans h.lastPools
  surplus := k.surplus.trans h.surplus
  zoneGrant := k.zoneGrant.trans h.zoneGrant
  zoneNeed := k.zoneNeed.trans h.zoneNeed
  coverage := k.coverage.trans h.coverage
  run := h.run.trans h.alike k.run

/-- What an operation keeps of a state, it keeps of one with the same engine and table. -/
theorem State.EngineKept.from_eq {s t u : State} (k : t.EngineKept u) (h : t.ae = s.ae)
    (hot : t.ot.entries = s.ot.entries) : s.EngineKept u := (State.EngineKept.of_eq h hot).trans k

/-- What comes behind an operation and leaves engine and table alone. -/
theorem State.EngineKept.to_eq {s t u : State} (k : s.EngineKept t) (h : u.ae = t.ae)
    (hot : u.ot.entries = t.ot.entries) : s.EngineKept u := k.trans (.of_eq h hot)

theorem State.EngineKept.core {s t : State} (h : s.EngineKept t) (k : s.EngineCore) : t.EngineCore := by
  obtain ⟨hwait, hruns, hrerun⟩ := k
  have hwait' : t.WaitingHoldNone := fun i f hf hs => by
    obtain ⟨e, he, hst, hg⟩ := h.alike.entry hf
    rw [← hg]
    exact hwait i e he (by rwa [hst])
  refine ⟨hwait', fun r hr => ?_, fun hpend => ?_⟩
  · rcases h.run with ⟨hrun, -⟩ | ⟨hrun, -⟩ | ⟨u, hu, hrun⟩
    · exact (hruns r (by rwa [hrun] at hr)).alike h.alike
    · rw [hrun] at hr; cases hr
    · rw [hrun] at hr
      obtain rfl := Option.mem_some_iff.1 hr
      refine (State.runPicture_fits fun i f hf hs => ?_).alike (hu.symm.trans h.alike)
      obtain ⟨e, he, hst, hg⟩ := hu.entry hf
      rw [← hg]
      exact hwait i e he (by rwa [hst])
  · rcases h.run with ⟨hrun, hre⟩ | ⟨-, hre⟩ | ⟨u, -, hrun⟩
    · rw [hrun]
      exact (hre hpend).elim hrerun id
    · rw [hre] at hpend; cases hpend
    · rw [hrun]; rfl

theorem State.EngineKept.conserved {s t : State} (h : s.EngineKept t) (k : s.Conserved) : t.Conserved :=
  fun src => by rw [h.alike.grantSum, h.surplus, h.lastPools]; exact k src

theorem State.EngineKept.coverageSound {s t : State} (h : s.EngineKept t) (k : s.CoverageSound) :
    t.CoverageSound := fun z => by
  rw [h.zoneGrant, h.zoneNeed, h.coverage]
  exact k z

theorem State.EngineKept.linked : Linked State.EngineKept :=
  .of_trans .refl .trans fun _ _ => .of_eq rfl rfl

/-! ## Which operations they are -/

theorem State.startRun_kept (s : State) : s.EngineKept s.startRun :=
  ⟨.of_eq rfl, rfl, rfl, rfl, rfl, rfl, .inr (.inr ⟨s, .of_eq rfl, rfl⟩)⟩

theorem State.requestRun_kept (s : State) : s.EngineKept s.requestRun := by
  unfold State.requestRun
  split
  · exact .refl s
  · split
    · exact s.startRun_kept
    · next r hr => exact ⟨.of_eq rfl, rfl, rfl, rfl, rfl, rfl, .inl ⟨rfl, fun _ => .inr (by simp [hr])⟩⟩

/-- An integration point changes the flare items alone (R69, R70). -/
theorem State.integrateFlare_ae (s : State) : s.integrateFlare.ae = { s.ae with
    flareTotal := s.integrateFlare.ae.flareTotal
    flareResidue := s.integrateFlare.ae.flareResidue
    flarePoint := s.now
    flareTimer := some (after s.now Config.kwhMs) } := by
  unfold State.integrateFlare
  dsimp only
  split <;> rfl

theorem State.integrateFlare_kept (s : State) : s.EngineKept s.integrateFlare := by
  have h := s.integrateFlare_ae
  exact ⟨.of_eq (by simp), by rw [h], by rw [h], by rw [h], by rw [h], by rw [h],
    .inl ⟨by rw [h], fun hr => .inl (by rwa [h] at hr)⟩⟩

/-- A run discarded with its pending rerun, behind an integration point (R72). -/
theorem State.abortRun_kept (s : State) :
    s.EngineKept { s.abortRun with ae := { s.abortRun.ae with rerunPending := false } } := by
  have h := s.integrateFlare_kept
  rw [State.abortRun_eq]
  exact ⟨.of_eq rfl, h.lastPools, h.surplus, h.zoneGrant, h.zoneNeed, h.coverage, .inr (.inl ⟨rfl, rfl⟩)⟩

theorem State.withdrawalAtEngine_kept (s : State) : s.EngineKept s.withdrawalAtEngine := by
  rcases s.withdrawalAtEngine_cases with ⟨-, h⟩ | ⟨-, -, h⟩ | ⟨-, -, h⟩ <;> rw [h]
  · exact .refl s
  · exact s.startRun_kept
  · exact s.abortRun_kept.trans (State.startRun_kept _)

theorem State.settle_kept (s : State) (src : Source) : s.EngineKept (s.settle src) := by
  rcases s.settle_cases src with ⟨-, h⟩ | ⟨-, -, h⟩ | ⟨-, -, h⟩ <;> rw [h]
  · exact .refl s
  · exact (State.withdrawalAtEngine_kept _).from_eq rfl rfl
  · exact (State.requestRun_kept _).from_eq rfl rfl

theorem State.settleAll_kept (s : State) : s.EngineKept s.settleAll :=
  ((s.settle_kept _).trans (State.settle_kept _ _)).trans (State.settle_kept _ _)

theorem State.settleRole_kept (s : State) (role : Role) : s.EngineKept (s.settleRole role) := by
  rcases s.settleRole_cases role with ⟨src, -, h⟩ | ⟨-, -, h⟩ <;> rw [h]
  · exact s.settle_kept src
  · exact .refl s

theorem State.changeBand_kept (s : State) (b : HolderBand) : s.EngineKept (s.changeBand b) := by
  unfold State.changeBand
  dsimp only
  generalize h : s.setHolder _ = t
  have ht : s.EngineKept t.recomputeCvg := .of_eq (by rw [← h]; rfl) (by rw [← h]; rfl)
  exact (ht.trans (State.requestRun_kept _)).to_eq rfl rfl

theorem State.takeHolder_kept (s : State) (level : Nat) : s.EngineKept (s.takeHolder level) := by
  unfold State.takeHolder
  dsimp only
  split
  · exact .of_eq rfl rfl
  · exact (State.changeBand_kept _ _).from_eq rfl rfl

theorem State.supplyChange_kept (s : State) (old : Settings) : s.EngineKept (s.supplyChange old) := by
  unfold State.supplyChange
  refine (State.EngineKept.of_eq (by simp) (by simp) : s.EngineKept
    (((s.followSource .cvg).followSource .bfg).followSource .cog)).trans ?_
  generalize ((s.followSource .cvg).followSource .bfg).followSource .cog = u
  unfold State.followHolder
  dsimp only
  split
  · split
    · exact .of_eq rfl rfl
    · exact (State.changeBand_kept _ _).from_eq rfl rfl
  · split <;> exact .of_eq rfl rfl

theorem State.mapBoosts_kept (s : State) (f : Nat → Nat) : s.EngineKept (s.mapBoosts f) := by
  refine .of_alike rfl fun i => ?_
  rw [State.entry_mapBoosts, Option.map_map]
  cases s.entry i with
  | none => rfl
  | some e => simp only [Option.map_some, Function.comp]; split <;> rfl

theorem State.makeStale_kept (s : State) (a : Nat) (r : StationRecord) : s.EngineKept (s.makeStale a r) :=
  (State.settleRole_kept _ _).from_eq (by simp) (by simp)

theorem State.enterMiss_kept (s : State) (a : Nat) (v : LastEvent) : s.EngineKept (s.enterMiss a v) := by
  rcases s.enterMiss_cases a v with ⟨-, h⟩ | ⟨-, h⟩ <;> rw [h]
  · exact s.makeStale_kept a _
  · exact .of_eq (by simp) (by simp)

theorem State.projectPeriod_kept (s : State) (p : Period) : s.EngineKept (s.projectPeriod p) := by
  unfold State.projectPeriod
  dsimp only
  split
  · exact .of_eq rfl rfl
  · exact (State.mapBoosts_kept _ _).from_eq rfl rfl

theorem State.takeExport_kept (s : State) (a register : Nat) : s.EngineKept (s.takeExport a register) := by
  unfold State.takeExport
  dsimp only
  split
  · exact .of_eq rfl rfl
  · exact .of_eq rfl rfl
  · split
    · exact .of_eq (by simp) (by simp)
    · exact (State.projectPeriod_kept _ _).from_eq rfl rfl

theorem State.deliver_kept (s : State) (a : Nat) (returned : Bool) (role : Role) (x : Reading) :
    s.EngineKept (s.deliver a returned role x) := by
  unfold State.deliver
  split
  · dsimp only
    split <;> exact (State.settle_kept _ _).from_eq (by simp) (by simp)
  · next level =>
    refine State.EngineKept.trans ?_ (State.settle_kept _ _)
    split <;> exact (s.takeHolder_kept level).to_eq (by simp) (by simp)
  · exact s.takeExport_kept _ _
  · exact .of_eq (by simp) (by simp)
  · exact .refl s

theorem State.takeReport_kept (s : State) (a : Nat) (r : Report) : s.EngineKept (s.takeReport a r) := by
  rcases s.takeReport_cases a r with ⟨role, x, -, h⟩ | ⟨-, h⟩ | ⟨v, -, h⟩ <;> rw [h]
  · exact (State.deliver_kept _ _ _ _ _).from_eq (by simp) (by simp)
  · exact .of_eq (by simp) (by simp)
  · exact s.enterMiss_kept a v

theorem State.engineChange_kept (s : State) (old : Settings) : s.EngineKept (s.engineChange old) := by
  have dispatch (u : State) : u.EngineKept u.restartDispatch :=
    ⟨.of_eq rfl, rfl, rfl, rfl, rfl, rfl, .inl ⟨rfl, .inl⟩⟩
  have estimate (u : State) : u.EngineKept u.recomputeEstimate :=
    ⟨.of_eq rfl, rfl, rfl, rfl, rfl, rfl, .inl ⟨rfl, .inl⟩⟩
  unfold State.engineChange
  dsimp only
  (repeat' split)
  · exact (dispatch s).trans (estimate _)
  · exact dispatch s
  · exact estimate s
  · exact .refl s

theorem State.settlementChange_kept (s : State) (old : Settings) : s.EngineKept (s.settlementChange old) := by
  unfold State.settlementChange
  dsimp only
  (repeat' split)
  · exact (s.mapBoosts_kept fun b => min b s.settings.boostMax).to_eq rfl rfl
  · exact s.mapBoosts_kept _
  · exact .of_eq rfl rfl
  · exact .refl s

theorem State.applySettings_kept (s : State) (c : Settings) : s.EngineKept (s.applySettings c) := by
  unfold State.applySettings
  dsimp only
  generalize h : State.lineDelist _ s.settings = told
  have htold : s.EngineKept told := by
    rw [← h]
    have supplied := (State.supplyChange_kept { s with settings := c } s.settings).from_eq (s := s) rfl rfl
    refine supplied.to_eq ?_ ?_ <;> unfold State.lineDelist <;> split <;> simp
  have changed := ((told.settleAll_kept.trans (State.engineChange_kept _ s.settings)).trans
    (State.settlementChange_kept _ s.settings))
  refine (htold.trans changed).to_eq ?_ ?_ <;> unfold State.lineRestart <;> split <;> simp

theorem State.putListInForce_kept (s : State) (l : List Nat) : s.EngineKept (s.putListInForce l) := by
  unfold State.putListInForce
  dsimp only
  generalize h : State.delistGone _ s.settings.pollList = t
  have ht : s.EngineKept t := .of_eq (by simp [← h]) (by simp [← h])
  exact (ht.trans t.settleAll_kept).to_eq (by simp) (by simp)

theorem State.takeDemands_kept (s : State) (l : List (Nat × Nat)) : s.EngineKept (s.takeDemands l).2 := by
  induction l generalizing s with
  | nil => exact .refl s
  | cons a l ih =>
    refine State.EngineKept.trans ?_ (ih _)
    unfold State.takeDemand
    split
    · exact .refl s
    · next i e hf =>
      refine .of_alike rfl fun j => ?_
      rw [State.entry_setEntry]
      split
      · next hij => rw [← hij, (State.findOfftake_some hf).2.1]; rfl
      · rfl

end Sys2Proof.Machine
end

section
/-! PROOF. The commands that change grants or states of entries, and the completion of a run (2.3, 2.5, 3.6,
3.7; O35, O36): each keeps what holds of the engine, the conservation of every kilowatt and the order of the
zone sums. -/

namespace Sys2Proof.Machine

/-! ## What a command keeps of the engine -/

/-- `t` keeps what held of the engine in `s`, and with it the laws of R61 and R63. -/
structure State.KeepsEngine (s t : State) : Prop where
  core : s.EngineCore → t.EngineCore
  conserved : s.EngineCore → s.Conserved → t.Conserved
  coverage : s.EngineCore → s.CoverageSound → t.CoverageSound

theorem State.EngineKept.keeps {s t : State} (h : s.EngineKept t) : s.KeepsEngine t :=
  ⟨h.core, fun _ => h.conserved, fun _ => h.coverageSound⟩

theorem State.KeepsEngine.trans {s t u : State} (h : s.KeepsEngine t) (k : t.KeepsEngine u) :
    s.KeepsEngine u :=
  ⟨fun c => k.core (h.core c), fun c x => k.conserved (h.core c) (h.conserved c x),
    fun c x => k.coverage (h.core c) (h.coverage c x)⟩

theorem State.KeepsEngine.linked : Linked State.KeepsEngine :=
  .of_trans (fun s => (State.EngineKept.refl s).keeps) .trans
    fun s l => (State.EngineKept.linked.link s l).keeps

/-! ## One slot changed -/

/-- The slots are as they were but for one, which now holds an entry. -/
def State.Updates (s t : State) (i : Fin 48) (f : Offtake) : Prop :=
  t.entry i = some f ∧ ∀ j, j ≠ i → t.entry j = s.entry j

theorem State.updates_writeEntry (s : State) (i : Fin 48) (f : Offtake) :
    s.Updates (s.writeEntry i (some f)) i f :=
  ⟨by rw [State.entry_writeEntry, if_pos rfl],
    fun j hj => by rw [State.entry_writeEntry, if_neg (Ne.symm hj)]⟩

theorem State.Updates.entry {s t : State} {i j : Fin 48} {f g : Offtake} (h : s.Updates t i f)
    (hg : t.entry j = some g) : (j = i ∧ g = f) ∨ (j ≠ i ∧ s.entry j = some g) := by
  by_cases hj : j = i
  · subst hj
    exact .inl ⟨rfl, Option.some.inj (hg.symm.trans h.1)⟩
  · exact .inr ⟨hj, (h.2 j hj).symm.trans hg⟩

/-- Slots filled stay filled. -/
theorem State.Updates.isSome {s t : State} {i j : Fin 48} {f : Offtake} (h : s.Updates t i f)
    (hs : (s.entry j).isSome = true) : (t.entry j).isSome = true := by
  by_cases hj : j = i
  · rw [hj, h.1]; rfl
  · rwa [h.2 j hj]

theorem State.Updates.grantSum {s t : State} {i : Fin 48} {f : Offtake} (h : s.Updates t i f) (src : Source) :
    t.grantSum src + s.grantAt src i = s.grantSum src + f.grant.parts.get src := by
  have sum (u : State) : u.grantSum src = ∑ j, u.grantAt src j := (Fin.sum_univ_def _).symm
  have rest : ∑ j ∈ Finset.univ.erase i, t.grantAt src j = ∑ j ∈ Finset.univ.erase i, s.grantAt src j :=
    Finset.sum_congr rfl fun j hj => by
      rw [State.grantAt, h.2 j (Finset.ne_of_mem_erase hj)]; rfl
  have ht := Finset.add_sum_erase Finset.univ (t.grantAt src) (Finset.mem_univ i)
  have hs := Finset.add_sum_erase Finset.univ (s.grantAt src) (Finset.mem_univ i)
  rw [sum, sum, ← ht, ← hs, rest, State.grantAt_some h.1]
  omega

/-- The run parts of a slot with another released mark (R68). -/
def Run.mark (r : Run) (i : Fin 48) (b : Bool → Bool) : Run :=
  { r with parts := r.parts.map fun p => if p.slot = i then { p with released := b p.released } else p }

theorem Run.mark_id (r : Run) (i : Fin 48) : r.mark i id = r := by simp [Run.mark]

/-- A run in flight still fits when one slot changes, if the new entry suits its run part, or the retiring
set, in that slot. -/
theorem State.RunFits.update {s t : State} {r : Run} {i : Fin 48} {f : Offtake} {b : Bool → Bool}
    (h : s.RunFits r) (u : s.Updates t i f)
    (hparts : ∀ p ∈ r.parts, p.slot = i → (b p.released = true → f.grant.parts = ⟨0, 0, 0⟩) ∧
      (b p.released = false → f.state ≠ .suspended))
    (hretiring : i ∈ r.retiring → f.state = .retiring)
    (hgrant : f.grant.parts ≠ ⟨0, 0, 0⟩ →
      i ∈ r.retiring ∨ ∃ p ∈ r.parts, p.slot = i ∧ b p.released = false) :
    t.RunFits (r.mark i b) := by
  obtain ⟨nodup, parts, released, retiring, grants⟩ := h
  have slot (p : RunPart) : (if p.slot = i then { p with released := b p.released } else p).slot = p.slot := by
    split <;> rfl
  refine ⟨?_, fun q hq => ?_, fun q hq g hg => ?_, fun j hj => ?_, fun j g hg hne => ?_⟩
  · simp only [Run.mark, List.map_map, Function.comp_def, slot]
    exact nodup
  · obtain ⟨p, hp, rfl⟩ := List.mem_map.1 hq
    obtain ⟨hg, hfloor, hslot, hsome⟩ := parts p hp
    rw [slot]
    refine ⟨?_, ?_, hslot, u.isSome hsome⟩ <;> split <;> assumption
  · obtain ⟨p, hp, rfl⟩ := List.mem_map.1 hq
    rw [slot] at hg
    rcases u.entry hg with ⟨hs, rfl⟩ | ⟨hs, he⟩
    · rw [if_pos hs]
      exact hparts p hp hs
    · rw [if_neg hs]
      exact released p hp g he
  · obtain ⟨hsome, hstate⟩ := retiring j hj
    refine ⟨u.isSome hsome, fun g hg => ?_⟩
    rcases u.entry hg with ⟨rfl, rfl⟩ | ⟨-, he⟩
    · exact hretiring hj
    · exact hstate g he
  · rcases u.entry hg with ⟨rfl, rfl⟩ | ⟨hji, he⟩
    · refine (hgrant hne).imp id ?_
      rintro ⟨p, hp, hs, hb⟩
      exact ⟨_, List.mem_map.2 ⟨p, hp, rfl⟩, (slot p).trans hs, by rwa [if_pos hs]⟩
    · refine (grants j g he hne).imp id ?_
      rintro ⟨p, hp, hs, hb⟩
      exact ⟨_, List.mem_map.2 ⟨p, hp, rfl⟩, (slot p).trans hs, by rwa [if_neg (hs ▸ hji)]⟩

theorem State.WaitingHoldNone.update {s t : State} {i : Fin 48} {f : Offtake} (h : s.WaitingHoldNone)
    (u : s.Updates t i f) (hf : f.state = .pending ∨ f.state = .suspended → f.grant.parts = ⟨0, 0, 0⟩) :
    t.WaitingHoldNone := by
  intro j g hg hs
  rcases u.entry hg with ⟨rfl, rfl⟩ | ⟨-, he⟩
  · exact hf hs
  · exact h j g he hs

/-- One entry written, with the engine as it was: what the new entry has to suit. -/
theorem State.EngineCore.update {s t : State} {i : Fin 48} {f : Offtake} (h : s.EngineCore)
    (u : s.Updates t i f) (hae : t.ae = s.ae)
    (hf : f.state = .pending ∨ f.state = .suspended → f.grant.parts = ⟨0, 0, 0⟩)
    (hrun : ∀ r ∈ s.ae.run, s.RunFits r → t.RunFits r) : t.EngineCore :=
  ⟨h.1.update u hf, fun r hr => hrun r (hae ▸ hr) (h.2.1 r (hae ▸ hr)), by rw [hae]; exact h.2.2⟩

/-- One entry written with the grant the slot had, and the engine as it was. -/
theorem State.keepsEngine_update {s t : State} {i : Fin 48} {f : Offtake} (u : s.Updates t i f)
    (hae : t.ae = s.ae) (hgrant : ∀ src, f.grant.parts.get src = s.grantAt src i)
    (core : s.EngineCore → t.EngineCore) : s.KeepsEngine t := by
  refine ⟨core, fun _ h src => ?_, fun _ h z => by rw [hae]; exact h z⟩
  have := u.grantSum src
  rw [hgrant src] at this
  rw [hae, ← h src]
  omega

/-! ## Admission, reinstatement and retirement -/

/-- A pending entry with no grant is written into a FREE slot (R22). -/
theorem State.keepsEngine_fill {s : State} {i : Fin 48} {e : Offtake} (hi : s.entry i = none)
    (hgrant : e.grant = Grant.zero) :
    s.KeepsEngine (s.writeEntry i (some e)) := by
  have u := s.updates_writeEntry i e
  have hparts : e.grant.parts = ⟨0, 0, 0⟩ := by rw [hgrant]; rfl
  refine State.keepsEngine_update u rfl (fun src => ?_) fun h => h.update u rfl (fun _ => hparts)
    fun r _ hr => ?_
  · rw [State.grantAt_none hi, hparts]
    cases src <;> rfl
  · rw [← r.mark_id i]
    refine hr.update u (fun p hp hs => ?_) (fun hret => ?_) fun hne => absurd hparts hne
    · have := (hr.2.1 p hp).2.2.2
      rw [hs, hi] at this
      cases this
    · have := (hr.2.2.2.1 i hret).1
      rw [hi] at this
      cases this

/-- An entry changes to RETIRING with its grant kept (R31). -/
theorem State.keepsEngine_retire {s : State} {i : Fin 48} {e f : Offtake} (hi : s.entry i = some e)
    (hstate : f.state = .retiring) (hgrant : f.grant = e.grant) :
    s.KeepsEngine (s.writeEntry i (some f)) := by
  have u := s.updates_writeEntry i f
  refine State.keepsEngine_update u rfl (fun src => by rw [State.grantAt_some hi, hgrant]) fun h =>
    h.update u rfl (fun hs => by simp [hstate] at hs) fun r _ hr => ?_
  rw [← r.mark_id i]
  obtain ⟨-, -, released, -, grants⟩ := id hr
  refine hr.update u (fun p hp hs => ?_) (fun _ => hstate) fun hne => ?_
  · rw [hgrant, hstate]
    exact ⟨(released p hp e (hs ▸ hi)).1, fun _ => by simp⟩
  · rw [hgrant] at hne
    exact grants i e hi hne

/-- A SUSPENDED entry changes to PENDING (R30). -/
theorem State.keepsEngine_reinstate {s : State} {i : Fin 48} {e f : Offtake} (hi : s.entry i = some e)
    (he : e.state = .suspended) (hstate : f.state = .pending) (hgrant : f.grant = e.grant) :
    s.KeepsEngine (s.writeEntry i (some f)) := by
  have u := s.updates_writeEntry i f
  refine State.keepsEngine_update u rfl (fun src => by rw [State.grantAt_some hi, hgrant]) fun h => ?_
  have hparts : f.grant.parts = ⟨0, 0, 0⟩ := by rw [hgrant]; exact h.1 i e hi (.inr he)
  refine h.update u rfl (fun _ => hparts) fun r _ hr => ?_
  rw [← r.mark_id i]
  refine hr.update u (fun p hp hs => ⟨fun _ => hparts, fun _ => by simp [hstate]⟩) (fun hret => ?_)
    fun hne => absurd hparts hne
  have := (hr.2.2.2.1 i hret).2 e hi
  rw [he] at this
  cases this

theorem AdmitRequest.entry_fresh {r : AdmitRequest} {n : Nat} {e : Offtake} (h : r.entry n = some e) :
    e.number = r.number ∧ e.state = .pending ∧ e.grant = Grant.zero ∧ e.boost = 0 ∧ e.number ≠ 0 := by
  unfold AdmitRequest.entry at h
  split at h
  · cases h
  · split at h
    · cases h
    · next hbad =>
      obtain rfl := Option.some.inj h
      exact ⟨rfl, rfl, rfl, rfl, fun h => hbad (.inl h)⟩

/-- The slot an admission takes is FREE and outside an enforced band (R23). -/
theorem State.admissionSlot_ok {s : State} {choice : Nat} {i : Fin 48} (h : s.admissionSlot choice = .ok i) :
    s.entry i = none ∧ s.isProtected i = false := by
  unfold State.admissionSlot at h
  split at h
  · split at h
    · cases h
    · split at h
      · cases h
      · obtain rfl := Except.ok.inj h
        simp_all
  · split at h
    · next j hj =>
      obtain rfl := Except.ok.inj h
      simpa using List.find?_some hj
    · cases h

/-- ADMIT OFFTAKE is refused, or fills a FREE slot outside an enforced band with a number that no entry
carries (R22, R23). -/
theorem admitCommand_cases (p : List Byte) (s : State) :
    (admitCommand p s).state = s ∨ ∃ r e i, AdmitRequest.read p = some r ∧ r.entry s.ot.counter = some e ∧
      s.findOfftake r.number = none ∧ s.entry i = none ∧ s.isProtected i = false ∧
      (admitCommand p s).state = (s.writeEntry i (some e)).writeCounter (s.ot.counter + 1) := by
  unfold admitCommand
  split
  · exact .inl rfl
  · next r hr =>
    split
    · exact .inl rfl
    · next e he =>
      split
      · exact .inl rfl
      · next hn =>
        split
        · exact .inl rfl
        · next i hi =>
          split
          · exact .inl rfl
          · obtain ⟨hfree, hprot⟩ := State.admissionSlot_ok hi
            exact .inr ⟨r, e, i, hr, he, by simpa using hn, hfree, hprot, rfl⟩

theorem admitCommand_keepsEngine (p : List Byte) (s : State) : s.KeepsEngine (admitCommand p s).state := by
  rcases admitCommand_cases p s with h | ⟨r, e, i, -, he, -, hi, -, h⟩ <;> rw [h]
  · exact (State.EngineKept.refl s).keeps
  · have counted (u : State) (n : Nat) : u.KeepsEngine (u.writeCounter n) :=
      (State.EngineKept.of_eq (s := u) (t := u.writeCounter n) rfl rfl).keeps
    exact (State.keepsEngine_fill hi (AdmitRequest.entry_fresh he).2.2.1).trans (counted _ _)

theorem reinstateEntry_keepsEngine {s : State} {i : Fin 48} {e : Offtake} (hi : s.entry i = some e) :
    s.KeepsEngine (reinstateEntry s i e).state := by
  unfold reinstateEntry
  split
  · next h => exact State.keepsEngine_reinstate hi h.1 rfl rfl
  · exact (State.EngineKept.refl s).keeps

theorem retireEntry_keepsEngine {s : State} {i : Fin 48} {e : Offtake} (hi : s.entry i = some e) :
    s.KeepsEngine (retireEntry s i e).state := by
  unfold retireEntry
  split
  · exact (State.EngineKept.refl s).keeps
  · exact State.keepsEngine_retire hi rfl rfl

/-- AMEND OFFTAKE is refused, changes nothing, or writes the amended entry over an unprotected one (R26). -/
theorem amendCommand_cases (p : List Byte) (s : State) :
    (amendCommand p s).state = s ∨ ∃ r i e, s.findOfftake r.number = some (i, e) ∧
      s.isProtected i = false ∧ (amendCommand p s).state = s.writeEntry i (some (AmendRequest.apply r e)) := by
  unfold amendCommand
  split
  · exact .inl rfl
  · next r _ =>
    split
    · exact .inl rfl
    · split
      · exact .inl rfl
      · next i e hf =>
        split
        · exact .inl rfl
        · split
          · exact .inl rfl
          · next hp =>
            split
            · exact .inl rfl
            · split
              · exact .inl rfl
              · exact .inr ⟨r, i, e, hf, Bool.eq_false_iff.2 hp, rfl⟩

theorem amendCommand_kept (p : List Byte) (s : State) : s.EngineKept (amendCommand p s).state := by
  rcases amendCommand_cases p s with h | ⟨r, i, e, hf, -, h⟩ <;> rw [h]
  · exact .refl s
  · refine .of_alike rfl fun j => ?_
    rw [State.entry_writeEntry]
    split
    · next hij => rw [← hij, (State.findOfftake_some hf).2.1]; rfl
    · rfl

/-! ## Suspension (R67, R68) -/

theorem State.lowerFigures_ae (s : State) (use : Use) (kw : Nat) :
    (s.lowerFigures use kw).ae.run = s.ae.run ∧
    (s.lowerFigures use kw).ae.rerunPending = s.ae.rerunPending ∧
    (s.lowerFigures use kw).ae.lastPools = s.ae.lastPools ∧
    (s.lowerFigures use kw).ae.surplus = s.ae.surplus ∧
    (s.lowerFigures use kw).ae.zoneNeed = s.ae.zoneNeed := by
  cases use <;> exact ⟨rfl, rfl, rfl, rfl, rfl⟩

/-- Lowering the figures keeps the zone sums in order (R67). -/
theorem State.lowerFigures_coverageSound {s : State} (h : s.CoverageSound) (use : Use) (kw : Nat) :
    (s.lowerFigures use kw).CoverageSound := by
  cases use with
  | works => exact h
  | steam => exact h
  | power y => exact h
  | townHeat z =>
    intro x
    obtain ⟨hle, hcov⟩ := h x
    simp only [State.lowerFigures, Engine.lowerZone, PerZone.get_put]
    split
    · next hz => subst hz; exact ⟨by omega, rfl⟩
    · exact ⟨hle, hcov⟩

/-- The surplus behind a suspension (R67). -/
def PerSource.plus (p q : PerSource Nat) : PerSource Nat := ⟨p.cvg + q.cvg, p.bfg + q.bfg, p.cog + q.cog⟩

theorem PerSource.get_plus (p q : PerSource Nat) (src : Source) :
    (p.plus q).get src = p.get src + q.get src := by cases src <;> rfl

/-- What the engine makes of the released amounts: a surplus risen by them, and lowered figures. -/
theorem State.takeReleased_eq (s : State) (use : Use) (g : Grant) : ∃ v : State,
    s.takeReleased use g = v.lowerFigures use g.total ∧ v.ot = s.ot ∧
    v.ae = { s.integrateFlare.ae with
      surplus := s.ae.surplus.plus g.parts
      setpoint := setpointFor s.cvgGranted s.ae.lastNcv } := by
  refine ⟨_, rfl, by simp, ?_⟩
  have hs : s.integrateFlare.ae.surplus = s.ae.surplus := by rw [State.integrateFlare_ae]
  have hn : s.integrateFlare.ae.lastNcv = s.ae.lastNcv := by rw [State.integrateFlare_ae]
  have hc (u : State) (hu : u.ot = s.ot) : u.cvgGranted = s.cvgGranted := by
    simp [State.cvgGranted, State.entry, hu]
  dsimp only
  rw [hc _ (by simp)]
  simp only [State.raiseIf_frame, hs, hn]
  rfl

/-- SUSPEND OFFTAKE moves the grant of an entry to the surplus at once (R29, R67). -/
theorem suspendEntry_keepsEngine {s : State} {i : Fin 48} {e : Offtake} (hi : s.entry i = some e) :
    s.KeepsEngine (suspendEntry s i e).state := by
  unfold suspendEntry
  split
  swap
  · exact (State.EngineKept.refl s).keeps
  next htakes =>
  obtain ⟨v, hv, hot, hae⟩ := (s.writeEntry i (some e.suspend)).takeReleased_eq e.use e.grant
  simp only [hv, State.ok_state]
  have hflare := (s.writeEntry i (some e.suspend)).integrateFlare_ae
  obtain ⟨hrun, hrerun, hpools, hsurplus, -⟩ := v.lowerFigures_ae e.use e.grant.total
  have hvrun : v.ae.run = s.ae.run := by rw [hae, hflare]; rfl
  have hvrerun : v.ae.rerunPending = s.ae.rerunPending := by rw [hae, hflare]; rfl
  have hvpools : v.ae.lastPools = s.ae.lastPools := by rw [hae, hflare]; rfl
  have hvsurplus : v.ae.surplus = s.ae.surplus.plus e.grant.parts := by rw [hae]; rfl
  have u : s.Updates ((v.lowerFigures e.use e.grant.total).markReleased i) i e.suspend := by
    have := s.updates_writeEntry i e.suspend
    have hentry (j : Fin 48) : ((v.lowerFigures e.use e.grant.total).markReleased i).entry j =
        (s.writeEntry i (some e.suspend)).entry j := State.entry_congr (by simp [hot]) j
    exact ⟨by rw [hentry]; exact this.1, fun j hj => by rw [hentry]; exact this.2 j hj⟩
  have hzero : e.suspend.grant.parts = ⟨0, 0, 0⟩ := rfl
  have hrun' : ((v.lowerFigures e.use e.grant.total).markReleased i).ae.run =
      s.ae.run.map fun r => r.release i := by
    simp only [State.markReleased, hrun, hvrun]
  refine ⟨fun h => ⟨h.1.update u fun _ => hzero, fun r hr => ?_, fun hp => ?_⟩, fun h c src => ?_, fun h c => ?_⟩
  · rw [hrun'] at hr
    obtain ⟨r, hs, rfl⟩ := Option.mem_map.1 hr
    refine (h.2.1 r hs).update (b := fun _ => true) u (fun p _ _ => ⟨fun _ => hzero, fun hb => by cases hb⟩)
      (fun hret => ?_) fun hne => absurd hzero hne
    have := ((h.2.1 r hs).2.2.2.1 i hret).2 e hi
    simp [Offtake.takesPart, this] at htakes
  · have hre : s.ae.rerunPending = true := by
      simpa only [State.markReleased, hrerun, hvrerun] using hp
    rw [hrun', Option.isSome_map]
    exact h.2.2 hre
  · have hsum := u.grantSum src
    have hc := c src
    rw [State.grantAt_some hi, hzero] at hsum
    have htpools : ((v.lowerFigures e.use e.grant.total).markReleased i).ae.lastPools = s.ae.lastPools :=
      hpools.trans hvpools
    have htsurplus : ((v.lowerFigures e.use e.grant.total).markReleased i).ae.surplus =
        s.ae.surplus.plus e.grant.parts := hsurplus.trans hvsurplus
    rw [htpools, htsurplus, PerSource.get_plus]
    have : (⟨0, 0, 0⟩ : PerSource Nat).get src = 0 := by cases src <;> rfl
    omega
  · refine State.lowerFigures_coverageSound (s := v) (fun z => ?_) e.use e.grant.total
    rw [hae, hflare]
    exact c z

end Sys2Proof.Machine
end

section
/-! PROOF. The completion of a run (3.6; O34): what it publishes, which slots it frees, the figures it
settles, and that it keeps the laws of R61 and R63. -/

namespace Sys2Proof.Machine

/-! ## Publishing -/

theorem State.entry_publishPart (s : State) (n : Nat) (p : RunPart) (j : Fin 48) :
    (s.publishPart n p).entry j = if p.released = false ∧ p.slot = j
      then (s.entry j).map fun e => e.published p n else s.entry j := by
  rcases s.publishPart_cases n p with ⟨hrel | hnone, h⟩ | ⟨e, hrel, he, ⟨-, h⟩ | ⟨-, h⟩⟩ <;> rw [h]
  · rw [if_neg (by simp [hrel])]
  · split
    · next hj => rw [← hj.2, hnone]; rfl
    · rfl
  all_goals
    simp only [State.entry_writeEntry, State.entry_setEntry, hrel, true_and]
    split
    · next hj => rw [← hj, he]; rfl
    · rfl

/-- The stored record of an offtake slot. -/
def State.record (s : State) (i : Fin 48) : Checked StoredOfftake := s.store.offtakes[i]

theorem State.record_congr {s t : State} (h : t.store.offtakes = s.store.offtakes) (i : Fin 48) :
    t.record i = s.record i := by simp [State.record, h]

theorem State.record_writeEntry (s : State) (i j : Fin 48) (e : Option Offtake) :
    (s.writeEntry i e).record j = if i = j then ⟨storedOfftake e, true⟩ else s.record j :=
  getElem_setAt _ i j _

@[simp] theorem State.record_setEntry (s : State) (i j : Fin 48) (e : Option Offtake) :
    (s.setEntry i e).record j = s.record j := rfl

/-- A change from PENDING to ACTIVE is written to the store, and nothing else (R46, R59). -/
theorem State.record_publishPart (s : State) (n : Nat) (p : RunPart) (j : Fin 48) :
    (s.publishPart n p).record j =
      if p.released = false ∧ p.slot = j ∧ ∃ e ∈ s.entry j, e.state = .pending
      then ⟨storedOfftake ((s.publishPart n p).entry j), true⟩ else s.record j := by
  rcases s.publishPart_cases n p with ⟨hrel | hnone, h⟩ | ⟨e, hrel, he, ⟨hs, h⟩ | ⟨hs, h⟩⟩ <;> rw [h]
  · rw [if_neg (by simp [hrel])]
  · rw [if_neg]
    rintro ⟨-, rfl, e, he, -⟩
    rw [hnone] at he
    cases he
  · rw [State.record_writeEntry, State.entry_writeEntry]
    by_cases hj : p.slot = j
    · subst hj
      simp [hrel, he, hs]
    · simp [hj]
  · rw [if_neg]
    · rfl
    · rintro ⟨-, rfl, f, hf, hp⟩
      rw [he] at hf
      obtain rfl := Option.mem_some_iff.1 hf
      exact hs hp

/-- All the parts of a run published in turn (R59). -/
def State.publishParts (s : State) (n : Nat) (ps : List RunPart) : State :=
  ps.foldl (fun t p => t.publishPart n p) s

/-- A slot that no part without the released mark stands for is left alone. -/
theorem State.publishParts_other {ps : List RunPart} {j : Fin 48}
    (h : ∀ p ∈ ps, p.slot = j → p.released = true) (s : State) (n : Nat) :
    (s.publishParts n ps).entry j = s.entry j ∧
    (s.publishParts n ps).record j = s.record j := by
  induction ps generalizing s with
  | nil => exact ⟨rfl, rfl⟩
  | cons p ps ih =>
    obtain ⟨hentry, hrecord⟩ := ih (fun q hq => h q (List.mem_cons_of_mem _ hq)) (s.publishPart n p)
    have hp : ¬ (p.released = false ∧ p.slot = j) := fun ⟨hrel, hj⟩ => by
      rw [h p List.mem_cons_self hj] at hrel
      cases hrel
    refine ⟨hentry.trans ?_, hrecord.trans ?_⟩
    · rw [State.entry_publishPart, if_neg hp]
    · rw [State.record_publishPart, if_neg fun hc => hp ⟨hc.1, hc.2.1⟩]

/-- A part without the released mark publishes its grant to the entry of its slot. -/
theorem State.publishParts_part {ps : List RunPart} (hn : (ps.map RunPart.slot).Nodup) {p : RunPart}
    (hp : p ∈ ps) (hrel : p.released = false) (s : State) (n : Nat) :
    (s.publishParts n ps).entry p.slot = (s.entry p.slot).map (fun e => e.published p n) ∧
    (s.publishParts n ps).record p.slot =
      if ∃ e ∈ s.entry p.slot, e.state = .pending
      then ⟨storedOfftake ((s.publishParts n ps).entry p.slot), true⟩ else s.record p.slot := by
  induction ps generalizing s with
  | nil => cases hp
  | cons q ps ih =>
    obtain ⟨hq, hn⟩ := List.nodup_cons.1 hn
    rcases List.mem_cons.1 hp with rfl | hp
    · have others : ∀ r ∈ ps, r.slot = p.slot → r.released = true := fun r hr hs =>
        absurd (hs ▸ List.mem_map_of_mem hr) hq
      obtain ⟨hentry, hrecord⟩ := State.publishParts_other others (s.publishPart n p) n
      change ((s.publishPart n p).publishParts n ps).entry p.slot = _ ∧
        ((s.publishPart n p).publishParts n ps).record p.slot =
          if _ then ⟨storedOfftake (((s.publishPart n p).publishParts n ps).entry p.slot), true⟩ else _
      rw [hrecord, hentry, State.record_publishPart]
      simp only [State.entry_publishPart, hrel, true_and, if_true, and_self]
    · have hne : ¬ (q.released = false ∧ q.slot = p.slot) := fun h =>
        hq (h.2 ▸ List.mem_map_of_mem hp)
      obtain ⟨hentry, hrecord⟩ := ih hn hp (s.publishPart n q)
      have hrec : (s.publishPart n q).record p.slot = s.record p.slot := by
        rw [State.record_publishPart, if_neg fun hc => hne ⟨hc.1, hc.2.1⟩]
      rw [State.entry_publishPart, if_neg hne] at hentry hrecord
      exact ⟨hentry, hrec ▸ hrecord⟩

/-- Freeing slots writes FREE records, and no other (R60). -/
theorem State.record_freeSlots (s : State) (is : List (Fin 48)) (j : Fin 48) :
    (s.freeSlots is).record j =
      if j ∈ is then ⟨StoredOfftake.free, true⟩ else s.record j := by
  unfold State.freeSlots
  induction is generalizing s with
  | nil => simp
  | cons i is ih =>
    rw [List.foldl_cons, ih, State.record_writeEntry]
    by_cases h : j ∈ is
    · simp [h]
    · by_cases hi : i = j
      · simp [hi, storedOfftake]
      · simp [h, hi, Ne.symm hi]

/-! ## The table a completion leaves -/

/-- The state in which the grants are published and the retiring set is freed (R59, R60). -/
def State.publishedBy (s : State) (r : Run) : State :=
  (s.integrateFlare.publishParts s.ae.runNumber r.compute.2).freeSlots r.retiring

/-- The state behind publication, with the figures settled (R61 to R64). -/
def State.figuresBy (s : State) (r : Run) : State :=
  (s.publishedBy r).settleFigures r r.compute.1 r.compute.2

theorem State.completeRun_eq (s : State) (r : Run) : s.completeRun r =
    (((s.figuresBy r).raiseIf (flareStarts s.ae.surplus (s.figuresBy r).ae.surplus) .flareStarted).raiseIf
      (s.figuresBy r).ae.short .shortfall).rerunIfPending := rfl

@[simp] theorem State.figuresBy_ot (s : State) (r : Run) : (s.figuresBy r).ot = (s.publishedBy r).ot := rfl

@[simp] theorem State.figuresBy_store (s : State) (r : Run) :
    (s.figuresBy r).store = (s.publishedBy r).store := rfl

theorem State.completeRun_ot (s : State) (r : Run) : (s.completeRun r).ot = (s.publishedBy r).ot := by
  simp [State.completeRun_eq]

theorem State.completeRun_entry (s : State) (r : Run) (i : Fin 48) :
    (s.completeRun r).entry i = (s.publishedBy r).entry i := State.entry_congr (s.completeRun_ot r) i

theorem State.completeRun_store (s : State) (r : Run) :
    (s.completeRun r).store = (s.publishedBy r).store := by
  simp [State.completeRun_eq]

theorem RunPart.Fed.keeps {p q : RunPart} (h : p.Fed q) : q.slot = p.slot ∧ q.released = p.released ∧
    q.need = p.need ∧ q.priority = p.priority ∧ q.accepted = p.accepted := by
  rw [h.same]
  exact ⟨rfl, rfl, rfl, rfl, rfl⟩

theorem exists_of_fed {ps qs : List RunPart} (h : List.Forall₂ RunPart.Fed ps qs) :
    (∀ q ∈ qs, ∃ p ∈ ps, p.Fed q) ∧ ∀ p ∈ ps, ∃ q ∈ qs, p.Fed q := by
  induction h with
  | nil => simp
  | cons a _ ih =>
    simp only [List.mem_cons, forall_eq_or_imp, exists_eq_or_imp]
    exact ⟨⟨.inl a, fun q hq => .inr (ih.1 q hq)⟩, .inl a, fun p hp => .inr (ih.2 p hp)⟩

/-- The parts a completion publishes, in the places of those that began the run (R58). -/
theorem State.RunFits.fed {s : State} {r : Run} (h : s.RunFits r) :
    List.Forall₂ RunPart.Fed r.parts r.compute.2 :=
  (r.compute_sharedOut fun p hp => (h.2.1 p hp).2.1).parts

theorem map_eq_of_fed {α : Type} {f : RunPart → α} (hf : ∀ p q, RunPart.Fed p q → f q = f p)
    {ps qs : List RunPart} (h : List.Forall₂ RunPart.Fed ps qs) : qs.map f = ps.map f := by
  induction h with
  | nil => rfl
  | cons a _ ih => rw [List.map_cons, List.map_cons, ih, hf _ _ a]

theorem slots_of_fed {ps qs : List RunPart} (h : List.Forall₂ RunPart.Fed ps qs) :
    qs.map RunPart.slot = ps.map RunPart.slot :=
  map_eq_of_fed (fun _ _ k => by rw [k.same]) h

theorem State.RunFits.exists_part {s : State} {r : Run} (h : s.RunFits r) {q : RunPart} (hq : q ∈ r.compute.2) :
    ∃ p ∈ r.parts, p.Fed q := (exists_of_fed h.fed).1 q hq

theorem State.RunFits.nodup {s : State} {r : Run} (h : s.RunFits r) :
    (r.compute.2.map RunPart.slot).Nodup := by
  rw [slots_of_fed h.fed]
  exact h.1

@[simp] theorem State.integrateFlare_entry (s : State) (i : Fin 48) : s.integrateFlare.entry i = s.entry i :=
  State.entry_congr (by simp) i

@[simp] theorem State.integrateFlare_record (s : State) (i : Fin 48) :
    s.integrateFlare.record i = s.record i := State.record_congr (by simp) i

/-- A participant without the released mark: its grant is published, and a PENDING one is ACTIVE and written
(R59). -/
theorem State.publishedBy_part {s : State} {r : Run} (h : s.RunFits r) {q : RunPart}
    (hq : q ∈ r.compute.2) (hrel : q.released = false) :
    (s.publishedBy r).entry q.slot = (s.entry q.slot).map (fun e => e.published q s.ae.runNumber) ∧
    (s.publishedBy r).record q.slot =
      if ∃ e ∈ s.entry q.slot, e.state = .pending
      then ⟨storedOfftake ((s.publishedBy r).entry q.slot), true⟩ else s.record q.slot := by
  obtain ⟨p, hp, fed⟩ := h.exists_part hq
  have hslot : q.slot ∉ r.retiring := fed.keeps.1 ▸ (h.2.1 p hp).2.2.1
  obtain ⟨hentry, hrecord⟩ :=
    State.publishParts_part h.nodup hq hrel s.integrateFlare s.ae.runNumber
  unfold State.publishedBy
  rw [State.record_freeSlots, State.entry_freeSlots, if_neg hslot, if_neg hslot]
  simp only [State.integrateFlare_entry, State.integrateFlare_record] at hentry hrecord
  exact ⟨hentry, hrecord⟩

/-- A slot of the retiring set is FREE (R60). -/
theorem State.publishedBy_retired (s : State) {r : Run} {i : Fin 48} (hi : i ∈ r.retiring) :
    (s.publishedBy r).entry i = none ∧
    (s.publishedBy r).record i = ⟨StoredOfftake.free, true⟩ := by
  unfold State.publishedBy
  rw [State.record_freeSlots, State.entry_freeSlots, if_pos hi, if_pos hi]
  exact ⟨rfl, rfl⟩

/-- Every other slot stands (R59, R60). -/
theorem State.publishedBy_other {s : State} {r : Run} (h : s.RunFits r) {i : Fin 48} (hi : i ∉ r.retiring)
    (hrel : ∀ p ∈ r.parts, p.slot = i → p.released = true) :
    (s.publishedBy r).entry i = s.entry i ∧
    (s.publishedBy r).record i = s.record i := by
  have others : ∀ q ∈ r.compute.2, q.slot = i → q.released = true := fun q hq hs => by
    obtain ⟨p, hp, fed⟩ := h.exists_part hq
    rw [fed.keeps.2.1]
    exact hrel p hp (fed.keeps.1 ▸ hs)
  obtain ⟨hentry, hrecord⟩ := State.publishParts_other others s.integrateFlare s.ae.runNumber
  unfold State.publishedBy
  rw [State.record_freeSlots, State.entry_freeSlots, if_neg hi, if_neg hi, hentry, hrecord]
  exact ⟨s.integrateFlare_entry i, s.integrateFlare_record i⟩

/-- Each slot a completion meets: published, freed, or as it was. -/
theorem State.publishedBy_entry_cases {s : State} {r : Run} (h : s.RunFits r) (i : Fin 48) :
    (∃ q ∈ r.compute.2, q.released = false ∧ q.slot = i ∧
      (s.publishedBy r).entry i = (s.entry i).map fun e => e.published q s.ae.runNumber) ∨
    (i ∈ r.retiring ∧ (s.publishedBy r).entry i = none) ∨
    (i ∉ r.retiring ∧ (∀ p ∈ r.parts, p.slot = i → p.released = true) ∧
      (s.publishedBy r).entry i = s.entry i) := by
  by_cases hret : i ∈ r.retiring
  · exact .inr (.inl ⟨hret, (s.publishedBy_retired hret).1⟩)
  by_cases hq : ∃ q ∈ r.compute.2, q.released = false ∧ q.slot = i
  · obtain ⟨q, hq, hrel, rfl⟩ := hq
    exact .inl ⟨q, hq, hrel, rfl, (State.publishedBy_part h hq hrel).1⟩
  · have hrel : ∀ p ∈ r.parts, p.slot = i → p.released = true := fun p hp hs => by
      obtain ⟨q, hqm, fed⟩ := (exists_of_fed h.fed).2 p hp
      by_contra hno
      exact hq ⟨q, hqm, fed.keeps.2.1.trans (Bool.eq_false_iff.2 hno), fed.keeps.1.trans hs⟩
    exact .inr (.inr ⟨hret, hrel, (State.publishedBy_other h hret hrel).1⟩)

/-! ## The laws over a completion -/

/-- A sum over all slots is the sum over those that count. -/
theorem sum_slots_eq (g : Fin 48 → Nat) {l : List (Fin 48)} (hn : l.Nodup) (h : ∀ i, i ∉ l → g i = 0) :
    (slots48.map g).sum = (l.map g).sum := by
  have hall : (slots48.map g).sum = ∑ i, g i := (Fin.sum_univ_def g).symm
  rw [hall, ← List.sum_toFinset g hn]
  exact (Finset.sum_subset (Finset.subset_univ _) fun i _ hi => h i (by simpa using hi)).symm

/-- Computed grants are published or released. -/
theorem partSum_split (src : Source) (ps : List RunPart) :
    ((ps.filter fun p => !p.released).map fun p => p.grant.get src).sum + releasedSum src ps =
      partSum src ps := by
  induction ps with
  | nil => rfl
  | cons p ps ih =>
    cases hp : p.released <;>
      simp only [releasedSum, List.filter_cons, hp, Bool.not_true, Bool.not_false, if_true, if_false,
        Bool.false_eq_true, List.map_cons, List.sum_cons, partSum_cons] at ih ⊢ <;> omega

/-- What a completion publishes is all that stands in the table after it (R59 to R61). -/
theorem State.publishedBy_grantSum {s : State} {r : Run} (h : s.RunFits r) (src : Source) :
    (s.publishedBy r).grantSum src =
      ((r.compute.2.filter fun p => !p.released).map fun p => p.grant.get src).sum := by
  have hn : ((r.compute.2.filter fun p => !p.released).map RunPart.slot).Nodup :=
    h.nodup.sublist (List.filter_sublist.map _)
  rw [State.grantSum_eq, sum_slots_eq _ hn, List.map_map]
  · refine congrArg List.sum (List.map_congr_left fun q hq => ?_)
    obtain ⟨hq, hrel⟩ := List.mem_filter.1 hq
    obtain ⟨p, hp, fed⟩ := h.exists_part hq
    have hsome := (h.2.1 p hp).2.2.2
    obtain ⟨e, he⟩ := Option.isSome_iff_exists.1 hsome
    have hslot : q.slot = p.slot := fed.keeps.1
    have hentry := (State.publishedBy_part h hq (by simpa using hrel)).1
    rw [hslot, he] at hentry
    rw [Function.comp, hslot, State.grantAt_some hentry]
    rfl
  · intro i hi
    rcases State.publishedBy_entry_cases h i with ⟨q, hq, hrel, hs, -⟩ | ⟨-, hnone⟩ | ⟨hret, hrel, hsame⟩
    · exact absurd (List.mem_map.2 ⟨q, List.mem_filter.2 ⟨hq, by simp [hrel]⟩, hs⟩) hi
    · exact State.grantAt_none hnone src
    · cases he : s.entry i with
      | none => exact State.grantAt_none (hsame.trans he) src
      | some e =>
        have hzero : e.grant.parts = ⟨0, 0, 0⟩ := by
          by_contra hne
          rcases h.2.2.2.2 i e he hne with hr | ⟨p, hp, hs, hfalse⟩
          · exact hret hr
          · rw [hrel p hp hs] at hfalse
            cases hfalse
        rw [State.grantAt_some (hsame.trans he), hzero]
        cases src <;> rfl

theorem surplusAfter_get (left : PerSource Nat) (ps : List RunPart) (src : Source) :
    (surplusAfter left ps).get src = left.get src + releasedSum src ps := by cases src <;> rfl

/-- PENDING and SUSPENDED entries hold no grant behind a completion either (R59). -/
theorem State.publishedBy_waiting {s : State} {r : Run} (h : s.RunFits r) (w : s.WaitingHoldNone) :
    (s.publishedBy r).WaitingHoldNone := by
  intro i f hf hs
  rcases State.publishedBy_entry_cases h i with ⟨q, hq, hrel, rfl, he⟩ | ⟨-, hnone⟩ | ⟨-, -, hsame⟩
  · rw [he] at hf
    obtain ⟨e, hes, rfl⟩ := Option.map_eq_some_iff.1 hf
    obtain ⟨p, hp, fed⟩ := h.exists_part hq
    have hslot : q.slot = p.slot := fed.keeps.1
    have hne := (h.2.2.1 p hp e (hslot ▸ hes)).2 (fed.keeps.2.1 ▸ hrel)
    simp only [Offtake.published] at hs
    split at hs <;> simp_all
  · rw [hnone] at hf
    cases hf
  · exact w i f (hsame ▸ hf) hs

theorem sum_map_le {α : Type} (l : List α) {f g : α → Nat} (h : ∀ x ∈ l, f x ≤ g x) :
    (l.map f).sum ≤ (l.map g).sum := List.sum_le_sum h

/-- What a zone's participants are granted stays within what they need (R58, R63). -/
theorem State.zoneGrantSum_le {s t : State} {r : Run} (h : s.RunFits r) (z : Zone) :
    t.zoneGrantSum r.compute.2 z ≤ t.zoneNeedSum r.compute.2 z := by
  refine sum_map_le _ fun q hq => ?_
  obtain ⟨p, hp, fed⟩ := h.exists_part (List.mem_filter.1 hq).1
  have hneed : q.need = p.need := fed.keeps.2.2.1
  have := (fed.of_empty (h.2.1 p hp).1).1
  unfold RunPart.publishedTotal
  split <;> omega

/-- The state behind publication, with the figures settled and no rerun pending (R61 to R65). -/
def State.settledBy (s : State) (r : Run) : State :=
  { s.figuresBy r with ae := { (s.figuresBy r).ae with rerunPending := false } }

/-- Flags raised and a pending rerun started only move the run of a state with none in flight (R65). -/
theorem State.rerunBehind_kept (u : State) (a b : Bool) (f g : AlertFlag) :
    ({ u with ae := { u.ae with rerunPending := false } } : State).EngineKept
      ((u.raiseIf a f).raiseIf b g).rerunIfPending := by
  generalize hv : (u.raiseIf a f).raiseIf b g = v
  have cleared : ({ u with ae := { u.ae with rerunPending := false } } : State).EngineKept
      { v with ae := { v.ae with rerunPending := false } } := .of_eq (by simp [← hv]) (by simp [← hv])
  unfold State.rerunIfPending
  dsimp only
  split
  · exact cleared.trans (State.startRun_kept _)
  · exact cleared

/-- What may start behind a completion only moves the run (R65). -/
theorem State.completeRun_kept (s : State) (r : Run) : (s.settledBy r).EngineKept (s.completeRun r) := by
  rw [State.completeRun_eq]
  exact State.rerunBehind_kept (s.figuresBy r) _ _ _ _

/-- Zone sums in order give a sound coverage (R63). -/
theorem State.settleFigures_coverageSound {s : State} {ps : List RunPart}
    (h : ∀ z, s.zoneGrantSum ps z ≤ s.zoneNeedSum ps z) (r : Run) (left : PerSource Nat) :
    (s.settleFigures r left ps).CoverageSound := by
  intro z
  cases z <;> exact ⟨h _, rfl⟩

/-- A completion keeps what holds of the engine, whatever run was in flight (R59 to R65). -/
theorem State.completeRun_keepsEngine {s : State} {r : Run} (hr : s.ae.run = some r) :
    s.KeepsEngine (s.completeRun r) := by
  have kept := s.completeRun_kept r
  refine ⟨fun h => kept.core ⟨State.publishedBy_waiting (h.2.1 r hr) h.1, fun _ hn => ?_, fun hn => ?_⟩,
    fun h _ => kept.conserved fun src => ?_, fun h _ => kept.coverageSound fun z => ?_⟩
  · cases hn
  · cases hn
  · have hsum := (r.compute_sharedOut fun p hp => ((h.2.1 r hr).2.1 p hp).2.1).kept src
    rw [partSum_of_empty fun p hp => ((h.2.1 r hr).2.1 p hp).1, Nat.zero_add] at hsum
    have hsplit := partSum_split src r.compute.2
    change (s.publishedBy r).grantSum src + (surplusAfter _ _).get src = r.startPools.get src
    rw [State.publishedBy_grantSum (h.2.1 r hr), surplusAfter_get, ← hsum, ← hsplit]
    omega
  · exact State.settleFigures_coverageSound (fun z => State.zoneGrantSum_le (h.2.1 r hr) z) r r.compute.1 z

end Sys2Proof.Machine
end

section
/-! PROOF. Start-up and resets under the laws of the engine and the boosts: what the loads bring, what
stands while the part starts up, and what every live command keeps (2.9, 3.11, 10.3; O35 to O38). -/

namespace Sys2Proof.Machine

/-! ## Commands that arrive in frames -/

/-- The command arrives in a frame of the host link and is no reset. -/
def isFrame : Instr → Bool
  | .powerOn _ | .resetLine _ | .resetPart _ _ | .startUpComplete | .lockLineChange _ | .transactionBegin
  | .frameError | .checkError | .saveCompletion | .gapTimerExpiry | .querySent | .replyTimerExpiry _
  | .reportComplete _ | .periodTimerExpiry | .dispatchTimerExpiry | .runCompletion | .flareTimerExpiry
  | .retryTimerExpiry _ | .linkSilenceTimerExpiry => false
  | _ => true

theorem exec_frame {c : Instr} (h : isFrame c = true) :
    ∃ own, ∀ s, exec c s = .next (s.takeFrame own) := by
  cases c <;> simp [isFrame] at h <;> exact ⟨_, fun _ => rfl⟩

/-! ## While the part starts up -/

/-- Without a frame to hear, a run or a timer, the part stays as the reset left it until start-up is
complete (R171). -/
theorem exec_quiet {c : Instr} {s t : State} (hup : s.startingUp = true) (hq : s.Quiet)
    (hc : isReset c = false) (h : exec c s = .next t) :
    t.startingUp = true ∧ t.Quiet ∧ t.ae = s.ae ∧ t.ot.entries = s.ot.entries := by
  have stays : s.startingUp = true ∧ s.Quiet ∧ s.ae = s.ae ∧ s.ot.entries = s.ot.entries :=
    ⟨hup, hq, rfl, rfl⟩
  cases hf : isFrame c with
  | true =>
    obtain ⟨own, hown⟩ := exec_frame hf
    have : ¬ s.Taking := fun k => Bool.noConfusion (hup.symm.trans k.1)
    rw [hown, State.takeFrame_of_not_taking this] at h
    obtain rfl := Host.Outcome.next.inj h
    exact stays
  | false =>
    have silent : s.hearsFrame = false := by simp [State.hearsFrame, hup]
    obtain ⟨hae, -, hmonitors, hphase, hsilence, hsaving⟩ := id hq
    cases c <;> simp only [isFrame, isReset, Bool.true_eq_false] at hf hc <;>
      obtain rfl := Host.Outcome.next.inj h
    case lockLineChange b => exact stays
    case transactionBegin => exact stays
    case frameError => simp only [State.discardFrame, silent, Bool.false_eq_true, if_false]; exact stays
    case checkError => simp only [State.discardFrame, silent, Bool.false_eq_true, if_false]; exact stays
    case saveCompletion => simpa [hsaving] using stays
    case gapTimerExpiry => simpa [hphase] using stays
    case querySent => simpa [hphase] using stays
    case replyTimerExpiry arrived => simpa [hphase] using stays
    case reportComplete report => simpa [hphase] using stays
    case periodTimerExpiry =>
      split
      · simpa [State.Quiet, hup] using hq
      · exact stays
    case dispatchTimerExpiry => simpa [hae, Engine.blank] using stays
    case runCompletion => simpa [hae, Engine.blank] using stays
    case flareTimerExpiry => simpa [hae, Engine.blank] using stays
    case retryTimerExpiry m =>
      have : (s.monitor m).timer = none := by
        simp [State.monitor, hmonitors, Supervisor.blank, MonitorRecord.blank]
      simpa [this] using stays
    case linkSilenceTimerExpiry => simpa [hsilence] using stays

/-- A reset leaves the volatile blocks blank (R171). -/
theorem State.begun_quiet (d : Store) (r : ResetRecord) (l : Bool) (n : Nat) (q : List Instr) :
    (State.begun d r l n q).Quiet := ⟨rfl, rfl, rfl, rfl, rfl, rfl⟩

/-- A table without entries. -/
theorem State.entry_of_blank {s : State} (h : s.ot = OfftakeTable.blank) (i : Fin 48) : s.entry i = none := by
  simp [State.entry, h, OfftakeTable.blank]

/-! ## What the loads bring -/

/-- The entry a record that passes its check reloads as (R47). -/
def StoredOfftake.reloaded (r : StoredOfftake) : Option Offtake :=
  (reloadState r.state).map fun st => StoredOfftake.entry r st r.damaged

theorem State.loadGoodOfftake_eq (s : State) (i : Fin 48) : s.loadGoodOfftake i =
    if (s.record i).good = true then
      if (s.record i).value.state = 2 then s.writeEntry i (StoredOfftake.reloaded (s.record i).value)
      else s.setEntry i (StoredOfftake.reloaded (s.record i).value)
    else s := rfl

theorem State.loadFailingOfftake_eq (s : State) (i : Fin 48) : s.loadFailingOfftake i =
    if (s.record i).good = true then s
    else (s.writeEntry i (s.damagedOfftake (s.record i).value)).raise .recordDamaged := rfl

theorem State.entry_loadGoodOfftake (s : State) (i j : Fin 48) : (s.loadGoodOfftake i).entry j =
    if i = j ∧ (s.record i).good = true then StoredOfftake.reloaded (s.record i).value else s.entry j := by
  rw [State.loadGoodOfftake_eq]
  split
  · next hg =>
    simp only [hg, and_true]
    split
    · exact s.entry_writeEntry i j _
    · exact s.entry_setEntry i j _
  · next hg => rw [if_neg fun k => hg k.2]

@[simp] theorem State.raise_entry (s : State) (f : AlertFlag) (i : Fin 48) : (s.raise f).entry i = s.entry i :=
  rfl

@[simp] theorem State.raise_record (s : State) (f : AlertFlag) (i : Fin 48) :
    (s.raise f).record i = s.record i := rfl

theorem State.entry_loadFailingOfftake (s : State) (i j : Fin 48) : (s.loadFailingOfftake i).entry j =
    if i = j ∧ (s.record i).good = false then s.damagedOfftake (s.record i).value else s.entry j := by
  rw [State.loadFailingOfftake_eq]
  split
  · next hg => simp [hg]
  · next hg =>
    rw [State.raise_entry, State.entry_writeEntry]
    simp [hg]

@[simp] theorem State.loadCounter_entry (s : State) (i : Fin 48) : s.loadCounter.entry i = s.entry i := by
  unfold State.loadCounter
  dsimp only
  (repeat' split) <;> rfl

/-- A failing record loads as an entry of its values, SUSPENDED and damaged, or as none (R34). -/
theorem State.damagedOfftake_some {s : State} {r : StoredOfftake} {e : Offtake}
    (h : s.damagedOfftake r = some e) : e = StoredOfftake.entry r .suspended true ∧
      s.findOfftake e.number = none := by
  unfold State.damagedOfftake at h
  split at h
  · cases h
  · dsimp only at h
    split at h
    · cases h
    · next hn =>
      obtain rfl := Option.some.inj h
      exact ⟨rfl, by simpa using hn⟩

/-- No entry holds a grant or a boost. -/
def State.AllFresh (s : State) : Prop := ∀ i, ∀ e ∈ s.entry i, e.grant = Grant.zero ∧ e.boost = 0

theorem State.loadOfftakes_allFresh {s : State} (h : s.AllFresh) : s.loadOfftakes.AllFresh := by
  have good (u : State) (hu : u.AllFresh) (i : Fin 48) : (u.loadGoodOfftake i).AllFresh := by
    intro j e he
    rw [State.entry_loadGoodOfftake] at he
    split at he
    · obtain ⟨st, -, rfl⟩ := Option.map_eq_some_iff.1 he
      exact ⟨rfl, rfl⟩
    · exact hu j e he
  have failing (u : State) (hu : u.AllFresh) (i : Fin 48) : (u.loadFailingOfftake i).AllFresh := by
    intro j e he
    rw [State.entry_loadFailingOfftake] at he
    split at he
    · rw [(State.damagedOfftake_some he).1]
      exact ⟨rfl, rfl⟩
    · exact hu j e he
  intro j e he
  unfold State.loadOfftakes at he
  rw [State.loadCounter_entry] at he
  exact List.foldlRecOn (motive := State.AllFresh) slots48 _
    (List.foldlRecOn (motive := State.AllFresh) slots48 _ h fun u hu i _ => good u hu i)
    (fun u hu i _ => failing u hu i) j e he

/-- The state in which start-up loads the offtakes (R171, steps 1 and 2). -/
def State.settled (s : State) : State := s.loadLock.loadSettings.holdBand

@[simp] theorem State.settled_tables (s : State) : s.settled.ot.entries = s.ot.entries ∧ s.settled.ae = s.ae ∧
    s.settled.hau = s.hau ∧ s.settled.store = s.store ∧ s.settled.startingUp = s.startingUp := by
  unfold State.settled State.holdBand State.loadSettings
  dsimp only
  (repeat' split) <;> simp [State.loadLock]

/-- The state in which start-up is complete but for the beginning of polling (R171, step 4). -/
def State.loaded (s : State) : State :=
  s.settled.loadOfftakes.loadAccounts.loadFlare.placeRoles.startTimers

theorem State.startUp_eq (s : State) :
    s.startUp = if s.loaded.nvs.settingsFault then s.loaded else s.loaded.beginPolling := by
  unfold State.startUp State.loaded State.settled
  dsimp only

@[simp] theorem State.startUp_entries (s : State) :
    s.startUp.ot.entries = s.settled.loadOfftakes.ot.entries := by
  rw [State.startUp_eq]
  unfold State.loaded State.loadFlare
  dsimp only
  (repeat' split) <;> simp [State.placeRoles, State.startTimers]

@[simp] theorem State.startUp_startingUp (s : State) : s.startUp.startingUp = false := by
  rw [State.startUp_eq]
  split <;> simp [State.loaded, State.startTimers]

/-- Start-up starts the engine's timers and loads its flare record; the rest of it stands (R70, R75). -/
theorem State.startUp_ae (s : State) : s.startUp.ae = { s.ae with
    flareTotal := s.startUp.ae.flareTotal
    flareResidue := s.startUp.ae.flareResidue
    dispatch := s.startUp.ae.dispatch
    flarePoint := s.startUp.ae.flarePoint
    flareTimer := s.startUp.ae.flareTimer } := by
  rw [State.startUp_eq]
  unfold State.loaded State.loadFlare
  dsimp only
  (repeat' split) <;> simp [State.placeRoles, State.startTimers]

/-! ## What every live command keeps -/

/-- Start-up over a table without entries leaves every entry without grant and boost (R47). -/
theorem State.startUp_allFresh {s : State} (h : ∀ i, s.entry i = none) : s.startUp.AllFresh := by
  have settled : s.settled.AllFresh := fun i e he => by
    have : s.settled.entry i = s.entry i := by simp [State.entry]
    rw [this, h i] at he
    cases he
  intro i e he
  have : s.startUp.entry i = s.settled.loadOfftakes.entry i := by simp [State.entry]
  exact State.loadOfftakes_allFresh settled i e (this ▸ he)

theorem State.enterStandalone_kept (s : State) : s.EngineKept s.enterStandalone :=
  (((State.EngineKept.of_eq rfl rfl : s.EngineKept
    (State.raise { s with cl := { s.cl with standalone := true, silence := none } }
      .standaloneEntered)).trans (State.mapBoosts_kept _ _)).trans (State.requestRun_kept _))

@[simp] theorem State.atExpiry_tables (s : State) (e : Time) :
    (s.atExpiry e).ot = s.ot ∧ (s.atExpiry e).ae = s.ae := by
  unfold State.atExpiry
  split <;> exact ⟨rfl, rfl⟩

theorem State.atExpiry_kept (s : State) (e : Time) : s.EngineKept (s.atExpiry e) :=
  .of_eq (by simp) (by simp)

theorem State.restartDispatch_kept (s : State) : s.EngineKept s.restartDispatch :=
  ⟨.of_eq rfl, rfl, rfl, rfl, rfl, rfl, .inl ⟨rfl, .inl⟩⟩

theorem resumeLinkCommand_kept (s : State) : s.EngineKept (resumeLinkCommand s).state := by
  unfold resumeLinkCommand
  split
  · exact (State.requestRun_kept _).from_eq (by simp) (by simp)
  · exact .refl s

theorem startRunCommand_kept (s : State) : s.EngineKept (startRunCommand s).state := by
  unfold startRunCommand
  split
  · exact .refl s
  · exact s.requestRun_kept

theorem abortRunCommand_kept (s : State) : s.EngineKept (abortRunCommand s).state := by
  unfold abortRunCommand
  (repeat' split)
  · exact .refl s
  · exact .refl s
  · dsimp only [State.ok_state]
    split
    · exact s.abortRun_kept.trans (State.restartDispatch_kept _)
    · exact s.abortRun_kept

theorem State.zeroTotals_kept (s : State) :
    s.EngineKept (State.writeFlare { s with ae := { s.ae with flareTotal := ⟨0, 0⟩ } }) :=
  ⟨.of_eq rfl, rfl, rfl, rfl, rfl, rfl, .inl ⟨rfl, .inl⟩⟩

theorem readFlareCommand_kept (p : List Byte) (s : State) : s.EngineKept (readFlareCommand p s).state := by
  unfold readFlareCommand
  (repeat' split)
  · exact .refl s
  · exact .refl s
  · exact s.integrateFlare_kept
  · exact s.integrateFlare_kept.trans (State.zeroTotals_kept _)
  · exact .refl s

theorem setDemandCommand_kept (p : List Byte) (s : State) : s.EngineKept (setDemandCommand p s).state := by
  unfold setDemandCommand
  (repeat' split)
  · exact .refl s
  · exact .refl s
  · exact s.takeDemands_kept _

theorem stopSettlementCommand_kept (s : State) : s.EngineKept (stopSettlementCommand s).state := by
  unfold stopSettlementCommand
  split
  · exact .refl s
  · dsimp only [State.ok_state]
    exact (State.mapBoosts_kept _ _).from_eq rfl rfl

/-- SET SETTING changes nothing, or brings into force what its items make of the live settings: consistent
settings whose role addresses are not bound (R38, R167). -/
theorem setSettingCommand_cases (p : List Byte) (s : State) :
    (setSettingCommand p s).state = s ∨ ∃ l c, settingItems p = some l ∧
      (l.any namesBand && s.bandEnforced) = false ∧ s.settings.setItems l = some c ∧
      c.consistent = true ∧ s.rolesUnbound c.roles = true ∧
      (setSettingCommand p s).state = (s.setUnsaved true).applySettings c := by
  unfold setSettingCommand
  split
  · exact .inl rfl
  · next l hl =>
    split
    · exact .inl rfl
    split
    · exact .inl rfl
    split
    · exact .inl rfl
    next hband =>
    split
    · exact .inl rfl
    next c hc =>
    split
    · next hok =>
      rw [Bool.and_eq_true] at hok
      exact .inr ⟨l, c, hl, Bool.eq_false_iff.2 hband, hc, hok.1, hok.2, State.ok_state _ _⟩
    · exact .inl rfl

/-- RESTORE SETTINGS changes nothing, or brings the stored settings into force (R169). -/
theorem restoreCommand_cases (s : State) :
    (restoreCommand s).state = s ∨ ∃ b, s.store.settings.good = true ∧ (restoreCommand s).state =
      (s.setUnsaved b).applySettings (s.restored s.store.settings.value) := by
  unfold restoreCommand
  split
  · exact .inl rfl
  split
  · exact .inl rfl
  · next h => exact .inr ⟨_, by simpa using h, State.ok_state _ _⟩

theorem State.applyUnsaved_kept (s : State) (b : Bool) (c : Settings) :
    s.EngineKept ((s.setUnsaved b).applySettings c) :=
  (State.applySettings_kept (s.setUnsaved b) c).from_eq rfl rfl

theorem setSettingCommand_kept (p : List Byte) (s : State) :
    s.EngineKept (setSettingCommand p s).state := by
  rcases setSettingCommand_cases p s with h | ⟨l, c, -, -, -, -, -, h⟩ <;> rw [h]
  · exact .refl s
  · exact s.applyUnsaved_kept true c

theorem restoreCommand_kept (s : State) : s.EngineKept (restoreCommand s).state := by
  rcases restoreCommand_cases s with h | ⟨b, -, h⟩ <;> rw [h]
  · exact .refl s
  · exact s.applyUnsaved_kept b _

theorem setPollListCommand_kept (p : List Byte) (s : State) :
    s.EngineKept (setPollListCommand p s).state := by
  rcases setPollListCommand_cases p s with h | ⟨l, h⟩ | ⟨l, h⟩ <;> rw [h]
  · exact .refl s
  · exact .of_eq rfl rfl
  · exact s.putListInForce_kept l

theorem State.EngineKept.foldl {α : Type} {f : State → α → State}
    (h : ∀ (s : State) a, s.EngineKept (f s a))
    (l : List α) (s : State) : s.EngineKept (l.foldl f s) := by
  induction l generalizing s with
  | nil => exact .refl s
  | cons a l ih => exact (h s a).trans (ih _)

theorem clearFaultsCommand_kept (p : List Byte) (s : State) :
    s.EngineKept (clearFaultsCommand p s).state := by
  rcases clearFaultsCommand_cases p s with h | ⟨ms, -, h⟩ <;> rw [h]
  · exact .refl s
  · have cleared : s.EngineKept (ms.foldl State.clearMonitor s) := .of_eq (by simp) (by simp)
    refine cleared.trans (State.EngineKept.foldl (fun t src => ?_) Source.all _)
    split
    · exact t.settle_kept src
    · exact .refl t

/-- Every command and event but a reset keeps what holds of the engine (R61, R63, R68). -/
theorem exec_keepsEngine {c : Instr} {s t : State} (hc : isReset c = false) (h : exec c s = .next t) :
    s.KeepsEngine t := by
  have L := State.KeepsEngine.linked
  by_cases untouched : .ae ∉ touched c ∧ .entries ∉ touched c
  · exact (State.EngineKept.of_eq (exec_within h .ae untouched.1) (exec_within h .entries untouched.2)).keeps
  cases c <;> simp [touched] at untouched <;> simp only [isReset, Bool.true_eq_false] at hc <;>
    obtain rfl := Host.Outcome.next.inj h
  case setSetting p => exact L.takeFrame s fun _ => L.gated fun _ => (setSettingCommand_kept p _).keeps
  case restoreSettings p => exact L.takeFrame s fun _ => L.gated fun _ => L.bare (restoreCommand_kept _).keeps
  case setPollList p => exact L.takeFrame s fun _ => L.gated fun _ => (setPollListCommand_kept p _).keeps
  case admitOfftake p => exact L.takeFrame s fun _ => L.gated fun _ => admitCommand_keepsEngine p _
  case amendOfftake p => exact L.takeFrame s fun _ => L.gated fun _ => (amendCommand_kept p _).keeps
  case reinstateOfftake p =>
    exact L.takeFrame s fun _ => L.gated fun _ => L.namedOfftake fun i e hi _ => reinstateEntry_keepsEngine hi
  case retireOfftake p =>
    exact L.takeFrame s fun _ => L.gated fun _ => L.namedOfftake fun i e hi _ => retireEntry_keepsEngine hi
  case suspendOfftake p =>
    exact L.takeFrame s fun _ => L.gated fun _ => L.namedOfftake fun i e hi _ => suspendEntry_keepsEngine hi
  case setDemand p => exact L.takeFrame s fun _ => L.gated fun _ => (setDemandCommand_kept p _).keeps
  case stopSettlement p =>
    exact L.takeFrame s fun _ => L.gated fun _ => L.bare (stopSettlementCommand_kept _).keeps
  case resumeLink p => exact L.takeFrame s fun _ => L.bare (resumeLinkCommand_kept _).keeps
  case startRun p => exact L.takeFrame s fun _ => L.gated fun _ => L.bare (startRunCommand_kept _).keeps
  case abortRun p => exact L.takeFrame s fun _ => L.gated fun _ => L.bare (abortRunCommand_kept _).keeps
  case readFlareTotals p => exact L.takeFrame s fun _ => (readFlareCommand_kept p _).keeps
  case clearFaults p => exact L.takeFrame s fun _ => L.gated fun _ => (clearFaultsCommand_kept p _).keeps
  case runCompletion =>
    split
    · exact L.refl s
    · next r hr => exact State.completeRun_keepsEngine hr
  case linkSilenceTimerExpiry =>
    split
    · exact L.refl s
    · exact ((s.atExpiry_kept _).trans (State.enterStandalone_kept _)).keeps
  case dispatchTimerExpiry =>
    split
    · exact L.refl s
    · split
      · exact ((s.atExpiry_kept _).trans (State.restartDispatch_kept _)).keeps
      · refine (State.EngineKept.trans ?_ (State.requestRun_kept _)).keeps
        exact ⟨.of_eq (by simp), rfl, rfl, rfl, rfl, rfl, .inl ⟨rfl, .inl⟩⟩
  case flareTimerExpiry =>
    split
    · exact L.refl s
    · exact ((s.atExpiry_kept _).trans (State.integrateFlare_kept _)).keeps
  case retryTimerExpiry m =>
    split
    · exact L.refl s
    · exact ((State.settle_kept _ _).from_eq (by simp) (by simp)).keeps
  case replyTimerExpiry arrived =>
    split
    · exact ((State.enterMiss_kept _ _ _).from_eq (by simp) (by simp)).keeps
    · exact L.refl s
  case reportComplete report =>
    split
    · exact ((State.takeReport_kept _ _ _).from_eq (by simp) (by simp)).keeps
    · exact L.refl s

/-! ## The laws of the engine over a step -/

theorem State.engineSound_iff (s : State) :
    s.EngineSound ↔ s.EngineCore ∧ (s.startingUp = true → s.Quiet) := by
  simp [State.EngineSound, State.EngineCore, and_assoc]

/-- A blank engine over a table without grants keeps every law of the engine. -/
theorem State.lawful_of_blank {s : State} (hrun : s.ae.run = none) (hrerun : s.ae.rerunPending = false)
    (hfresh : s.AllFresh) : s.EngineCore := by
  refine ⟨fun i e he _ => ?_, fun r hr => ?_, fun hp => ?_⟩
  · rw [(hfresh i e he).1]; rfl
  · rw [hrun] at hr; cases hr
  · rw [hrerun] at hp; cases hp

theorem State.grantSum_of_fresh {s : State} (h : s.AllFresh) (src : Source) : s.grantSum src = 0 := by
  rw [State.grantSum_eq]
  refine List.sum_eq_zero fun n hn => ?_
  obtain ⟨i, -, rfl⟩ := List.mem_map.1 hn
  cases he : s.entry i with
  | none => exact State.grantAt_none he src
  | some e =>
    rw [State.grantAt_some he, (h i e he).1]
    cases src <;> rfl

/-- What the laws read of the engine is as a reset leaves it. -/
structure State.Blank (s : State) : Prop where
  run : s.ae.run = none
  rerun : s.ae.rerunPending = false
  pools : s.ae.lastPools = ⟨0, 0, 0⟩
  surplus : s.ae.surplus = ⟨0, 0, 0⟩
  zoneGrant : s.ae.zoneGrant = ⟨0, 0, 0, 0⟩
  zoneNeed : s.ae.zoneNeed = ⟨0, 0, 0, 0⟩
  coverage : s.ae.coverage = ⟨0, 0, 0, 0⟩
  fresh : s.AllFresh

theorem State.Blank.core {s : State} (h : s.Blank) : s.EngineCore :=
  State.lawful_of_blank h.run h.rerun h.fresh

theorem State.Blank.conserved {s : State} (h : s.Blank) : s.Conserved := fun src => by
  rw [State.grantSum_of_fresh h.fresh, h.surplus, h.pools]
  cases src <;> rfl

theorem State.Blank.coverageSound {s : State} (h : s.Blank) : s.CoverageSound := fun z => by
  rw [h.zoneGrant, h.zoneNeed, h.coverage]
  cases z <;> exact ⟨le_refl _, rfl⟩

theorem State.Blank.boosts {s : State} (h : s.Blank) : s.BoostsInRange := fun i e he => by
  rw [(h.fresh i e he).2]
  exact ⟨Nat.zero_le _, fun _ => rfl⟩

theorem State.Quiet.blank {s : State} (h : s.Quiet) : s.Blank := by
  obtain ⟨hae, hot, -⟩ := h
  constructor <;> try (rw [hae]; rfl)
  intro i e he
  rw [State.entry_of_blank hot] at he
  cases he

theorem State.beginReset_quiet (s : State) (r : ResetRecord) (torn : List Torn) :
    (s.beginReset r torn).Quiet := by
  unfold State.beginReset
  exact State.begun_quiet _ _ _ _ _

theorem State.startUp_blank {s : State} (h : s.Quiet) : s.startUp.Blank := by
  have hae := s.startUp_ae
  have blank := h.blank
  exact ⟨by rw [hae]; exact blank.run, by rw [hae]; exact blank.rerun, by rw [hae]; exact blank.pools,
    by rw [hae]; exact blank.surplus, by rw [hae]; exact blank.zoneGrant, by rw [hae]; exact blank.zoneNeed,
    by rw [hae]; exact blank.coverage, State.startUp_allFresh (State.entry_of_blank h.2.1)⟩

/-- What a reset, or the end of start-up, does: the part is as the reset left it, or as it was. -/
theorem exec_reset_cases {c : Instr} {s t : State} (hc : isReset c = true) (h : exec c s = .next t) :
    (∃ r torn, t = s.beginReset r torn) ∨ (s.startingUp = true ∧ t = s.startUp) ∨ t = s ∨
      ∃ l, t = { s with cl := l } ∧ (s.startingUp = true → l.silence = s.cl.silence) := by
  cases c <;> simp [isReset] at hc <;> obtain rfl := Host.Outcome.next.inj h
  case powerOn torn => exact .inl ⟨_, torn, rfl⟩
  case resetLine torn => exact .inl ⟨_, torn, rfl⟩
  case startUpComplete =>
    split
    · next hs => exact .inr (.inl ⟨hs, rfl⟩)
    · exact .inr (.inr (.inl rfl))
  case resetPart p torn =>
    split
    · exact .inl ⟨_, torn, rfl⟩
    · refine .inr (.inr (.inr ?_))
      by_cases k : s.Taking
      · refine ⟨s.linkAfter ⟨.badLength, []⟩, ?_, fun hup => Bool.noConfusion (hup.symm.trans k.1)⟩
        rw [State.takeFrame_of_taking k]
        exact s.respond_frameTaken _
      · exact ⟨{ s.cl with shiftOut := none }, State.takeFrame_of_not_taking k _, fun _ => rfl⟩

end Sys2Proof.Machine
end

section
/-! PROOF. The laws of the engine over every step: each published kilowatt and the surplus make up the last
pool, and every coverage stays in 0..1000 (O35, O36). -/

namespace Sys2Proof.Machine

/-- Every command and event, resets and start-up among them, keeps the engine sound, the pools accounted for
and the zone sums in order. -/
theorem exec_engineSound {c : Instr} {s t : State} (hs : s.EngineSound) (h : exec c s = .next t) :
    t.EngineSound ∧ (s.Conserved → t.Conserved) ∧ (s.CoverageSound → t.CoverageSound) := by
  rw [State.engineSound_iff] at hs ⊢
  obtain ⟨core, quiet⟩ := hs
  cases hc : isReset c with
  | false =>
    have kept := exec_keepsEngine hc h
    refine ⟨⟨kept.core core, fun hup => ?_⟩, kept.conserved core, kept.coverage core⟩
    have same : t.startingUp = s.startingUp :=
      exec_within h .startingUp (by cases c <;> simp [touched, isReset] at hc ⊢)
    have hup : s.startingUp = true := same ▸ hup
    exact (exec_quiet hup (quiet hup) hc h).2.1
  | true =>
    rcases exec_reset_cases hc h with ⟨r, torn, rfl⟩ | ⟨hup, ht⟩ | rfl | ⟨l, rfl, hl⟩
    · have quiet := s.beginReset_quiet r torn
      exact ⟨⟨quiet.blank.core, fun _ => quiet⟩, fun _ => quiet.blank.conserved,
        fun _ => quiet.blank.coverageSound⟩
    · have blank := State.startUp_blank (quiet hup)
      rw [ht]
      exact ⟨⟨blank.core, fun k => by rw [State.startUp_startingUp] at k; cases k⟩, fun _ => blank.conserved,
        fun _ => blank.coverageSound⟩
    · exact ⟨⟨core, quiet⟩, id, id⟩
    · refine ⟨⟨core, fun hup => ?_⟩, id, id⟩
      obtain ⟨hae, hot, hmonitors, hphase, hsilence, hsaving⟩ := quiet hup
      exact ⟨hae, hot, hmonitors, hphase, (hl hup).trans hsilence, hsaving⟩

theorem coverageOf_le {g d : Nat} (h : g ≤ d) : coverageOf g d ≤ 1000 := by
  unfold coverageOf
  split
  · exact Nat.zero_le _
  · next hd => exact Nat.div_le_of_le_mul (by nlinarith)

/-- Settles O35, by the frame of every command and what admission, suspension, reinstatement, retirement and
completion make of grants and surplus. -/
theorem everyKilowattIsAccountedFor : Obligations.EveryKilowattIsAccountedFor := by
  intro s t sound conserved h
  rcases step_cases h with ⟨c, rest, picks, h⟩ | rfl
  · obtain ⟨sound, keeps, -⟩ := exec_engineSound (s := { s with pending := rest, picks := picks }) sound h
    exact ⟨sound, keeps conserved⟩
  · exact ⟨sound, conserved⟩

/-- Settles O36. -/
theorem coverageStaysInRange : Obligations.CoverageStaysInRange := by
  intro s t sound coverage h
  have covered : t.CoverageSound := by
    rcases step_cases h with ⟨c, rest, picks, h⟩ | rfl
    · exact (exec_engineSound (s := { s with pending := rest, picks := picks }) sound h).2.2 coverage
    · exact coverage
  refine ⟨covered, fun z => ?_⟩
  rw [(covered z).2]
  exact coverageOf_le (covered z).1

end Sys2Proof.Machine
end

section
/-! PROOF. What a command or event can make of a slot of the offtake table and of its stored record, and the
laws of the table that follow (chapter 2; O14, O25, O26, O37). -/

namespace Sys2Proof.Machine

/-! ## Boosts -/

/-- An entry with its boost changed, if it is a POWER entry in PENDING or ACTIVE (R146). -/
def Offtake.boosted (f : Nat → Nat) (e : Offtake) : Offtake :=
  if Use.isPower e.use && e.takesPart then { e with boost := f e.boost } else e

theorem State.mapBoosts_entry (s : State) (f : Nat → Nat) (i : Fin 48) :
    (s.mapBoosts f).entry i = (s.entry i).map (Offtake.boosted f) := State.entry_mapBoosts s f i

@[simp] theorem Offtake.boosted_id (e : Offtake) : Offtake.boosted id e = e := by
  unfold Offtake.boosted
  split <;> rfl

theorem Offtake.boosted_fields (f : Nat → Nat) (e : Offtake) :
    e.boosted f = { e with boost := (e.boosted f).boost } ∧
    (e.boosted f).boost = if Use.isPower e.use && e.takesPart then f e.boost else e.boost := by
  unfold Offtake.boosted
  split <;> exact ⟨rfl, rfl⟩

theorem State.map_boosted_id (s : State) (i : Fin 48) :
    (s.entry i).map (Offtake.boosted id) = s.entry i := by
  cases s.entry i <;> simp

/-- How all boosts of the table may change at once: into 0..boost maximum, and not from 0 in standalone
operation (R139, R145, R146, R154). -/
structure BoostMove (s t : State) (f : Nat → Nat) : Prop where
  bounded : ∀ b, b ≤ s.settings.boostMax → f b ≤ t.settings.boostMax
  standalone : s.cl.standalone = true → f 0 = 0

theorem boostStep_le {x tol : Int} {step top b : Nat} (h : b ≤ top) : boostStep x tol step top b ≤ top := by
  unfold boostStep
  (repeat' split) <;> omega

/-- A projection steps the boosts, in standalone operation not (R145, R154). -/
theorem State.projectPeriod_boosts (s : State) (p : Period) : ∃ f, BoostMove s (s.projectPeriod p) f ∧
    ∀ i, (s.projectPeriod p).entry i = (s.entry i).map (Offtake.boosted f) := by
  unfold State.projectPeriod
  dsimp only
  cases h : s.cl.standalone with
  | true => exact ⟨id, ⟨fun b hb => hb, fun _ => rfl⟩, fun i => (s.map_boosted_id i).symm⟩
  | false => exact ⟨_, ⟨fun b hb => boostStep_le hb, fun k => by simp [h] at k⟩, State.mapBoosts_entry _ _⟩

theorem State.takeExport_boosts (s : State) (a register : Nat) : ∃ f,
    BoostMove s (s.takeExport a register) f ∧
    ∀ i, (s.takeExport a register).entry i = (s.entry i).map (Offtake.boosted f) := by
  have stands (t : State) (hot : t.ot = s.ot) (hset : t.settings = s.settings) :
      ∃ f, BoostMove s t f ∧ ∀ i, t.entry i = (s.entry i).map (Offtake.boosted f) :=
    ⟨id, ⟨fun b hb => by rwa [hset], fun _ => rfl⟩, fun i => by
      rw [s.map_boosted_id, State.entry_congr hot]⟩
  unfold State.takeExport
  dsimp only
  split
  · exact stands _ rfl rfl
  · exact stands _ rfl rfl
  · next p b _ _ =>
    split
    · exact stands _ (by simp) (by simp)
    · obtain ⟨f, hf, h⟩ := State.projectPeriod_boosts
        { s with esu := { s.esu with silent := false, baseline := some ⟨register, s.now⟩ } }
        { p with delivered := min Config.maxDelivered (p.delivered + meterDelta register b.register) }
      exact ⟨f, ⟨hf.bounded, hf.standalone⟩, h⟩

theorem State.takeReport_boosts (s : State) (a : Nat) (r : Report) : ∃ f, BoostMove s (s.takeReport a r) f ∧
    ∀ i, (s.takeReport a r).entry i = (s.entry i).map (Offtake.boosted f) := by
  have stands (t : State) (hot : t.ot = s.ot) (hset : t.settings = s.settings) :
      ∃ f, BoostMove s t f ∧ ∀ i, t.entry i = (s.entry i).map (Offtake.boosted f) :=
    ⟨id, ⟨fun b hb => by rwa [hset], fun _ => rfl⟩, fun i => by
      rw [s.map_boosted_id, State.entry_congr hot]⟩
  rcases s.takeReport_cases a r with ⟨role, x, -, h⟩ | ⟨-, h⟩ | ⟨v, -, h⟩ <;> rw [h]
  · unfold State.enterGood State.deliver
    dsimp only
    split
    · exact stands _ (by split <;> simp) (by split <;> simp)
    · exact stands _ (by split <;> simp) (by split <;> simp)
    · obtain ⟨f, hf, h⟩ := State.takeExport_boosts _ _ _
      exact ⟨f, ⟨fun b hb => hf.bounded b (by simpa using hb), fun k => hf.standalone (by simpa using k)⟩,
        fun i => by rw [h]; simp [State.entry]⟩
    · exact stands _ (by simp) (by simp)
    · exact stands _ (by simp) (by simp)
  · exact stands _ (by simp) (by simp)
  · exact stands _ (by simp) (by simp)

/-- New settings lower the boosts above a new boost maximum, and change nothing else of an entry (R139). -/
theorem State.applySettings_entry (s : State) (c : Settings) (i : Fin 48) :
    (s.applySettings c).entry i = (s.entry i).map (Offtake.boosted
      (if c.boostMax ≠ s.settings.boostMax then fun b => min b c.boostMax else id)) := by
  unfold State.applySettings
  dsimp only
  generalize h : State.engineChange (State.settleAll (State.lineDelist _ s.settings)) s.settings = t
  have hot : t.ot = s.ot := by
    rw [← h]; unfold State.lineDelist; split <;> simp
  have hset : t.settings = c := by
    rw [← h]; unfold State.lineDelist; split <;> simp
  have tail (u : State) : (State.lineRestart (State.linkChange u s.settings) s.settings).entry i = u.entry i := by
    refine State.entry_congr ?_ i
    unfold State.lineRestart; split <;> simp
  rw [tail]
  have settled (u : State) : (if u.settings.roles.export_ ≠ s.settings.roles.export_ then
      ({ u with esu := Settlement.settleSilent { u.esu with baseline := none } u.meterIsSilent } : State)
      else u).entry i = u.entry i := by split <;> rfl
  unfold State.settlementChange
  dsimp only
  rw [settled, hset]
  split
  · rw [State.capBoosts, State.mapBoosts_entry, State.entry_congr hot, hset]
  · rw [State.map_boosted_id, State.entry_congr hot]

/-! ## What can happen to a slot -/

/-- What a run can make of an entry: another grant, and ACTIVE from PENDING (R59). -/
def Offtake.RanTo (e f : Offtake) : Prop :=
  f = { e with grant := f.grant, state := f.state } ∧
    (f.state = e.state ∨ (e.state = .pending ∧ f.state = .active))

/-- A record that passes its check and holds an entry of a number. -/
def Checked.carries (r : Checked StoredOfftake) (number : Nat) : Prop :=
  r.good = true ∧ r.value.number = number ∧ r.value.state ≠ 0

/-- What a command or event can make of a slot and its record. -/
inductive SlotChange (c : Instr) (s t : State) (i : Fin 48) : Prop
  | stands (entry : t.entry i = s.entry i) (record : t.record i = s.record i)
  | filled (e : Offtake) (up : s.startingUp = false) (linked : s.cl.standalone = false)
      (outside : s.isProtected i = false) (free : s.entry i = none) (entry : t.entry i = some e)
      (fresh : s.findOfftake e.number = none) (range : 1 ≤ e.number ∧ e.number ≤ 65535)
      (boost : e.boost = 0) (record : (t.record i).carries e.number)
  | rewritten (e f : Offtake) (linked : s.cl.standalone = false) (outside : s.isProtected i = false)
      (before : s.entry i = some e) (entry : t.entry i = some f) (number : f.number = e.number)
      (boost : f.boost = 0 ∨ (f.boost = e.boost ∧ f.use = e.use ∧ (e.takesPart = true → f.takesPart = true)))
      (record : (t.record i).carries f.number)
  | demanded (e : Offtake) (kw : Nat) (linked : s.cl.standalone = false) (before : s.entry i = some e)
      (entry : t.entry i = some { e with demand := kw }) (record : t.record i = s.record i)
  | ran (e f : Offtake) (completes : c = .runCompletion) (before : s.entry i = some e)
      (entry : t.entry i = some f) (move : e.RanTo f)
      (record : t.record i = s.record i ∨ (t.record i).carries f.number)
  | freed (completes : c = .runCompletion) (retiring : ∃ r ∈ s.ae.run, i ∈ r.retiring)
      (entry : t.entry i = none) (record : t.record i = ⟨StoredOfftake.free, true⟩)

/-- What a command or event can make of the table: changes slot by slot under one boost maximum, filling one
FREE slot at most, or a change of all boosts. -/
inductive TableChange (c : Instr) (s t : State) : Prop
  | slots (boostMax : t.settings.boostMax = s.settings.boostMax) (slot : ∀ i, SlotChange c s t i)
      (once : ∀ i j, s.entry i = none → t.entry i ≠ none → s.entry j = none → t.entry j ≠ none → i = j)
  | boosts (f : Nat → Nat) (move : BoostMove s t f)
      (entry : ∀ i, t.entry i = (s.entry i).map (Offtake.boosted f)) (record : ∀ i, t.record i = s.record i)

theorem SlotChange.before {c : Instr} {s t : State} {i : Fin 48} {l : Link}
    (hl : l.standalone = s.cl.standalone) (h : SlotChange c { s with cl := l } t i) : SlotChange c s t i := by
  cases h with
  | stands entry record => exact .stands entry record
  | filled e up linked outside free entry fresh range boost record =>
    exact .filled e up (hl ▸ linked) outside free entry fresh range boost record
  | rewritten e f linked outside before entry number boost record =>
    exact .rewritten e f (hl ▸ linked) outside before entry number boost record
  | demanded e kw linked before entry record => exact .demanded e kw (hl ▸ linked) before entry record
  | ran e f completes before entry move record => exact .ran e f completes before entry move record
  | freed completes retiring entry record => exact .freed completes retiring entry record

theorem SlotChange.after_ {c : Instr} {s t : State} {i : Fin 48} {l : Link} (h : SlotChange c s t i) :
    SlotChange c s { t with cl := l } i := by
  cases h with
  | stands entry record => exact .stands entry record
  | filled e up linked outside free entry fresh range boost record =>
    exact .filled e up linked outside free entry fresh range boost record
  | rewritten e f linked outside before entry number boost record =>
    exact .rewritten e f linked outside before entry number boost record
  | demanded e kw linked before entry record => exact .demanded e kw linked before entry record
  | ran e f completes before entry move record => exact .ran e f completes before entry move record
  | freed completes retiring entry record => exact .freed completes retiring entry record

theorem TableChange.linked (c : Instr) : Linked (TableChange c) where
  refl s := .slots rfl (fun _ => .stands rfl rfl) fun _ _ hi hti => absurd hi hti
  before l hl h := by
    cases h with
    | slots boostMax slot once => exact .slots boostMax (fun i => (slot i).before hl) once
    | boosts f move entry record =>
      exact .boosts f ⟨move.bounded, fun k => move.standalone (hl.trans k)⟩ entry record
  after_ l h := by
    cases h with
    | slots boostMax slot once => exact .slots boostMax (fun i => (slot i).after_) once
    | boosts f move entry record => exact .boosts f ⟨move.bounded, move.standalone⟩ entry record

/-- Table, records and boost maximum stand. -/
theorem TableChange.of_eq {c : Instr} {s t : State} (entries : t.ot.entries = s.ot.entries)
    (records : t.store.offtakes = s.store.offtakes) (boostMax : t.settings.boostMax = s.settings.boostMax) :
    TableChange c s t :=
  have entry (i : Fin 48) : t.entry i = s.entry i := by simp [State.entry, entries]
  .slots boostMax (fun i => .stands (entry i) (State.record_congr records i))
    fun i _ hi hti => absurd ((entry i).trans hi) hti

/-- One slot is written with its record. -/
theorem TableChange.of_write {c : Instr} {s t : State} {i : Fin 48} {e : Option Offtake}
    (entries : t.ot.entries = (s.writeEntry i e).ot.entries)
    (records : t.store.offtakes = (s.writeEntry i e).store.offtakes)
    (boostMax : t.settings.boostMax = s.settings.boostMax)
    (h : t.entry i = e → t.record i = ⟨storedOfftake e, true⟩ → SlotChange c s t i) : TableChange c s t := by
  have hentry (j : Fin 48) : t.entry j = (s.writeEntry i e).entry j := by simp [State.entry, entries]
  have hrecord (j : Fin 48) : t.record j = (s.writeEntry i e).record j := State.record_congr records j
  have other (j : Fin 48) (hj : ¬ i = j) : t.entry j = s.entry j := by
    rw [hentry, State.entry_writeEntry, if_neg hj]
  have filled (j : Fin 48) (hj : s.entry j = none) (htj : t.entry j ≠ none) : i = j := by
    by_contra hij
    exact htj ((other j hij).trans hj)
  refine .slots boostMax (fun j => ?_) fun j k hj htj hk htk => (filled j hj htj).symm.trans (filled k hk htk)
  by_cases hj : i = j
  · subst hj
    exact h (by rw [hentry, State.entry_writeEntry, if_pos rfl])
      (by rw [hrecord, State.record_writeEntry, if_pos rfl])
  · exact .stands (other j hj) (by rw [hrecord, State.record_writeEntry, if_neg hj])

/-- No FREE slot is filled. -/
theorem TableChange.of_free {c : Instr} {s t : State} (boostMax : t.settings.boostMax = s.settings.boostMax)
    (slot : ∀ i, SlotChange c s t i) (free : ∀ i, s.entry i = none → t.entry i = none) : TableChange c s t :=
  .slots boostMax slot fun i _ hi hti => absurd (free i hi) hti

theorem OfftakeState.code_ne_zero (st : OfftakeState) : st.code ≠ 0 := by cases st <;> decide

/-- The record an entry is written with carries its number (R46). -/
theorem carries_stored (e : Offtake) : Checked.carries ⟨storedOfftake (some e), true⟩ e.number :=
  ⟨rfl, rfl, e.state.code_ne_zero⟩

/-- An unprotected entry is rewritten outside standalone operation. -/
theorem TableChange.of_rewrite {c : Instr} {s : State} {i : Fin 48} {e f : Offtake} {t : State}
    (linked : s.cl.standalone = false) (outside : s.isProtected i = false) (before : s.entry i = some e)
    (entries : t.ot.entries = (s.writeEntry i (some f)).ot.entries)
    (records : t.store.offtakes = (s.writeEntry i (some f)).store.offtakes)
    (boostMax : t.settings.boostMax = s.settings.boostMax) (number : f.number = e.number)
    (boost : f.boost = 0 ∨ (f.boost = e.boost ∧ f.use = e.use ∧ (e.takesPart = true → f.takesPart = true))) :
    TableChange c s t :=
  .of_write entries records boostMax fun entry record =>
    .rewritten e f linked outside before entry number boost (record ▸ carries_stored f)

/-! ## The commands -/

theorem beNat_lt (p : List Byte) : beNat p < 256 ^ p.length := by
  have := congrArg beNat (beBytes_beNat p)
  rw [beNat_beBytes] at this
  rw [← this]
  exact Nat.mod_lt _ (by positivity)

/-- A field of a form lies below what its bytes hold (R174). -/
theorem splitFields_lt {w : Nat} {ws : List Nat} {p : List Byte} {n : Nat} {ns : List Nat}
    (h : splitFields (w :: ws) p = some (n :: ns)) : n < 256 ^ w ∧ ∃ q, splitFields ws q = some ns := by
  rw [splitFields] at h
  split at h
  · cases h
  · next hw =>
    obtain ⟨ms, hms, heq⟩ := Option.map_eq_some_iff.1 h
    obtain ⟨rfl, rfl⟩ := List.cons.inj heq
    refine ⟨?_, _, hms⟩
    have := beNat_lt (p.take w)
    rwa [List.length_take, Nat.min_eq_left (Nat.le_of_not_lt hw)] at this

theorem AdmitRequest.read_number_lt {p : List Byte} {r : AdmitRequest} (h : AdmitRequest.read p = some r) :
    r.number < 65536 := by
  unfold AdmitRequest.read at h
  split at h
  · next hp =>
    obtain rfl := Option.some.inj h
    exact (splitFields_lt hp).1
  · cases h

theorem admitCommand_table {c : Instr} {p : List Byte} {s : State} (up : s.startingUp = false)
    (linked : s.cl.standalone = false) : TableChange c s (admitCommand p s).state := by
  rcases admitCommand_cases p s with h | ⟨r, e, i, hr, he, hfind, hfree, outside, h⟩ <;> rw [h]
  · exact .of_eq rfl rfl rfl
  · obtain ⟨number, -, -, boost, hne⟩ := AdmitRequest.entry_fresh he
    have := AdmitRequest.read_number_lt hr
    refine .of_write (i := i) (e := some e) rfl (by simp) rfl fun entry record => ?_
    exact .filled e up linked outside hfree entry (by rwa [number]) ⟨by omega, by omega⟩ boost
      (record ▸ carries_stored e)

theorem amendCommand_table {c : Instr} {p : List Byte} {s : State} (linked : s.cl.standalone = false) :
    TableChange c s (amendCommand p s).state := by
  rcases amendCommand_cases p s with h | ⟨r, i, e, hf, outside, h⟩ <;> rw [h]
  · exact .of_eq rfl rfl rfl
  · exact .of_rewrite linked outside (State.findOfftake_some hf).2.1 rfl rfl rfl rfl
      (.inr ⟨rfl, rfl, id⟩)

theorem suspendEntry_table {c : Instr} {s : State} {i : Fin 48} {e : Offtake}
    (linked : s.cl.standalone = false) (before : s.entry i = some e) (outside : s.isProtected i = false) :
    TableChange c s (suspendEntry s i e).state := by
  unfold suspendEntry
  split
  · exact .of_rewrite linked outside before (f := e.suspend) (by simp) (by simp) (by simp) rfl (.inl rfl)
  · exact .of_eq rfl rfl rfl

theorem reinstateEntry_table {c : Instr} {s : State} {i : Fin 48} {e : Offtake}
    (linked : s.cl.standalone = false) (before : s.entry i = some e) (outside : s.isProtected i = false) :
    TableChange c s (reinstateEntry s i e).state := by
  unfold reinstateEntry
  split
  · exact .of_rewrite linked outside before (f := { e with state := .pending }) rfl rfl rfl rfl
      (.inr ⟨rfl, rfl, fun _ => rfl⟩)
  · exact .of_eq rfl rfl rfl

theorem retireEntry_table {c : Instr} {s : State} {i : Fin 48} {e : Offtake}
    (linked : s.cl.standalone = false) (before : s.entry i = some e) (outside : s.isProtected i = false) :
    TableChange c s (retireEntry s i e).state := by
  unfold retireEntry
  split
  · exact .of_eq rfl rfl rfl
  · exact .of_rewrite linked outside before (f := { e with state := .retiring, boost := 0 }) rfl rfl rfl rfl
      (.inl rfl)

/-- The entry differs from another in its demand at most. -/
def Offtake.Demands (e f : Offtake) : Prop := ∃ kw, f = { e with demand := kw }

/-- SET DEMAND changes demands and nothing else (R27). -/
theorem State.takeDemands_entry (s : State) (l : List (Nat × Nat)) (i : Fin 48) :
    ((s.takeDemands l).2.entry i = s.entry i ∨
      ∃ e kw, s.entry i = some e ∧ (s.takeDemands l).2.entry i = some { e with demand := kw }) ∧
    (s.takeDemands l).2.record i = s.record i := by
  induction l generalizing s with
  | nil => exact ⟨.inl rfl, rfl⟩
  | cons a l ih =>
    obtain ⟨hentry, hrecord⟩ := ih (s.takeDemand a.1 a.2).2
    have one : (((s.takeDemand a.1 a.2).2.entry i = s.entry i) ∨
        ∃ e kw, s.entry i = some e ∧ (s.takeDemand a.1 a.2).2.entry i = some { e with demand := kw }) ∧
        (s.takeDemand a.1 a.2).2.record i = s.record i := by
      unfold State.takeDemand
      split
      · exact ⟨.inl rfl, rfl⟩
      · next j e hf =>
        rw [State.entry_setEntry, State.record_setEntry]
        split
        · next hj => exact ⟨.inr ⟨e, _, hj ▸ (State.findOfftake_some hf).2.1, rfl⟩, rfl⟩
        · exact ⟨.inl rfl, rfl⟩
    obtain ⟨hone, hrec⟩ := one
    refine ⟨?_, hrecord.trans hrec⟩
    rcases hone with hone | ⟨e, kw, he, hone⟩
    · rw [hone] at hentry
      exact hentry
    · rcases hentry with hentry | ⟨f, kw', hf, hentry⟩
      · exact .inr ⟨e, kw, he, hentry.trans hone⟩
      · obtain rfl := Option.some.inj (hone.symm.trans hf)
        exact .inr ⟨e, kw', he, hentry⟩

@[simp] theorem State.takeDemands_settings (s : State) (l : List (Nat × Nat)) :
    (s.takeDemands l).2.settings = s.settings := by
  induction l generalizing s with
  | nil => rfl
  | cons a l ih =>
    refine (ih (s.takeDemand a.1 a.2).2).trans ?_
    unfold State.takeDemand
    split <;> rfl

theorem setDemandCommand_table {c : Instr} {p : List Byte} {s : State} (linked : s.cl.standalone = false) :
    TableChange c s (setDemandCommand p s).state := by
  unfold setDemandCommand
  (repeat' split)
  · exact .of_eq rfl rfl rfl
  · exact .of_eq rfl rfl rfl
  · next l _ _ =>
    refine .of_free (by simp) (fun i => ?_) fun i hi => ?_
    · obtain ⟨hentry | ⟨e, kw, he, hentry⟩, hrecord⟩ := s.takeDemands_entry l i
      · exact .stands hentry hrecord
      · exact .demanded e kw linked he hentry hrecord
    · obtain ⟨hentry | ⟨e, kw, he, -⟩, -⟩ := s.takeDemands_entry l i
      · exact hentry.trans hi
      · rw [hi] at he; cases he

theorem BoostMove.zero (s t : State) : BoostMove s t fun _ => 0 := ⟨fun _ _ => Nat.zero_le _, fun _ => rfl⟩

theorem stopSettlementCommand_table {c : Instr} (s : State) : TableChange c s (stopSettlementCommand s).state := by
  unfold stopSettlementCommand
  split
  · exact .of_eq rfl rfl rfl
  · exact .boosts _ (.zero _ _) (fun i => State.mapBoosts_entry _ _ i) fun _ => rfl

theorem State.applyUnsaved_table {c : Instr} (s : State) (b : Bool) (d : Settings) :
    TableChange c s ((s.setUnsaved b).applySettings d) := by
  refine .boosts _ ⟨fun b hb => ?_, fun _ => ?_⟩ (State.applySettings_entry _ d)
    fun i => State.record_congr (by simp) i
  · rw [State.applySettings_settings]
    split
    · exact Nat.min_le_right _ _
    · next h => exact (by simpa using h : d.boostMax = s.settings.boostMax) ▸ hb
  · split <;> simp

theorem setSettingCommand_table {c : Instr} (p : List Byte) (s : State) :
    TableChange c s (setSettingCommand p s).state := by
  rcases setSettingCommand_cases p s with h | ⟨l, d, -, -, -, -, -, h⟩ <;> rw [h]
  · exact .of_eq rfl rfl rfl
  · exact s.applyUnsaved_table true d

theorem restoreCommand_table {c : Instr} (s : State) : TableChange c s (restoreCommand s).state := by
  rcases restoreCommand_cases s with h | ⟨b, -, h⟩ <;> rw [h]
  · exact .of_eq rfl rfl rfl
  · exact s.applyUnsaved_table b _

theorem setPollListCommand_table {c : Instr} (p : List Byte) (s : State) :
    TableChange c s (setPollListCommand p s).state := by
  rcases setPollListCommand_cases p s with h | ⟨l, h⟩ | ⟨l, h⟩ <;> rw [h]
  · exact .of_eq rfl rfl rfl
  · exact .of_eq rfl rfl rfl
  · have frame := s.putListInForce_within l
    refine .of_eq (frame .entries (by simp)) (frame .records (by simp)) ?_
    simp [State.putListInForce]

theorem setAlertMaskCommand_table {c : Instr} (p : List Byte) (s : State) :
    TableChange c s (setAlertMaskCommand p s).state := by
  unfold setAlertMaskCommand
  (repeat' split) <;> exact .of_eq rfl rfl rfl

theorem setProtectionCommand_table {c : Instr} (p : List Byte) (s : State) :
    TableChange c s (setProtectionCommand p s).state := by
  unfold setProtectionCommand
  (repeat' split) <;> exact .of_eq rfl rfl rfl

/-! ## The completion of a run -/

theorem Offtake.RanTo.refl (e : Offtake) : e.RanTo e := ⟨rfl, .inl rfl⟩

theorem Offtake.RanTo.trans {e f g : Offtake} (h : e.RanTo f) (k : f.RanTo g) : e.RanTo g := by
  obtain ⟨hf, hs⟩ := h
  obtain ⟨hg, ks⟩ := k
  refine ⟨hg.trans (by rw [hf]), ?_⟩
  rcases ks with ks | ⟨ks, kt⟩
  · rw [ks]; exact hs
  · rcases hs with hs | ⟨-, ht⟩
    · exact .inr ⟨hs ▸ ks, kt⟩
    · rw [ht] at ks; cases ks

theorem Offtake.published_ranTo (e : Offtake) (p : RunPart) (n : Nat) : e.RanTo (e.published p n) := by
  refine ⟨rfl, ?_⟩
  simp only [Offtake.published]
  split
  · next h => exact .inr ⟨h, rfl⟩
  · exact .inl rfl

theorem State.publishParts_cons (s : State) (n : Nat) (p : RunPart) (ps : List RunPart) :
    s.publishParts n (p :: ps) = (s.publishPart n p).publishParts n ps := rfl

/-- What publishing makes of a slot: nothing, or a run's change with a record that stands or is written. -/
theorem State.publishParts_slot (s : State) (n : Nat) (ps : List RunPart) (i : Fin 48) :
    ((s.publishParts n ps).entry i = s.entry i ∧ (s.publishParts n ps).record i = s.record i) ∨
    ∃ e f, s.entry i = some e ∧ (s.publishParts n ps).entry i = some f ∧ e.RanTo f ∧
      ((s.publishParts n ps).record i = s.record i ∨ ((s.publishParts n ps).record i).carries f.number) := by
  induction ps generalizing s with
  | nil => exact .inl ⟨rfl, rfl⟩
  | cons p ps ih =>
    have hrest := ih (s.publishPart n p)
    rw [State.publishParts_cons]
    by_cases hp : p.released = false ∧ p.slot = i
    · obtain ⟨hrel, rfl⟩ := hp
      cases he : s.entry p.slot with
      | none =>
        have hsame : s.publishPart n p = s := by simp [State.publishPart, hrel, he]
        rw [hsame, he] at hrest
        rw [hsame]
        exact hrest
      | some e =>
        have hone : (s.publishPart n p).entry p.slot = some (e.published p n) := by
          rw [State.entry_publishPart, if_pos ⟨hrel, rfl⟩, he]; rfl
        have hrec : (s.publishPart n p).record p.slot = s.record p.slot ∨
            ((s.publishPart n p).record p.slot).carries e.number := by
          rw [State.record_publishPart]
          split
          · rw [hone]; exact .inr (carries_stored (e.published p n))
          · exact .inl rfl
        rcases hrest with ⟨hentry, hrecord⟩ | ⟨f, g, hf, hg, move, hrecord⟩
        · exact .inr ⟨e, _, rfl, hentry.trans hone, e.published_ranTo p n, hrecord ▸ hrec⟩
        · obtain rfl := Option.some.inj (hone.symm.trans hf)
          refine .inr ⟨e, g, rfl, hg, (e.published_ranTo p n).trans move, ?_⟩
          rcases hrecord with hrecord | hrecord
          · rw [hrecord]
            have : g.number = e.number := by rw [move.1]; rfl
            rwa [this]
          · exact .inr hrecord
    · have hentry : (s.publishPart n p).entry i = s.entry i := by rw [State.entry_publishPart, if_neg hp]
      have hrecord : (s.publishPart n p).record i = s.record i := by
        rw [State.record_publishPart, if_neg fun h => hp ⟨h.1, h.2.1⟩]
      rw [hentry, hrecord] at hrest
      exact hrest

theorem State.completeRun_record (s : State) (r : Run) (i : Fin 48) :
    (s.completeRun r).record i = (s.publishedBy r).record i :=
  State.record_congr (by rw [State.completeRun_store]) i

theorem State.completeRun_slot {s : State} {r : Run} (hr : s.ae.run = some r) (i : Fin 48) :
    SlotChange .runCompletion s (s.completeRun r) i ∧
      (s.entry i = none → (s.completeRun r).entry i = none) := by
  have hentry := s.completeRun_entry r i
  have hrecord := s.completeRun_record r i
  by_cases hret : i ∈ r.retiring
  · obtain ⟨he, hrec⟩ := s.publishedBy_retired hret
    exact ⟨.freed rfl ⟨r, hr, hret⟩ (hentry.trans he) (hrecord.trans hrec), fun _ => hentry.trans he⟩
  · unfold State.publishedBy at hentry hrecord
    rw [State.entry_freeSlots, if_neg hret] at hentry
    rw [State.record_freeSlots, if_neg hret] at hrecord
    rcases s.integrateFlare.publishParts_slot s.ae.runNumber r.compute.2 i with
      ⟨he, hrec⟩ | ⟨e, f, hbefore, he, move, hrec⟩
    · rw [he, State.integrateFlare_entry] at hentry
      exact ⟨.stands hentry (hrecord.trans (hrec.trans (s.integrateFlare_record i))), hentry.trans⟩
    · rw [State.integrateFlare_entry] at hbefore
      rw [← hrecord, State.integrateFlare_record] at hrec
      exact ⟨.ran e f rfl hbefore (hentry.trans he) move hrec, fun h => by rw [h] at hbefore; cases hbefore⟩

theorem State.completeRun_table {s : State} {r : Run} (hr : s.ae.run = some r) :
    TableChange .runCompletion s (s.completeRun r) :=
  .of_free (by simp) (fun i => (State.completeRun_slot hr i).1) fun i => (State.completeRun_slot hr i).2

theorem State.enterStandalone_entry (s : State) (i : Fin 48) :
    s.enterStandalone.entry i = (s.entry i).map (Offtake.boosted fun _ => 0) := by
  have requested (u : State) : u.requestRun.entry i = u.entry i := State.entry_congr (by simp) i
  unfold State.enterStandalone
  exact (requested _).trans (State.mapBoosts_entry _ _ i)

/-! ## Every command and event -/

/-- What any command or event but a reset can make of the offtake table and its records. -/
theorem exec_table {c : Instr} {s t : State} (hc : isReset c = false) (h : exec c s = .next t) :
    TableChange c s t := by
  have L := TableChange.linked c
  by_cases untouched : .entries ∉ touched c ∧ .settings ∉ touched c
  · have records : .records ∉ touched c := by
      cases c <;> simp [touched] at untouched ⊢
    exact .of_eq (exec_within h .entries untouched.1) (exec_within h .records records)
      (congrArg Settings.boostMax (exec_within h .settings untouched.2))
  cases c <;> simp [touched] at untouched <;> simp only [isReset, Bool.true_eq_false] at hc <;>
    obtain rfl := Host.Outcome.next.inj h
  case setSetting p => exact L.takeFrame s fun _ => L.gated fun _ => setSettingCommand_table p _
  case restoreSettings p => exact L.takeFrame s fun _ => L.gated fun _ => L.bare (restoreCommand_table _)
  case setPollList p => exact L.takeFrame s fun _ => L.gated fun _ => setPollListCommand_table p _
  case setAlertMask p => exact L.takeFrame s fun _ => L.gated fun _ => setAlertMaskCommand_table p _
  case setProtection p => exact L.takeFrame s fun _ => L.gated fun _ => setProtectionCommand_table p _
  case admitOfftake p =>
    exact L.takeFrame s fun k => L.gated fun hl => admitCommand_table (by simpa using k.1) hl
  case amendOfftake p => exact L.takeFrame s fun _ => L.gated fun hl => amendCommand_table hl
  case suspendOfftake p =>
    exact L.takeFrame s fun _ => L.gated fun hl => L.namedOfftake fun i e hi hp => suspendEntry_table hl hi hp
  case reinstateOfftake p =>
    exact L.takeFrame s fun _ => L.gated fun hl => L.namedOfftake fun i e hi hp => reinstateEntry_table hl hi hp
  case retireOfftake p =>
    exact L.takeFrame s fun _ => L.gated fun hl => L.namedOfftake fun i e hi hp => retireEntry_table hl hi hp
  case setDemand p => exact L.takeFrame s fun _ => L.gated fun hl => setDemandCommand_table hl
  case stopSettlement p =>
    exact L.takeFrame s fun _ => L.gated fun _ => L.bare (stopSettlementCommand_table _)
  case runCompletion =>
    split
    · exact L.refl s
    · next r hr => exact State.completeRun_table hr
  case linkSilenceTimerExpiry =>
    split
    · exact L.refl s
    · next e _ =>
      refine .boosts _ (.zero _ _) (fun i => ?_) fun i => State.record_congr (by simp) i
      rw [State.enterStandalone_entry, State.entry_congr (s := s) (t := s.atExpiry e) (by simp) i]
  case reportComplete report =>
    split
    · obtain ⟨f, hf, hentry⟩ := State.takeReport_boosts s.beginGap s.flc.queried _
      exact .boosts f ⟨hf.bounded, hf.standalone⟩ hentry fun i => State.record_congr (by simp) i
    · exact L.refl s

end Sys2Proof.Machine
end

section
/-! PROOF. The laws of the offtake table over every command and event: boosts in range, the terms that stand
in standalone operation and under protection, and numbers that stay unique over resets (O14, O25, O26,
O37). -/

namespace Sys2Proof.Machine

/-! ## Boosts -/

theorem Offtake.takesPart_ranTo {e f : Offtake} (h : e.RanTo f) : f.takesPart = e.takesPart := by
  rcases h.2 with hs | ⟨he, hf⟩
  · simp [Offtake.takesPart, hs]
  · simp [Offtake.takesPart, he, hf]

theorem SlotChange.boost {c : Instr} {s t : State} {i : Fin 48} (h : SlotChange c s t i) {m : Nat}
    (range : ∀ e ∈ s.entry i, e.boost ≤ m ∧ ((Use.isPower e.use && e.takesPart) = false → e.boost = 0)) :
    ∀ f ∈ t.entry i, f.boost ≤ m ∧ ((Use.isPower f.use && f.takesPart) = false → f.boost = 0) := by
  intro f hf
  cases h with
  | stands entry _ => exact range f (entry ▸ hf)
  | filled e _ _ _ _ entry _ _ boost _ =>
    obtain rfl := Option.some.inj (entry.symm.trans hf)
    rw [boost]
    exact ⟨Nat.zero_le _, fun _ => rfl⟩
  | rewritten e g _ _ before entry _ boost _ =>
    obtain rfl := Option.some.inj (entry.symm.trans hf)
    rcases boost with boost | ⟨boost, huse, htakes⟩
    · rw [boost]
      exact ⟨Nat.zero_le _, fun _ => rfl⟩
    · obtain ⟨hle, hzero⟩ := range e before
      rw [boost, huse]
      refine ⟨hle, fun hno => hzero ?_⟩
      cases hp : Use.isPower e.use
      · rfl
      · cases ht : e.takesPart
        · rfl
        · rw [hp, htakes ht] at hno; cases hno
  | demanded e kw _ before entry _ =>
    obtain rfl := Option.some.inj (entry.symm.trans hf)
    exact range e before
  | ran e g _ before entry move _ =>
    obtain rfl := Option.some.inj (entry.symm.trans hf)
    have takes := Offtake.takesPart_ranTo move
    rw [takes, move.1]
    exact range e before
  | freed _ _ entry _ => rw [entry] at hf; cases hf

theorem TableChange.boosts_in_range {c : Instr} {s t : State} (h : TableChange c s t) (range : s.BoostsInRange) :
    t.BoostsInRange := by
  intro i f hf
  cases h with
  | slots boostMax slot _ =>
    rw [boostMax]
    exact (slot i).boost (range i) f hf
  | boosts g move entry _ =>
    obtain ⟨e, he, rfl⟩ := Option.map_eq_some_iff.1 ((entry i).symm.trans hf)
    obtain ⟨hle, hzero⟩ := range i e he
    obtain ⟨hfields, hboost⟩ := Offtake.boosted_fields g e
    rw [hboost]
    have huse : (e.boosted g).use = e.use := by rw [hfields]
    have htakes : (e.boosted g).takesPart = e.takesPart := by rw [hfields]; rfl
    rw [huse, htakes]
    cases hp : Use.isPower e.use && e.takesPart
    · have := hzero hp
      simp [this]
    · exact ⟨move.bounded _ hle, fun k => by cases k⟩

theorem exec_boostsInRange {c : Instr} {s t : State} (sound : s.EngineSound) (range : s.BoostsInRange)
    (h : exec c s = .next t) : t.BoostsInRange := by
  cases hc : isReset c with
  | false => exact (exec_table hc h).boosts_in_range range
  | true =>
    rcases exec_reset_cases hc h with ⟨r, torn, rfl⟩ | ⟨hup, ht⟩ | rfl | ⟨l, rfl, -⟩
    · exact (s.beginReset_quiet r torn).blank.boosts
    · rw [ht]
      exact (State.startUp_blank (sound.2.2.2 hup)).boosts
    · exact range
    · exact range

/-- Settles O37, from what can happen to a slot. -/
theorem boostsStayInRange : Obligations.BoostsStayInRange := by
  intro s t sound range h
  rcases step_cases h with ⟨c, rest, picks, h⟩ | rfl
  · exact exec_boostsInRange (s := { s with pending := rest, picks := picks }) sound range h
  · exact range

/-! ## Standalone operation and protection -/

theorem Offtake.sameTerms_refl (e : Offtake) : e.sameTerms e := ⟨rfl, rfl, rfl, rfl, rfl, rfl, rfl, rfl⟩

theorem Offtake.RanTo.sameTerms {e f : Offtake} (h : e.RanTo f) : e.sameTerms f := by
  rw [h.1]
  exact e.sameTerms_refl

theorem Offtake.sameTerms_boosted (g : Nat → Nat) (e : Offtake) : e.sameTerms (e.boosted g) := by
  rw [(Offtake.boosted_fields g e).1]
  exact e.sameTerms_refl

/-- Settles O14: outside runs and boost changes every change of a slot is refused in standalone operation. -/
theorem standaloneKeepsTermsAndDemands : Obligations.StandaloneKeepsTermsAndDemands := by
  intro c s t alone _ hc zero h i f hf
  have refused {p : Prop} (linked : s.cl.standalone = false) : p := by rw [alone] at linked; cases linked
  cases exec_table hc h with
  | slots _ slot _ =>
    cases slot i with
    | stands entry _ =>
      rw [entry] at hf
      exact ⟨zero i f hf, f, hf, f.sameTerms_refl, rfl, rfl⟩
    | filled e _ linked => exact refused linked
    | rewritten e g linked => exact refused linked
    | demanded e kw linked => exact refused linked
    | ran e g _ before entry move _ =>
      obtain rfl := Option.some.inj (entry.symm.trans hf)
      refine ⟨?_, e, before, move.sameTerms, ?_, ?_⟩ <;> rw [move.1]
      exact zero i e before
    | freed _ _ entry _ => rw [entry] at hf; cases hf
  | boosts g move entry _ =>
    obtain ⟨e, he, rfl⟩ := Option.map_eq_some_iff.1 ((entry i).symm.trans hf)
    obtain ⟨hfields, hboost⟩ := Offtake.boosted_fields g e
    refine ⟨?_, e, he, e.sameTerms_boosted g, ?_, ?_⟩
    · rw [hboost, zero i e he, move.standalone alone]
      split <;> rfl
    · rw [hfields]
    · rw [hfields]

/-- Settles O25: what changes terms or fills a slot refuses a protected one; a run frees the slots of its
retiring set alone. -/
theorem theBandProtectsItsEntries : Obligations.TheBandProtectsItsEntries := by
  intro c s t i sound _ hc inside h
  have refused {p : Prop} (outside : s.isProtected i = false) : p := by
    rw [inside] at outside; cases outside
  cases exec_table hc h with
  | slots _ slot _ =>
    cases slot i with
    | stands entry _ =>
      refine ⟨fun hi => entry.trans hi, fun e he => .inl ⟨e, entry.trans he, e.sameTerms_refl, rfl, .inl rfl⟩⟩
    | filled e _ _ outside => exact refused outside
    | rewritten e g _ outside => exact refused outside
    | demanded e kw _ before entry _ =>
      refine ⟨fun hi => by simp [hi] at before, fun f hf => ?_⟩
      obtain rfl := Option.some.inj (before.symm.trans hf)
      exact .inl ⟨_, entry, e.sameTerms_refl, rfl, .inl rfl⟩
    | ran e g completes before entry move _ =>
      refine ⟨fun hi => by simp [hi] at before, fun f hf => ?_⟩
      obtain rfl := Option.some.inj (before.symm.trans hf)
      exact .inl ⟨g, entry, move.sameTerms, by rw [move.1],
        move.2.imp id fun hs => ⟨completes, hs.1, hs.2⟩⟩
    | freed completes retiring entry _ =>
      refine ⟨fun _ => entry, fun e he => .inr ⟨entry, completes, ?_⟩⟩
      obtain ⟨r, hr, hi⟩ := retiring
      exact ((sound.2.1 r hr).2.2.2.1 i hi).2 e he
  | boosts g move entry _ =>
    refine ⟨fun hi => by rw [entry, hi]; rfl, fun e he => .inl ⟨e.boosted g, ?_, e.sameTerms_boosted g, ?_, .inl ?_⟩⟩
    · rw [entry, Option.mem_def.1 he]; rfl
    all_goals rw [(Offtake.boosted_fields g e).1]

end Sys2Proof.Machine
end

section
/-! PROOF. The offtake table over a reset: what start-up makes of good and failing records, and the law that
a number names one slot (2.6, 2.9; O26). -/

namespace Sys2Proof.Machine

/-! ## The loads of the offtake records -/

theorem State.record_loadGoodOfftake (s : State) (i j : Fin 48) : (s.loadGoodOfftake i).record j =
    if i = j ∧ (s.record i).good = true ∧ (s.record i).value.state = 2
    then ⟨storedOfftake (StoredOfftake.reloaded (s.record i).value), true⟩ else s.record j := by
  rw [State.loadGoodOfftake_eq]
  split
  · next hg =>
    split
    · next hs => rw [State.record_writeEntry]; simp [hg, hs]
    · next hs => rw [State.record_setEntry]; simp [hs]
  · next hg => simp [hg]

theorem State.record_loadFailingOfftake (s : State) (i j : Fin 48) : (s.loadFailingOfftake i).record j =
    if i = j ∧ (s.record i).good = false
    then ⟨storedOfftake (s.damagedOfftake (s.record i).value), true⟩ else s.record j := by
  rw [State.loadFailingOfftake_eq]
  split
  · next hg => simp [hg]
  · next hg => rw [State.raise_record, State.record_writeEntry]; simp [hg]

/-- All good records loaded: each slot of the list whose record passes holds what that record gives, and a
record stored ACTIVE is written back (R47). -/
theorem State.loadGoodOfftakes_slot {is : List (Fin 48)} (hn : is.Nodup) (s : State) (j : Fin 48) :
    (is.foldl State.loadGoodOfftake s).entry j = (if j ∈ is ∧ (s.record j).good = true
      then StoredOfftake.reloaded (s.record j).value else s.entry j) ∧
    (is.foldl State.loadGoodOfftake s).record j =
      if j ∈ is ∧ (s.record j).good = true ∧ (s.record j).value.state = 2
      then ⟨storedOfftake (StoredOfftake.reloaded (s.record j).value), true⟩ else s.record j := by
  induction is generalizing s with
  | nil => simp
  | cons i is ih =>
    obtain ⟨hi, hn⟩ := List.nodup_cons.1 hn
    obtain ⟨hentry, hrecord⟩ := ih hn (s.loadGoodOfftake i)
    rw [List.foldl_cons, hentry, hrecord, State.entry_loadGoodOfftake, State.record_loadGoodOfftake]
    by_cases hj : i = j
    · subst hj
      simp [hi]
    · simp [hj, Ne.symm hj]

/-- Passing records leave the loading of failing ones nothing to do. -/
theorem State.loadFailingOfftake_of_good {s : State} {i : Fin 48} (h : (s.record i).good = true) :
    s.loadFailingOfftake i = s := by rw [State.loadFailingOfftake_eq, if_pos h]

@[simp] theorem State.loadCounter_record (s : State) (i : Fin 48) : s.loadCounter.record i = s.record i := by
  unfold State.loadCounter
  dsimp only
  (repeat' split) <;> rfl

@[simp] theorem State.loadGoodOfftake_stored (s : State) (i : Fin 48) :
    (s.loadGoodOfftake i).store.settings = s.store.settings ∧
    (s.loadGoodOfftake i).store.accounts = s.store.accounts ∧
    (s.loadGoodOfftake i).store.counter = s.store.counter ∧
    (s.loadGoodOfftake i).store.closeNumber = s.store.closeNumber ∧
    (s.loadGoodOfftake i).store.flare = s.store.flare ∧ (s.loadGoodOfftake i).store.lock = s.store.lock := by
  rw [State.loadGoodOfftake_eq]
  (repeat' split) <;> simp

@[simp] theorem State.loadFailingOfftake_stored (s : State) (i : Fin 48) :
    (s.loadFailingOfftake i).store.settings = s.store.settings ∧
    (s.loadFailingOfftake i).store.accounts = s.store.accounts ∧
    (s.loadFailingOfftake i).store.counter = s.store.counter ∧
    (s.loadFailingOfftake i).store.closeNumber = s.store.closeNumber ∧
    (s.loadFailingOfftake i).store.flare = s.store.flare ∧
    (s.loadFailingOfftake i).store.lock = s.store.lock := by
  rw [State.loadFailingOfftake_eq]
  split <;> simp

@[simp] theorem State.loadCounter_stored (s : State) :
    s.loadCounter.store.settings = s.store.settings ∧ s.loadCounter.store.offtakes = s.store.offtakes ∧
    s.loadCounter.store.accounts = s.store.accounts ∧ s.loadCounter.store.closeNumber = s.store.closeNumber ∧
    s.loadCounter.store.flare = s.store.flare ∧ s.loadCounter.store.lock = s.store.lock := by
  unfold State.loadCounter
  dsimp only
  (repeat' split) <;> simp

@[simp] theorem State.loadGoodOfftakes_stored (s : State) (is : List (Fin 48)) :
    (is.foldl State.loadGoodOfftake s).store.settings = s.store.settings ∧
    (is.foldl State.loadGoodOfftake s).store.accounts = s.store.accounts ∧
    (is.foldl State.loadGoodOfftake s).store.counter = s.store.counter ∧
    (is.foldl State.loadGoodOfftake s).store.closeNumber = s.store.closeNumber ∧
    (is.foldl State.loadGoodOfftake s).store.flare = s.store.flare ∧
    (is.foldl State.loadGoodOfftake s).store.lock = s.store.lock :=
  ⟨foldl_same (fun t : State => t.store.settings) (by simp) _ _,
   foldl_same (fun t : State => t.store.accounts) (by simp) _ _,
   foldl_same (fun t : State => t.store.counter) (by simp) _ _,
   foldl_same (fun t : State => t.store.closeNumber) (by simp) _ _,
   foldl_same (fun t : State => t.store.flare) (by simp) _ _,
   foldl_same (fun t : State => t.store.lock) (by simp) _ _⟩

@[simp] theorem State.loadFailingOfftakes_stored (s : State) (is : List (Fin 48)) :
    (is.foldl State.loadFailingOfftake s).store.settings = s.store.settings ∧
    (is.foldl State.loadFailingOfftake s).store.accounts = s.store.accounts ∧
    (is.foldl State.loadFailingOfftake s).store.counter = s.store.counter ∧
    (is.foldl State.loadFailingOfftake s).store.closeNumber = s.store.closeNumber ∧
    (is.foldl State.loadFailingOfftake s).store.flare = s.store.flare ∧
    (is.foldl State.loadFailingOfftake s).store.lock = s.store.lock :=
  ⟨foldl_same (fun t : State => t.store.settings) (by simp) _ _,
   foldl_same (fun t : State => t.store.accounts) (by simp) _ _,
   foldl_same (fun t : State => t.store.counter) (by simp) _ _,
   foldl_same (fun t : State => t.store.closeNumber) (by simp) _ _,
   foldl_same (fun t : State => t.store.flare) (by simp) _ _,
   foldl_same (fun t : State => t.store.lock) (by simp) _ _⟩

@[simp] theorem State.loadOfftakes_stored (s : State) :
    s.loadOfftakes.store.settings = s.store.settings ∧ s.loadOfftakes.store.accounts = s.store.accounts ∧
    s.loadOfftakes.store.closeNumber = s.store.closeNumber ∧ s.loadOfftakes.store.flare = s.store.flare ∧
    s.loadOfftakes.store.lock = s.store.lock := by
  simp [State.loadOfftakes]

@[simp] theorem State.loadFailingAccount_stored (s : State) (i : Fin 64) :
    (s.loadFailingAccount i).store.settings = s.store.settings ∧
    (s.loadFailingAccount i).store.offtakes = s.store.offtakes ∧
    (s.loadFailingAccount i).store.counter = s.store.counter ∧
    (s.loadFailingAccount i).store.closeNumber = s.store.closeNumber ∧
    (s.loadFailingAccount i).store.flare = s.store.flare ∧
    (s.loadFailingAccount i).store.lock = s.store.lock := by
  unfold State.loadFailingAccount
  dsimp only
  split <;> simp

@[simp] theorem State.loadFailingAccounts_stored (s : State) (is : List (Fin 64)) :
    (is.foldl State.loadFailingAccount s).store.settings = s.store.settings ∧
    (is.foldl State.loadFailingAccount s).store.offtakes = s.store.offtakes ∧
    (is.foldl State.loadFailingAccount s).store.counter = s.store.counter ∧
    (is.foldl State.loadFailingAccount s).store.closeNumber = s.store.closeNumber ∧
    (is.foldl State.loadFailingAccount s).store.flare = s.store.flare ∧
    (is.foldl State.loadFailingAccount s).store.lock = s.store.lock :=
  ⟨foldl_same (fun t : State => t.store.settings) (by simp) _ _,
   foldl_same (fun t : State => t.store.offtakes) (by simp) _ _,
   foldl_same (fun t : State => t.store.counter) (by simp) _ _,
   foldl_same (fun t : State => t.store.closeNumber) (by simp) _ _,
   foldl_same (fun t : State => t.store.flare) (by simp) _ _,
   foldl_same (fun t : State => t.store.lock) (by simp) _ _⟩

@[simp] theorem State.loadCloseNumber_stored (s : State) :
    (s.loadCloseNumber).store.settings = s.store.settings ∧
    (s.loadCloseNumber).store.offtakes = s.store.offtakes ∧
    (s.loadCloseNumber).store.accounts = s.store.accounts ∧
    (s.loadCloseNumber).store.counter = s.store.counter ∧
    (s.loadCloseNumber).store.flare = s.store.flare ∧ (s.loadCloseNumber).store.lock = s.store.lock := by
  unfold State.loadCloseNumber
  dsimp only
  split <;> simp

@[simp] theorem State.loadFlare_stored (s : State) :
    (s.loadFlare).store.settings = s.store.settings ∧ (s.loadFlare).store.offtakes = s.store.offtakes ∧
    (s.loadFlare).store.accounts = s.store.accounts ∧ (s.loadFlare).store.counter = s.store.counter ∧
    (s.loadFlare).store.closeNumber = s.store.closeNumber ∧ (s.loadFlare).store.lock = s.store.lock := by
  unfold State.loadFlare
  dsimp only
  split <;> simp

@[simp] theorem State.startUp_record (s : State) (i : Fin 48) :
    s.startUp.record i = s.settled.loadOfftakes.record i := by
  refine State.record_congr ?_ i
  rw [State.startUp_eq]
  unfold State.loaded State.loadAccounts
  split <;> simp [State.placeRoles, State.startTimers]

@[simp] theorem State.startUp_entry (s : State) (i : Fin 48) :
    s.startUp.entry i = s.settled.loadOfftakes.entry i := by simp [State.entry]

/-! ## The law of numbers -/

/-- The slot's record passes its check and holds the slot's number, or FREE (R46). -/
def State.SlotHeld (s : State) (i : Fin 48) : Prop :=
  (s.record i).good = true ∧ ((s.record i).value.state = 0 ↔ s.entry i = none) ∧
    ∀ e ∈ s.entry i, e.number = (s.record i).value.number ∧ 1 ≤ e.number ∧ e.number ≤ 65535

/-- The stored records that pass hold distinct numbers in range. -/
def State.RecordsApart (s : State) : Prop :=
  (∀ i j, (s.record i).good = true → (s.record i).value.state ≠ 0 → (s.record j).good = true →
    (s.record j).value.state ≠ 0 → (s.record i).value.number = (s.record j).value.number → i = j) ∧
  ∀ i, (s.record i).good = true → (s.record i).value.state ≠ 0 →
    1 ≤ (s.record i).value.number ∧ (s.record i).value.number ≤ 65535

theorem State.tableStored_of_up {s : State} (up : s.startingUp = false) (unique : s.NumbersUnique)
    (held : ∀ i, s.SlotHeld i) : s.TableStored := by
  have entry (i : Fin 48) (hs : (s.record i).value.state ≠ 0) :
      ∃ e, s.entry i = some e ∧ e.number = (s.record i).value.number ∧ 1 ≤ e.number ∧ e.number ≤ 65535 := by
    cases he : s.entry i with
    | none => exact absurd ((held i).2.1.2 he) hs
    | some e => exact ⟨e, rfl, (held i).2.2 e he⟩
  refine ⟨fun i j _ hi _ hj hij => ?_, fun i _ hi => ?_, fun k => Bool.noConfusion (up.symm.trans k), fun _ i => ?_⟩
  · obtain ⟨e, he, hen, -⟩ := entry i hi
    obtain ⟨f, hf, hfn, -⟩ := entry j hj
    exact unique i j e he f hf (hen.trans (hij.trans hfn.symm))
  · obtain ⟨e, -, hen, range⟩ := entry i hi
    change _ ≤ (s.record i).value.number ∧ (s.record i).value.number ≤ _
    rwa [← hen]
  · obtain ⟨good, free, number⟩ := held i
    exact ⟨good, free, fun e he => (number e he).1⟩

theorem State.TableStored.held {s : State} (up : s.startingUp = false) (h : s.TableStored) (i : Fin 48) :
    s.SlotHeld i := by
  obtain ⟨-, range, -, live⟩ := h
  obtain ⟨good, free, number⟩ := live up i
  refine ⟨good, free, fun e he => ⟨number e he, ?_⟩⟩
  have hs : (s.record i).value.state ≠ 0 := fun k => by
    have := free.1 k
    rw [Option.mem_def.1 he] at this
    cases this
  have := range i good hs
  rwa [number e he]

theorem State.tableStored_of_blank {s : State} (starting : s.startingUp = true) (blank : ∀ i, s.entry i = none)
    (apart : s.RecordsApart) : s.TableStored ∧ s.NumbersUnique :=
  ⟨⟨apart.1, apart.2, fun _ => blank, fun k => by rw [starting] at k; cases k⟩,
    fun i j e he => by rw [blank i] at he; cases he⟩

/-- Numbers stay unique while entries keep theirs and a new entry takes one that none carries. -/
theorem SlotChange.number {c : Instr} {s t : State} {i : Fin 48} (h : SlotChange c s t i) {f : Offtake}
    (hf : t.entry i = some f) : (∃ e, s.entry i = some e ∧ e.number = f.number) ∨
      (s.entry i = none ∧ ∀ j, ∀ e ∈ s.entry j, e.number ≠ f.number) := by
  cases h with
  | stands entry _ => exact .inl ⟨f, entry ▸ hf, rfl⟩
  | filled e _ _ _ free entry fresh range _ _ =>
    obtain rfl := Option.some.inj (entry.symm.trans hf)
    refine .inr ⟨free, ?_⟩
    rcases State.findOfftake_none.1 fresh with h0 | h
    · omega
    · exact h
  | rewritten e g _ _ before entry number _ _ =>
    obtain rfl := Option.some.inj (entry.symm.trans hf)
    exact .inl ⟨e, before, number.symm⟩
  | demanded e kw _ before entry _ =>
    obtain rfl := Option.some.inj (entry.symm.trans hf)
    exact .inl ⟨e, before, rfl⟩
  | ran e g _ before entry move _ =>
    obtain rfl := Option.some.inj (entry.symm.trans hf)
    exact .inl ⟨e, before, by rw [move.1]⟩
  | freed _ _ entry _ => rw [entry] at hf; cases hf

theorem SlotChange.held {c : Instr} {s t : State} {i : Fin 48} (h : SlotChange c s t i) (held : s.SlotHeld i) :
    t.SlotHeld i := by
  obtain ⟨good, free, number⟩ := held
  have carried (f : Offtake) (entry : t.entry i = some f) (record : (t.record i).carries f.number)
      (range : 1 ≤ f.number ∧ f.number ≤ 65535) : t.SlotHeld i := by
    obtain ⟨hgood, hnumber, hstate⟩ := record
    refine ⟨hgood, by simp [hstate, entry], fun g hg => ?_⟩
    obtain rfl := Option.some.inj (entry.symm.trans hg)
    exact ⟨hnumber.symm, range⟩
  have stood (e f : Offtake) (before : s.entry i = some e) (entry : t.entry i = some f)
      (hn : f.number = e.number) (record : t.record i = s.record i) : t.SlotHeld i := by
    refine ⟨record ▸ good, by rw [record, free, before, entry]; simp, fun g hg => ?_⟩
    obtain rfl := Option.some.inj (entry.symm.trans hg)
    rw [record, hn]
    exact number e before
  cases h with
  | stands entry record =>
    unfold State.SlotHeld
    rw [record, entry]
    exact ⟨good, free, number⟩
  | filled e _ _ _ _ entry _ range _ record => exact carried e entry record range
  | rewritten e f _ _ before entry hn _ record => exact carried f entry record (hn ▸ (number e before).2)
  | demanded e kw _ before entry record => exact stood e _ before entry rfl record
  | ran e f _ before entry move record =>
    have hn : f.number = e.number := by rw [move.1]
    rcases record with record | record
    · exact stood e f before entry hn record
    · exact carried f entry record (hn ▸ (number e before).2)
  | freed _ _ entry record =>
    unfold State.SlotHeld
    rw [record, entry]
    simp [StoredOfftake.free]

theorem TableChange.numbers {c : Instr} {s t : State} (h : TableChange c s t) (unique : s.NumbersUnique) :
    t.NumbersUnique := by
  cases h with
  | slots _ slot once =>
    intro i j e he f hf hef
    rcases (slot i).number he with ⟨e', he', hn⟩ | ⟨-, fresh⟩
    · rcases (slot j).number hf with ⟨f', hf', hm⟩ | ⟨-, fresh⟩
      · exact unique i j e' he' f' hf' (hn.trans (hef.trans hm.symm))
      · exact absurd (hn.trans hef) (fresh i e' he')
    · rcases (slot j).number hf with ⟨f', hf', hm⟩ | ⟨free, fresh'⟩
      · exact absurd (hm.trans hef.symm) (fresh j f' hf')
      · rcases (slot i).number he with ⟨e', he', hn⟩ | ⟨free', -⟩
        · exact absurd (hn.trans hef) (fresh' i e' he')
        · exact once i j free' (by simp [Option.mem_def.1 he]) free (by simp [Option.mem_def.1 hf])
  | boosts g _ entry _ =>
    intro i j e he f hf hef
    obtain ⟨e', he', rfl⟩ := Option.map_eq_some_iff.1 ((entry i).symm.trans he)
    obtain ⟨f', hf', rfl⟩ := Option.map_eq_some_iff.1 ((entry j).symm.trans hf)
    rw [(Offtake.boosted_fields g e').1, (Offtake.boosted_fields g f').1] at hef
    exact unique i j e' he' f' hf' hef

/-! ## Start-up -/

theorem reloadState_eq_none {code : Nat} : reloadState code = none ↔ code = 0 := by
  rcases code with _ | _ | _ | _ | _ <;> simp [reloadState]

theorem StoredOfftake.entry_number {r : StoredOfftake} (range : 1 ≤ r.number ∧ r.number ≤ 65535)
    (st : OfftakeState) (d : Bool) : (StoredOfftake.entry r st d).number = r.number := by
  simp only [StoredOfftake.entry, saturate]
  omega

theorem StoredOfftake.entry_number_range (r : StoredOfftake) (st : OfftakeState) (d : Bool) :
    1 ≤ (StoredOfftake.entry r st d).number ∧ (StoredOfftake.entry r st d).number ≤ 65535 := by
  simp only [StoredOfftake.entry, saturate]
  omega

theorem StoredOfftake.reloaded_eq_none {r : StoredOfftake} :
    StoredOfftake.reloaded r = none ↔ r.state = 0 := by
  rw [StoredOfftake.reloaded, Option.map_eq_none_iff, reloadState_eq_none]

theorem StoredOfftake.reloaded_number {r : StoredOfftake} {e : Offtake}
    (h : StoredOfftake.reloaded r = some e) (range : 1 ≤ r.number ∧ r.number ≤ 65535) : e.number = r.number := by
  obtain ⟨st, -, rfl⟩ := Option.map_eq_some_iff.1 h
  exact StoredOfftake.entry_number range _ _

/-- The slot waits for its failing record to be loaded. -/
def State.SlotWaits (s : State) (is : List (Fin 48)) (i : Fin 48) : Prop :=
  i ∈ is ∧ (s.record i).good = false ∧ s.entry i = none

/-- While failing records are loaded: numbers name one slot, and every slot is held by its record or waits. -/
def State.Loading (s : State) (is : List (Fin 48)) : Prop :=
  s.NumbersUnique ∧ ∀ j, s.SlotHeld j ∨ s.SlotWaits is j

theorem State.loadGoodOfftakes_loading {s : State} (blank : ∀ i, s.entry i = none) (apart : s.RecordsApart) :
    (slots48.foldl State.loadGoodOfftake s).Loading slots48 := by
  have nodup : slots48.Nodup := List.nodup_finRange 48
  have all (j : Fin 48) : j ∈ slots48 := List.mem_finRange j
  have slot := s.loadGoodOfftakes_slot nodup
  have source {j : Fin 48} {e : Offtake} (he : (slots48.foldl State.loadGoodOfftake s).entry j = some e) :
      (s.record j).good = true ∧ StoredOfftake.reloaded (s.record j).value = some e := by
    rw [(slot j).1] at he
    split at he
    · next h => exact ⟨h.2, he⟩
    · rw [blank j] at he; cases he
  have range {j : Fin 48} {e : Offtake} (good : (s.record j).good = true)
      (he : StoredOfftake.reloaded (s.record j).value = some e) :
      (s.record j).value.state ≠ 0 ∧ e.number = (s.record j).value.number ∧ 1 ≤ e.number ∧ e.number ≤ 65535 := by
    have hs : (s.record j).value.state ≠ 0 := fun k => by
      rw [StoredOfftake.reloaded_eq_none.2 k] at he; cases he
    have hn := StoredOfftake.reloaded_number he (apart.2 j good hs)
    exact ⟨hs, hn, hn ▸ apart.2 j good hs⟩
  refine ⟨fun i j e he f hf hef => ?_, fun j => ?_⟩
  · obtain ⟨goodi, hei⟩ := source he
    obtain ⟨goodj, hfj⟩ := source hf
    obtain ⟨hsi, hni, -⟩ := range goodi hei
    obtain ⟨hsj, hnj, -⟩ := range goodj hfj
    exact apart.1 i j goodi hsi goodj hsj (hni.symm.trans (hef.trans hnj))
  · obtain ⟨hentry, hrecord⟩ := slot j
    cases good : (s.record j).good with
    | false => exact .inr ⟨all j, by rw [hrecord]; simp [good], by rw [hentry]; simp [good, blank j]⟩
    | true =>
      rw [if_pos ⟨all j, good⟩] at hentry
      refine .inl ?_
      unfold State.SlotHeld
      rw [hentry, hrecord]
      split
      · next hs =>
        cases hr : StoredOfftake.reloaded (s.record j).value with
        | none => exact absurd (StoredOfftake.reloaded_eq_none.1 hr) (by rw [hs.2.2]; decide)
        | some e =>
          refine ⟨rfl, by simp [storedOfftake, Offtake.stored, e.state.code_ne_zero], fun f hf => ?_⟩
          obtain rfl := Option.mem_some_iff.1 hf
          exact ⟨rfl, (range good hr).2.2⟩
      · refine ⟨good, StoredOfftake.reloaded_eq_none.symm, fun f hf => ?_⟩
        exact (range good hf).2

theorem State.Loading.step {s : State} {i : Fin 48} {is : List (Fin 48)} (h : s.Loading (i :: is)) :
    (s.loadFailingOfftake i).Loading is := by
  obtain ⟨unique, slots⟩ := h
  cases good : (s.record i).good with
  | true =>
    rw [State.loadFailingOfftake_of_good good]
    refine ⟨unique, fun j => (slots j).imp id fun ⟨hj, hbad, hnone⟩ => ⟨?_, hbad, hnone⟩⟩
    refine (List.mem_cons.1 hj).resolve_left ?_
    rintro rfl
    rw [good] at hbad; cases hbad
  | false =>
    have hentry (j : Fin 48) : (s.loadFailingOfftake i).entry j =
        if i = j then s.damagedOfftake (s.record i).value else s.entry j := by
      rw [State.entry_loadFailingOfftake]; simp [good]
    have hrecord (j : Fin 48) : (s.loadFailingOfftake i).record j =
        if i = j then ⟨storedOfftake (s.damagedOfftake (s.record i).value), true⟩ else s.record j := by
      rw [State.record_loadFailingOfftake]; simp [good]
    have fresh {e : Offtake} (he : s.damagedOfftake (s.record i).value = some e) :
        (1 ≤ e.number ∧ e.number ≤ 65535) ∧ ∀ j, ∀ f ∈ s.entry j, f.number ≠ e.number := by
      obtain ⟨heq, hfind⟩ := State.damagedOfftake_some he
      have range : 1 ≤ e.number ∧ e.number ≤ 65535 := heq ▸ StoredOfftake.entry_number_range _ _ _
      exact ⟨range, (State.findOfftake_none.1 hfind).resolve_left (by omega)⟩
    refine ⟨fun j k e he f hf hef => ?_, fun j => ?_⟩
    · rw [Option.mem_def, hentry] at he hf
      by_cases hj : i = j
      · by_cases hk : i = k
        · exact hj.symm.trans hk
        · rw [if_pos hj] at he
          rw [if_neg hk] at hf
          exact absurd hef.symm ((fresh he).2 k f hf)
      · rw [if_neg hj] at he
        by_cases hk : i = k
        · rw [if_pos hk] at hf
          exact absurd hef ((fresh hf).2 j e he)
        · rw [if_neg hk] at hf
          exact unique j k e he f hf hef
    · by_cases hj : i = j
      · refine .inl ?_
        unfold State.SlotHeld
        rw [hentry, hrecord, if_pos hj, if_pos hj]
        cases hd : s.damagedOfftake (s.record i).value with
        | none => exact ⟨rfl, by simp [storedOfftake, StoredOfftake.free], by simp⟩
        | some e =>
          refine ⟨rfl, by simp [storedOfftake, Offtake.stored, e.state.code_ne_zero], fun f hf => ?_⟩
          obtain rfl := Option.mem_some_iff.1 hf
          exact ⟨rfl, (fresh hd).1⟩
      · rw [State.SlotHeld, State.SlotWaits, hentry, hrecord, if_neg hj, if_neg hj]
        refine (slots j).imp id fun ⟨hmem, hbad, hnone⟩ => ⟨?_, hbad, hnone⟩
        exact (List.mem_cons.1 hmem).resolve_left (Ne.symm hj)

theorem State.Loading.foldl {s : State} {is : List (Fin 48)} (h : s.Loading is) :
    (is.foldl State.loadFailingOfftake s).Loading [] := by
  induction is generalizing s with
  | nil => exact h
  | cons i is ih => exact ih h.step

theorem State.startUp_tableStored {s : State} (blank : ∀ i, s.entry i = none) (apart : s.RecordsApart) :
    s.startUp.TableStored ∧ s.startUp.NumbersUnique := by
  have hentry (i : Fin 48) : s.settled.entry i = s.entry i := by simp [State.entry]
  have hrecord (i : Fin 48) : s.settled.record i = s.record i := by simp [State.record]
  have settled : s.settled.RecordsApart := by simpa only [State.RecordsApart, hrecord] using apart
  obtain ⟨unique, slots⟩ :=
    (State.loadGoodOfftakes_loading (fun i => (hentry i).trans (blank i)) settled).foldl
  have started (i : Fin 48) : s.startUp.entry i = (slots48.foldl State.loadFailingOfftake
      (slots48.foldl State.loadGoodOfftake s.settled)).entry i := by
    rw [State.startUp_entry, State.loadOfftakes, State.loadCounter_entry]
  have written (i : Fin 48) : s.startUp.record i = (slots48.foldl State.loadFailingOfftake
      (slots48.foldl State.loadGoodOfftake s.settled)).record i := by
    rw [State.startUp_record, State.loadOfftakes, State.loadCounter_record]
  have unique' : s.startUp.NumbersUnique := fun i j e he f hf =>
    unique i j e (started i ▸ he) f (started j ▸ hf)
  refine ⟨State.tableStored_of_up s.startUp_startingUp unique' fun i => ?_, unique'⟩
  rw [State.SlotHeld, started, written]
  exact (slots i).resolve_right fun h => by cases h.1

/-! ## Every command and event -/

/-- A reset leaves each stored record as it was, or failing its check (R34, R171). -/
theorem Store.tears_record (ts : List Torn) (d : Store) (i : Fin 48) :
    (ts.foldl Store.tear d).offtakes[i] = d.offtakes[i] ∨
      ((ts.foldl Store.tear d).offtakes[i]).good = false := by
  induction ts generalizing d with
  | nil => exact .inl rfl
  | cons a ts ih =>
    rw [List.foldl_cons]
    have one : (d.tear a).offtakes[i] = d.offtakes[i] ∨ ((d.tear a).offtakes[i]).good = false := by
      cases a with
      | offtake j c =>
        have := getElem_setAt d.offtakes j i ⟨c, false⟩
        simp only [Store.tear, this]
        split
        · exact .inr rfl
        · exact .inl rfl
      | counterUnwritten => simp only [Store.tear]; split <;> exact .inl rfl
      | _ => exact .inl rfl
    rcases ih (d.tear a) with h | h
    · rw [h]; exact one
    · exact .inr h

theorem State.TableStored.recordsApart {s : State} (h : s.TableStored) : s.RecordsApart := ⟨h.1, h.2.1⟩

/-- Records that stand or fail keep what passes distinct. -/
theorem State.RecordsApart.of_stands {s t : State} (h : s.RecordsApart)
    (k : ∀ i, (t.record i).good = true → (t.record i).value.state ≠ 0 → t.record i = s.record i) :
    t.RecordsApart := by
  refine ⟨fun i j gi hi gj hj hij => ?_, fun i gi hi => ?_⟩
  · have ki := k i gi hi
    have kj := k j gj hj
    rw [ki, kj] at hij
    exact h.1 i j (ki ▸ gi) (ki ▸ hi) (kj ▸ gj) (kj ▸ hj) hij
  · have ki := k i gi hi
    rw [ki]
    exact h.2 i (ki ▸ gi) (ki ▸ hi)

theorem exec_numbersUnique {c : Instr} {s t : State} (unique : s.NumbersUnique) (stored : s.TableStored)
    (h : exec c s = .next t) : t.NumbersUnique ∧ t.TableStored := by
  cases hc : isReset c with
  | false =>
    have change := exec_table hc h
    have unique' := change.numbers unique
    have same : t.startingUp = s.startingUp :=
      exec_within h .startingUp (by cases c <;> simp [touched, isReset] at hc ⊢)
    refine ⟨unique', ?_⟩
    cases up : s.startingUp with
    | false =>
      refine State.tableStored_of_up (same.trans up) unique' fun i => ?_
      have held := stored.held up i
      cases change with
      | slots _ slot _ => exact (slot i).held held
      | boosts g _ entry record =>
        unfold State.SlotHeld
        rw [record, entry]
        refine ⟨held.1, by rw [held.2.1]; simp, fun f hf => ?_⟩
        obtain ⟨e, he, rfl⟩ := Option.map_eq_some_iff.1 hf
        rw [(Offtake.boosted_fields g e).1]
        exact held.2.2 e he
    | true =>
      have blank := stored.2.2.1 up
      have stands (i : Fin 48) : t.entry i = none ∧
          ((t.record i).good = true → (t.record i).value.state ≠ 0 → t.record i = s.record i) := by
        cases change with
        | slots _ slot _ =>
          cases slot i with
          | stands entry record => exact ⟨entry.trans (blank i), fun _ _ => record⟩
          | filled e up' => rw [up] at up'; cases up'
          | rewritten e f _ _ before => rw [blank i] at before; cases before
          | demanded e kw _ before => rw [blank i] at before; cases before
          | ran e f _ before => rw [blank i] at before; cases before
          | freed _ _ entry record =>
            exact ⟨entry, fun _ hs => absurd (by rw [record]; rfl) hs⟩
        | boosts g _ entry record => exact ⟨by rw [entry, blank i]; rfl, fun _ _ => record i⟩
      exact (State.tableStored_of_blank (same.trans up) (fun i => (stands i).1)
        (stored.recordsApart.of_stands fun i => (stands i).2)).1
  | true =>
    rcases exec_reset_cases hc h with ⟨r, torn, rfl⟩ | ⟨hup, ht⟩ | rfl | ⟨l, rfl, -⟩
    · refine (State.tableStored_of_blank rfl (State.entry_of_blank (s.beginReset_quiet r torn).2.1)
        (stored.recordsApart.of_stands fun i gi _ => ?_)).symm
      rcases Store.tears_record torn s.store i with k | k
      · exact k
      · exact absurd gi (by rw [Bool.not_eq_true]; exact k)
    · rw [ht]
      exact (State.startUp_tableStored (stored.2.2.1 hup) stored.recordsApart).symm
    · exact ⟨unique, stored⟩
    · exact ⟨unique, stored⟩

/-- Settles O26: commands that rewrite an entry keep its number, an admission takes one that no entry carries,
and start-up loads distinct good records before any failing one. -/
theorem numbersStayUnique : Obligations.NumbersStayUnique := by
  intro s t unique stored h
  rcases step_cases h with ⟨c, rest, picks, h⟩ | rfl
  · exact exec_numbersUnique (s := { s with pending := rest, picks := picks }) unique stored h
  · exact ⟨unique, stored⟩

end Sys2Proof.Machine
end

section
/-! PROOF. The admission of each source follows the holds of its monitors over every command and event
(4.3; O43). -/

namespace Sys2Proof.Machine

theorem mem_actingOn {m : Monitor} {src : Source} : m ∈ actingOn src ↔ actsOn m = src := by
  rcases m with ⟨_ | _ | _, _ | _ | _ | _⟩ | _ | _ | _ <;> cases src <;> decide

/-- The admission of one source follows its holds (R87). -/
def State.Follows (s : State) (src : Source) : Prop :=
  s.fs.admission.get src = .withdrawn ↔ s.anyHold src = true

/-- Admission and monitors of one source are as they were. -/
def State.SameSource (src : Source) (s t : State) : Prop :=
  t.fs.admission.get src = s.fs.admission.get src ∧ ∀ m, actsOn m = src → t.monitor m = s.monitor m

theorem State.SameSource.of_eq {src : Source} {s t : State} (monitors : t.fs.monitors = s.fs.monitors)
    (admission : t.fs.admission = s.fs.admission) : State.SameSource src s t :=
  ⟨by rw [admission], fun m _ => State.monitor_congr monitors m⟩

theorem State.SameSource.refl (src : Source) (s : State) : State.SameSource src s s := .of_eq rfl rfl

theorem State.SameSource.trans {src : Source} {s t u : State} (h : State.SameSource src s t)
    (k : State.SameSource src t u) : State.SameSource src s u :=
  ⟨k.1.trans h.1, fun m hm => (k.2 m hm).trans (h.2 m hm)⟩

/-- Holds that stand leave a source held or free as it was. -/
theorem State.anyHold_of_holds {s t : State} {src : Source}
    (h : ∀ m, actsOn m = src → (t.monitor m).hold = (s.monitor m).hold) : t.anyHold src = s.anyHold src := by
  unfold State.anyHold
  rw [Bool.eq_iff_iff, List.any_eq_true, List.any_eq_true]
  exact exists_congr fun m => and_congr_right fun hm => by rw [h m (mem_actingOn.1 hm)]

theorem State.SameSource.follows {src : Source} {s t : State} (h : State.SameSource src s t)
    (k : s.Follows src) : t.Follows src := by
  unfold State.Follows
  rw [h.1, State.anyHold_of_holds (s := s) (t := t) fun m hm => by rw [h.2 m hm]]
  exact k

theorem State.setMonitor_sameSource {src : Source} {m : Monitor} (h : actsOn m ≠ src) (s : State)
    (r : MonitorRecord) : State.SameSource src s (s.setMonitor m r) :=
  ⟨rfl, fun n hn => by rw [State.monitor_setMonitor, if_neg (by rintro rfl; exact h hn)]⟩

theorem State.raiseIf_sameSource (src : Source) (s : State) (b : Bool) (f : AlertFlag) :
    State.SameSource src s (s.raiseIf b f) := .of_eq (by simp) (by simp)

theorem State.evaluate_sameSource {src : Source} {m : Monitor} (h : actsOn m ≠ src) (s : State) (b : Bool) :
    State.SameSource src s (s.evaluate m b) := by
  unfold State.evaluate
  dsimp only
  split
  · exact (State.setMonitor_sameSource h s _).trans (State.raiseIf_sameSource src _ _ _)
  · exact State.setMonitor_sameSource h s _
  · exact .refl src s

theorem State.clearMonitor_sameSource {src : Source} {m : Monitor} (h : actsOn m ≠ src) (s : State) :
    State.SameSource src s (s.clearMonitor m) :=
  (State.setMonitor_sameSource h s _).trans (State.raiseIf_sameSource src _ _ _)

/-! ## Settling -/

/-- Settling makes the admission follow the holds (R87). -/
theorem State.settle_follows (s : State) (src : Source) : (s.settle src).Follows src := by
  have holds (t : State) (h : t.fs.monitors = s.fs.monitors) : t.anyHold src = s.anyHold src :=
    State.anyHold_congr h src
  rcases s.settle_cases src with ⟨k, h⟩ | ⟨-, k, h⟩ | ⟨-, k, h⟩ <;> rw [h]
  · exact k
  · unfold State.Follows
    rw [holds _ (by simp), k, (State.withdrawalAtEngine_supervised _).2]
    simp [State.setAdmission]
  · unfold State.Follows
    rw [holds _ (by simp), k]
    simp [State.setAdmission]

/-- Settling one source leaves the others alone. -/
theorem State.settle_sameSource {src o : Source} (h : src ≠ o) (s : State) :
    State.SameSource o s (s.settle src) := by
  refine ⟨?_, fun m _ => State.monitor_congr (by simp) m⟩
  rcases s.settle_cases src with ⟨-, k⟩ | ⟨-, -, k⟩ | ⟨-, -, k⟩ <;> rw [k]
  · rw [(State.withdrawalAtEngine_supervised _).2]
    simp [State.setAdmission, PerSource.get_put, h]
  · simp [State.setAdmission, PerSource.get_put, h]

theorem State.settle_keeps_follows {o : Source} {s : State} (src : Source) (h : s.Follows o) :
    (s.settle src).Follows o := by
  by_cases k : src = o
  · exact k ▸ s.settle_follows src
  · exact (s.settle_sameSource k).follows h

theorem State.settleAll_follows (s : State) : s.settleAll.AdmissionFollowsHolds := by
  intro src
  cases src
  · exact State.settle_keeps_follows _ (State.settle_keeps_follows _ (State.settle_follows _ _))
  · exact State.settle_keeps_follows _ (State.settle_follows _ _)
  · exact State.settle_follows _ _

/-- What settles a source last leaves every admission following, if the others stood. -/
theorem State.follows_of_settled {s t u : State} {src : Source} (h : s.AdmissionFollowsHolds)
    (others : ∀ o, o ≠ src → State.SameSource o s t) (hu : u = t.settle src) : u.AdmissionFollowsHolds := by
  intro o
  rw [hu]
  by_cases k : o = src
  · exact k ▸ t.settle_follows src
  · exact State.settle_keeps_follows src ((others o k).follows (h o))

theorem State.AdmissionFollowsHolds.of_eq {s t : State} (h : s.AdmissionFollowsHolds)
    (monitors : t.fs.monitors = s.fs.monitors) (admission : t.fs.admission = s.fs.admission) :
    t.AdmissionFollowsHolds := fun src => (State.SameSource.of_eq monitors admission).follows (h src)

/-! ## The commands and events that reach the supervisor -/

theorem State.makeStale_follows {s : State} (h : s.AdmissionFollowsHolds) (a : Nat) (r : StationRecord) :
    (s.makeStale a r).AdmissionFollowsHolds := by
  have role (t : State) (hs : t.settings = s.settings) (hh : t.hau = s.hau) : t.role a = s.role a := by
    simp [State.role, hs, State.boundAccount, State.account, hh]
  have raised (o : Source) : State.SameSource o s ((s.setStation a { r with state := .stale }).raise .stationStale) :=
    .of_eq (by simp) (by simp)
  unfold State.makeStale State.turnStale
  generalize hu : (s.setStation a { r with state := .stale }).raise .stationStale = u at raised ⊢
  have hrole : u.role a = s.role a := role u (by simp [← hu]) (by simp [← hu])
  rcases u.handStale_cases a with ⟨src, hr, hh⟩ | ⟨hr, hh⟩ | ⟨hr, hh⟩ | ⟨i, hr, hh⟩ | ⟨hr, hh⟩ <;>
    rw [hh, ← hrole, hr]
  · refine State.follows_of_settled h (fun o ho => ?_) rfl
    exact ((raised o).trans (.of_eq rfl rfl)).trans (State.evaluate_sameSource (m := .gas src .stale) (Ne.symm ho) _ _)
  · refine State.follows_of_settled h (fun o ho => ?_) rfl
    exact ((raised o).trans (.of_eq rfl rfl)).trans (State.evaluate_sameSource (m := .holderStale) (Ne.symm ho) _ _)
  · exact fun src => ((raised src).trans (.of_eq rfl rfl)).follows (h src)
  · exact fun src => ((raised src).trans (.of_eq (by simp [State.settleRole]) (by simp [State.settleRole]))).follows (h src)
  · exact fun src => (raised src).follows (h src)

theorem State.enterMiss_follows {s : State} (h : s.AdmissionFollowsHolds) (a : Nat) (v : LastEvent) :
    (s.enterMiss a v).AdmissionFollowsHolds := by
  rcases s.enterMiss_cases a v with ⟨-, k⟩ | ⟨-, k⟩ <;> rw [k]
  · exact State.makeStale_follows h a _
  · exact h.of_eq (by simp) (by simp)

theorem State.evaluateGas_sameSource {src o : Source} (h : src ≠ o) (s : State) :
    State.SameSource o s (s.evaluateGas src) := by
  have other (k : GasCondition) : actsOn (.gas src k) ≠ o := h
  exact ((State.evaluate_sameSource (other .ncvLow) _ _).trans
    (State.evaluate_sameSource (other .ncvHigh) _ _)).trans (State.evaluate_sameSource (other .flowHigh) _ _)

theorem State.evaluateTrips_sameSource {o : Source} (h : Source.cvg ≠ o) (s : State) :
    State.SameSource o s s.evaluateTrips :=
  (State.evaluate_sameSource (m := .levelLowTrip) h _ _).trans
    (State.evaluate_sameSource (m := .levelHighTrip) h _ _)

theorem State.deliver_follows {s : State} (h : s.AdmissionFollowsHolds) (a : Nat) (returned : Bool)
    (role : Role) (x : Reading) : (s.deliver a returned role x).AdmissionFollowsHolds := by
  have returning (o : Source) (t : State) (m : Monitor) (b : Bool) (hm : actsOn m ≠ o) :
      State.SameSource o t (if returned then t.evaluate m b else t) := by
    split
    · exact State.evaluate_sameSource hm t b
    · exact .refl o t
  unfold State.deliver
  split
  · next src flow ncv =>
    refine State.follows_of_settled h (fun o ho => ?_) rfl
    have taken : State.SameSource o s (s.takeGas src flow ncv) := .of_eq rfl rfl
    exact (taken.trans (returning o _ (.gas src .stale) false (Ne.symm ho))).trans
      (State.evaluateGas_sameSource (Ne.symm ho) _)
  · next level =>
    refine State.follows_of_settled h (fun o ho => ?_) rfl
    have taken : State.SameSource o s (s.takeHolder level) := .of_eq (by simp) (by simp)
    exact (taken.trans (returning o _ .holderStale false (Ne.symm ho))).trans
      (State.evaluateTrips_sameSource (Ne.symm ho) _)
  · exact h.of_eq (by simp) (by simp)
  · exact h.of_eq (by simp) (by simp)
  · exact h

theorem State.takeReport_follows {s : State} (h : s.AdmissionFollowsHolds) (a : Nat) (r : Report) :
    (s.takeReport a r).AdmissionFollowsHolds := by
  rcases s.takeReport_cases a r with ⟨role, x, -, k⟩ | ⟨-, k⟩ | ⟨v, -, k⟩ <;> rw [k]
  · exact State.deliver_follows (h.of_eq (by simp) (by simp)) _ _ _ _
  · exact h.of_eq (by simp) (by simp)
  · exact State.enterMiss_follows h a v

theorem State.applySettings_follows (s : State) (c : Settings) : (s.applySettings c).AdmissionFollowsHolds := by
  unfold State.applySettings
  dsimp only
  generalize State.lineDelist _ s.settings = told
  refine told.settleAll_follows.of_eq ?_ ?_ <;>
    (unfold State.lineRestart; split <;> simp)

theorem State.putListInForce_follows (s : State) (l : List Nat) :
    (s.putListInForce l).AdmissionFollowsHolds := by
  unfold State.putListInForce
  dsimp only
  generalize State.delistGone _ s.settings.pollList = t
  exact t.settleAll_follows.of_eq (by simp) (by simp)

theorem readCountersCommand_follows {s : State} (h : s.AdmissionFollowsHolds) :
    (readCountersCommand s).state.AdmissionFollowsHolds := by
  intro src
  have holds (m : Monitor) : ((readCountersCommand s).state.monitor m).hold = (s.monitor m).hold := by
    have zeroed : (readCountersCommand s).state.monitor m = { s.monitor m with counter := 0 } :=
      getElem_mapTable _ s.fs.monitors m.index
    rw [zeroed]
  have same : (readCountersCommand s).state.anyHold src = s.anyHold src :=
    State.anyHold_of_holds fun m _ => holds m
  rw [same]
  exact h src

/-- CLEAR FAULTS settles what the monitors it clears act on (R88). -/
theorem State.settleNamed_follows {s : State} (h : s.AdmissionFollowsHolds) (ms : List Monitor) :
    ((ms.foldl State.clearMonitor s).settleNamed ms).AdmissionFollowsHolds := by
  have cleared (o : Source) (l : List Monitor) (hl : ∀ m ∈ l, actsOn m ≠ o) (t : State) :
      State.SameSource o t (l.foldl State.clearMonitor t) := by
    induction l generalizing t with
    | nil => exact .refl o t
    | cons m l ih =>
      exact (State.clearMonitor_sameSource (hl m List.mem_cons_self) t).trans
        (ih (fun n hn => hl n (List.mem_cons_of_mem _ hn)) _)
  have keeps (o src : Source) (t : State) (k : t.Follows o) :
      (if ms.any (fun m => actsOn m == src) then t.settle src else t).Follows o := by
    split
    · exact State.settle_keeps_follows src k
    · exact k
  have settles (o : Source) (t : State) (k : ms.any (fun m => actsOn m == o) = true ∨ t.Follows o) :
      (if ms.any (fun m => actsOn m == o) then t.settle o else t).Follows o := by
    split
    · exact t.settle_follows o
    · next hno => exact k.resolve_left hno
  have named (o : Source) : ms.any (fun m => actsOn m == o) = true ∨
      (ms.foldl State.clearMonitor s).Follows o := by
    by_cases k : ms.any (fun m => actsOn m == o) = true
    · exact .inl k
    · refine .inr ((cleared o ms (fun m hm hmo => k ?_) s).follows (h o))
      exact List.any_eq_true.2 ⟨m, hm, by simp [hmo]⟩
  have kept (o src : Source) (t : State) (k : ms.any (fun m => actsOn m == o) = true ∨ t.Follows o) :
      ms.any (fun m => actsOn m == o) = true ∨
        (if ms.any (fun m => actsOn m == src) then t.settle src else t).Follows o := k.imp id (keeps o src t)
  intro o
  cases o
  · exact keeps _ _ _ (keeps _ _ _ (settles _ _ (named .cvg)))
  · exact keeps _ _ _ (settles _ _ (kept _ _ _ (named .bfg)))
  · exact settles _ _ (kept _ _ _ (kept _ _ _ (named .cog)))

theorem State.begun_follows (d : Store) (r : ResetRecord) (l : Bool) (n : Nat) (q : List Instr) :
    (State.begun d r l n q).AdmissionFollowsHolds := by
  intro src
  have held : (State.begun d r l n q).anyHold src = false := by
    simp [State.anyHold, State.monitor, State.begun, Supervisor.blank, MonitorRecord.blank]
  rw [held]
  cases src <;> simp [State.begun, Supervisor.blank, PerSource.get]

theorem State.atExpiry_sameSource (s : State) (e : Time) (src : Source) :
    State.SameSource src s (s.atExpiry e) := .of_eq (by simp) (by simp)

theorem State.setMonitor_settle_follows {s : State} (h : s.AdmissionFollowsHolds) (e : Time) (m : Monitor)
    (r : MonitorRecord) : (((s.atExpiry e).setMonitor m r).settle (actsOn m)).AdmissionFollowsHolds :=
  State.follows_of_settled h (fun o ho => (s.atExpiry_sameSource e o).trans
    (State.setMonitor_sameSource (Ne.symm ho) (s.atExpiry e) r)) rfl

/-- What the law of R87 says of a later state, if it holds of the earlier. -/
def State.KeepsAdmission (s t : State) : Prop := s.AdmissionFollowsHolds → t.AdmissionFollowsHolds

theorem State.KeepsAdmission.linked : Linked State.KeepsAdmission :=
  .of_trans (fun _ => id) (fun h k x => k (h x)) fun _ _ h => h

theorem exec_keepsAdmission {c : Instr} {s t : State} (h : exec c s = .next t) : s.KeepsAdmission t := by
  have L := State.KeepsAdmission.linked
  by_cases untouched : .monitors ∉ touched c ∧ .admission ∉ touched c
  · exact fun k => k.of_eq (exec_within h .monitors untouched.1) (exec_within h .admission untouched.2)
  cases c <;> simp [touched] at untouched <;> obtain rfl := Host.Outcome.next.inj h
  case powerOn torn => exact fun _ => State.begun_follows _ _ _ _ _
  case resetLine torn => exact fun _ => State.begun_follows _ _ _ _ _
  case resetPart p torn =>
    split
    · exact fun _ => State.begun_follows _ _ _ _ _
    · exact L.takeFrame s fun _ => L.refl _
  case setSetting p =>
    refine L.takeFrame s fun _ => L.gated fun _ => ?_
    rcases setSettingCommand_cases p s.frameTaken with k | ⟨l, c, -, -, -, -, -, k⟩ <;> rw [k]
    · exact L.refl _
    · exact fun _ => State.applySettings_follows _ _
  case restoreSettings p =>
    refine L.takeFrame s fun _ => L.gated fun _ => L.bare ?_
    rcases restoreCommand_cases s.frameTaken with k | ⟨b, -, k⟩ <;> rw [k]
    · exact L.refl _
    · exact fun _ => State.applySettings_follows _ _
  case setPollList p =>
    refine L.takeFrame s fun _ => L.gated fun _ => ?_
    rcases setPollListCommand_cases p s.frameTaken with k | ⟨l, k⟩ | ⟨l, k⟩ <;> rw [k]
    · exact L.refl _
    · exact fun x => x.of_eq rfl rfl
    · exact fun _ => State.putListInForce_follows _ l
  case readCounters p => exact L.takeFrame s fun _ => L.bare readCountersCommand_follows
  case clearFaults p =>
    refine L.takeFrame s fun _ => L.gated fun _ => ?_
    rcases clearFaultsCommand_cases p s.frameTaken with k | ⟨ms, -, k⟩ <;> rw [k]
    · exact L.refl _
    · exact fun x => State.settleNamed_follows x ms
  case retryTimerExpiry m =>
    split
    · exact L.refl s
    · exact fun x => State.setMonitor_settle_follows x _ m _
  case replyTimerExpiry arrived =>
    split
    · exact fun x => State.enterMiss_follows (x.of_eq (by simp) (by simp)) _ _
    · exact L.refl s
  case reportComplete report =>
    split
    · exact fun x => State.takeReport_follows (s := s.beginGap) (x.of_eq rfl rfl) _ _
    · exact L.refl s

/-- Settles O43: whatever changes a hold settles the source the monitor acts on. -/
theorem admissionFollowsTheHolds : Obligations.AdmissionFollowsTheHolds := by
  intro s t follows h
  rcases step_cases h with ⟨c, rest, picks, h⟩ | rfl
  · exact exec_keepsAdmission (s := { s with pending := rest, picks := picks }) h follows
  · exact follows

end Sys2Proof.Machine
end

section
/-! PROOF. What a command or event can make of an account and its stored record (chapter 6; O54), and what
keeps accounts in their slots. -/

namespace Sys2Proof.Machine

/-! ## Accounts and their records -/

/-- The stored record of an account slot. -/
def State.accountRecord (s : State) (i : Fin 64) : Checked StoredAccount := s.store.accounts[i]

theorem State.accountRecord_congr {s t : State} (h : t.store.accounts = s.store.accounts) (i : Fin 64) :
    t.accountRecord i = s.accountRecord i := by simp [State.accountRecord, h]

theorem State.accountRecord_writeAccount (s : State) (i j : Fin 64) (a : Option Account) :
    (s.writeAccount i a).accountRecord j = if i = j then ⟨storedAccount a, true⟩ else s.accountRecord j :=
  getElem_setAt _ i j _

theorem State.account_of_accounts {s t : State} (h : t.hau.accounts = s.hau.accounts) (i : Fin 64) :
    t.account i = s.account i := by simp [State.account, h]

/-- What binds and names an account, and whether it is damaged, is as it was. -/
def Account.SameName (a b : Account) : Prop :=
  b.number = a.number ∧ b.station = a.station ∧ b.zone = a.zone ∧ b.damaged = a.damaged

theorem Account.SameName.trans {a b c : Account} (h : a.SameName b) (k : b.SameName c) : a.SameName c :=
  ⟨k.1.trans h.1, k.2.1.trans h.2.1, k.2.2.1.trans h.2.2.1, k.2.2.2.trans h.2.2.2⟩

theorem Account.gapCounted_keeps (a : Account) : a.SameName a.gapCounted ∧ a.gapCounted.closed = a.closed := by
  unfold Account.gapCounted
  split <;> exact ⟨⟨rfl, rfl, rfl, rfl⟩, rfl⟩

theorem Account.returned_keeps (a : Account) : a.SameName a.returned ∧ a.returned.closed = a.closed := by
  unfold Account.returned
  split <;> exact ⟨⟨rfl, rfl, rfl, rfl⟩, rfl⟩

/-- A reading keeps name, binding and closed copy of its account (R118 to R123). -/
theorem Account.takeReading_keeps {a b : Account} {r : HeatReading} {c : Nat} {marked : Bool}
    (h : a.takeReading r c = some (b, marked)) : a.SameName b ∧ b.closed = a.closed := by
  have gap := a.gapCounted_keeps
  have billed (base : Baseline) : a.SameName (a.gapCounted.billed r base c) ∧
      (a.gapCounted.billed r base c).closed = a.closed := ⟨gap.1, gap.2⟩
  unfold Account.takeReading at h
  have taken {x : Account} {m : Bool} (hx : some (x, m) = some (b, marked)) : b = x :=
    (congrArg Prod.fst (Option.some.inj hx)).symm
  (repeat' split at h)
  · cases h
  · cases h
  all_goals rw [taken h]
  · exact ⟨⟨rfl, rfl, rfl, rfl⟩, rfl⟩
  · next base _ _ _ => exact billed base
  · exact ⟨gap.1, gap.2⟩
  · exact ⟨⟨rfl, rfl, rfl, rfl⟩, rfl⟩
  · exact ⟨(billed _).1.trans (Account.returned_keeps _).1, (Account.returned_keeps _).2.trans (billed _).2⟩
  · exact ⟨gap.1.trans (Account.returned_keeps a.gapCounted.rejected).1,
      (Account.returned_keeps _).2.trans gap.2⟩

/-! ## Stations that fall silent -/

/-- Every account stands, or an OPEN one is in HOLDING with its record written (R124). -/
def State.AccountsHeld (s t : State) : Prop := ∀ i,
  (t.account i = s.account i ∧ t.accountRecord i = s.accountRecord i) ∨
  ∃ a, s.account i = some a ∧ a.state = .opened ∧ t.account i = some { a with state := .holding } ∧
    t.accountRecord i = ⟨storedAccount (t.account i), true⟩

theorem State.AccountsHeld.of_eq {s t : State} (h : t.hau.accounts = s.hau.accounts)
    (k : t.store.accounts = s.store.accounts) : s.AccountsHeld t :=
  fun i => .inl ⟨State.account_of_accounts h i, State.accountRecord_congr k i⟩

theorem State.AccountsHeld.refl (s : State) : s.AccountsHeld s := .of_eq rfl rfl

theorem State.AccountsHeld.trans {s t u : State} (h : s.AccountsHeld t) (k : t.AccountsHeld u) :
    s.AccountsHeld u := by
  intro i
  rcases k i with ⟨ka, kr⟩ | ⟨b, hb, hs, ka, kr⟩
  · rw [ka, kr]
    exact h i
  · rcases h i with ⟨ha, -⟩ | ⟨a, -, -, ha, -⟩
    · exact .inr ⟨b, ha ▸ hb, hs, ka, kr⟩
    · rw [hb] at ha
      obtain rfl := Option.some.inj ha
      cases hs

theorem State.holdAccount_held (s : State) (i : Fin 64) : s.AccountsHeld (s.holdAccount i) := by
  unfold State.holdAccount
  split
  · next a ha =>
    split
    · next hs =>
      intro j
      rw [State.account_writeAccount, State.accountRecord_writeAccount]
      split
      · next hj => exact .inr ⟨a, hj ▸ ha, hs, rfl, rfl⟩
      · exact .inl ⟨rfl, rfl⟩
    · exact .refl s
  · exact .refl s

theorem State.handStale_held (s : State) (a : Nat) : s.AccountsHeld (s.handStale a) := by
  rcases s.handStale_cases a with ⟨src, -, h⟩ | ⟨-, h⟩ | ⟨-, h⟩ | ⟨i, -, h⟩ | ⟨-, h⟩ <;> rw [h]
  · exact .of_eq (by simp) (by simp)
  · exact .of_eq (by simp) (by simp)
  · exact .of_eq rfl rfl
  · exact s.holdAccount_held i
  · exact .refl s

theorem State.turnStale_held (s : State) (a : Nat) (r : StationRecord) : s.AccountsHeld (s.turnStale a r) :=
  (State.AccountsHeld.of_eq (by simp) (by simp) : s.AccountsHeld
    ((s.setStation a { r with state := .stale }).raise .stationStale)).trans (State.handStale_held _ a)

theorem State.makeStale_held (s : State) (a : Nat) (r : StationRecord) : s.AccountsHeld (s.makeStale a r) := by
  have settled (u : State) (role : Role) : u.AccountsHeld (u.settleRole role) := .of_eq (by simp) (by simp)
  exact (s.turnStale_held a r).trans (settled _ _)

theorem State.enterMiss_held (s : State) (a : Nat) (v : LastEvent) : s.AccountsHeld (s.enterMiss a v) := by
  rcases s.enterMiss_cases a v with ⟨-, h⟩ | ⟨-, h⟩ <;> rw [h]
  · exact s.makeStale_held a _
  · exact .of_eq (by simp) (by simp)

theorem State.delist_held (s : State) (a : Nat) : s.AccountsHeld (s.delist a) := by
  unfold State.delist
  split
  · exact s.turnStale_held a _
  · exact .refl s

theorem State.delistGone_held (s : State) (old : List Nat) : s.AccountsHeld (s.delistGone old) := by
  unfold State.delistGone
  generalize addresses.filter _ = l
  induction l generalizing s with
  | nil => exact .refl s
  | cons a l ih => exact (s.delist_held a).trans (ih _)

theorem State.lineDelist_held (s : State) (old : Settings) : s.AccountsHeld (s.lineDelist old) := by
  unfold State.lineDelist
  split
  · exact .refl s
  · exact s.delistGone_held _

theorem State.applySettings_held (s : State) (c : Settings) : s.AccountsHeld (s.applySettings c) := by
  unfold State.applySettings
  dsimp only
  have supplied : s.AccountsHeld (State.superviseChange (State.supplyChange { s with settings := c } s.settings)
      s.settings) := .of_eq (by simp) (by simp)
  have told := supplied.trans (State.lineDelist_held _ s.settings)
  refine told.trans (.of_eq ?_ ?_) <;> (unfold State.lineRestart; split <;> simp)

theorem State.putListInForce_held (s : State) (l : List Nat) : s.AccountsHeld (s.putListInForce l) := by
  unfold State.putListInForce
  dsimp only
  generalize hu : ({ s with
    settings := { s.settings with pollList := l }, flc := { s.flc with staged := none }
    nvs := { s.nvs with unsaved := true } } : State) = u
  have hs : s.AccountsHeld u := .of_eq (by rw [← hu]) (by rw [← hu])
  have gone := hs.trans (u.delistGone_held s.settings.pollList)
  exact gone.trans (.of_eq (by simp) (by simp))

/-! ## What can happen to an account -/

/-- What a command or event can make of an account slot and its record. -/
inductive AccountChange (c : Instr) (s t : State) (i : Fin 64) : Prop
  | stands (account : t.account i = s.account i) (record : t.accountRecord i = s.accountRecord i)
  | opens (b : Account) (up : s.startingUp = false) (roles : t.settings.roles = s.settings.roles)
      (free : s.account i = none) (account : t.account i = some b) (fresh : s.findAccount b.number = none)
      (number : b.number ≠ 0) (station : b.station ≠ 0) (unbound : s.isBound b.station = false)
      (noRole : s.settings.roles.holds b.station = false)
      (record : t.accountRecord i = ⟨storedAccount (some b), true⟩)
  | changes (a b : Account) (before : s.account i = some a) (account : t.account i = some b)
      (name : a.SameName b) (closed : ∀ k ∈ a.closed, b.closed = some k ∨ ∃ p, c = .collectAccount p)
      (record : t.accountRecord i = ⟨storedAccount (some b), true⟩)
  | leaves (a : Account) (before : s.account i = some a) (final : a.state = .final)
      (collects : ∃ p, c = .collectAccount p) (account : t.account i = none)
      (record : t.accountRecord i = ⟨storedAccount none, true⟩)

/-- What a command or event can make of the accounts: changes slot by slot, opening one at most; and the
role addresses stand, or none of the new ones is bound. -/
structure AccountsChange (c : Instr) (s t : State) : Prop where
  slot : ∀ i, AccountChange c s t i
  once : ∀ i j, s.account i = none → t.account i ≠ none → s.account j = none → t.account j ≠ none → i = j
  roles : t.settings.roles = s.settings.roles ∨ ∀ a, t.settings.roles.holds a = true → s.isBound a = false

theorem AccountChange.before {c : Instr} {s t : State} {i : Fin 64} {l : Link}
    (h : AccountChange c { s with cl := l } t i) : AccountChange c s t i := by
  cases h with
  | stands account record => exact .stands account record
  | opens b up roles free account fresh number station unbound noRole record =>
    exact .opens b up roles free account fresh number station unbound noRole record
  | changes a b before account name closed record => exact .changes a b before account name closed record
  | leaves a before final collects account record => exact .leaves a before final collects account record

theorem AccountChange.after_ {c : Instr} {s t : State} {i : Fin 64} {l : Link} (h : AccountChange c s t i) :
    AccountChange c s { t with cl := l } i := by
  cases h with
  | stands account record => exact .stands account record
  | opens b up roles free account fresh number station unbound noRole record =>
    exact .opens b up roles free account fresh number station unbound noRole record
  | changes a b before account name closed record => exact .changes a b before account name closed record
  | leaves a before final collects account record => exact .leaves a before final collects account record

theorem AccountsChange.linked (c : Instr) : Linked (AccountsChange c) where
  refl _ := ⟨fun _ => .stands rfl rfl, fun _ _ hi hti => absurd hi hti, .inl rfl⟩
  before _ _ h := ⟨fun i => (h.slot i).before, h.once, h.roles⟩
  after_ _ h := ⟨fun i => (h.slot i).after_, h.once, h.roles⟩

/-- No FREE slot is filled. -/
theorem AccountsChange.of_free {c : Instr} {s t : State} (slot : ∀ i, AccountChange c s t i)
    (free : ∀ i, s.account i = none → t.account i = none)
    (roles : t.settings.roles = s.settings.roles ∨ ∀ a, t.settings.roles.holds a = true → s.isBound a = false) :
    AccountsChange c s t := ⟨slot, fun i _ hi hti => absurd (free i hi) hti, roles⟩

theorem AccountsChange.of_held {c : Instr} {s t : State} (held : s.AccountsHeld t)
    (roles : t.settings.roles = s.settings.roles ∨ ∀ a, t.settings.roles.holds a = true → s.isBound a = false) :
    AccountsChange c s t := by
  refine .of_free (fun i => ?_) (fun i hi => ?_) roles <;>
    rcases held i with ⟨account, record⟩ | ⟨a, before, -, account, record⟩
  · exact .stands account record
  · exact .changes a _ before account ⟨rfl, rfl, rfl, rfl⟩ (fun k hk => .inl hk) (account ▸ record)
  · exact account.trans hi
  · rw [hi] at before; cases before

theorem AccountsChange.of_eq {c : Instr} {s t : State} (accounts : t.hau.accounts = s.hau.accounts)
    (records : t.store.accounts = s.store.accounts) (roles : t.settings.roles = s.settings.roles) :
    AccountsChange c s t := .of_held (.of_eq accounts records) (.inl roles)

/-- One slot is written with its record. -/
theorem AccountsChange.of_write {c : Instr} {s t : State} {i : Fin 64} {b : Option Account}
    (accounts : t.hau.accounts = (s.writeAccount i b).hau.accounts)
    (records : t.store.accounts = (s.writeAccount i b).store.accounts)
    (roles : t.settings.roles = s.settings.roles)
    (h : t.account i = b → t.accountRecord i = ⟨storedAccount b, true⟩ → AccountChange c s t i) :
    AccountsChange c s t := by
  have haccount (j : Fin 64) : t.account j = if i = j then b else s.account j := by
    rw [State.account_of_accounts accounts, State.account_writeAccount]
  have hrecord (j : Fin 64) : t.accountRecord j = if i = j then ⟨storedAccount b, true⟩ else s.accountRecord j := by
    rw [State.accountRecord_congr records, State.accountRecord_writeAccount]
  have filled (j : Fin 64) (hj : s.account j = none) (htj : t.account j ≠ none) : i = j := by
    by_contra hij
    exact htj (by rw [haccount, if_neg hij, hj])
  refine ⟨fun j => ?_, fun j k hj htj hk htk => (filled j hj htj).symm.trans (filled k hk htk), .inl roles⟩
  by_cases hj : i = j
  · subst hj
    exact h (by rw [haccount, if_pos rfl]) (by rw [hrecord, if_pos rfl])
  · exact .stands (by rw [haccount, if_neg hj]) (by rw [hrecord, if_neg hj])

/-- An account is rewritten with its name and its closed copy. -/
theorem AccountsChange.of_rewrite {c : Instr} {s t : State} {i : Fin 64} {a b : Account}
    (before : s.account i = some a) (accounts : t.hau.accounts = (s.writeAccount i (some b)).hau.accounts)
    (records : t.store.accounts = (s.writeAccount i (some b)).store.accounts)
    (roles : t.settings.roles = s.settings.roles) (name : a.SameName b)
    (closed : ∀ k ∈ a.closed, b.closed = some k ∨ ∃ p, c = .collectAccount p) : AccountsChange c s t :=
  .of_write accounts records roles fun account record => .changes a b before account name closed record

/-! ## The commands -/

/-- OPEN ACCOUNT is refused, or fills the lowest FREE slot with a new account (R116, R117). -/
theorem openAccountCommand_cases (p : List Byte) (s : State) :
    (openAccountCommand p s).state = s ∨ ∃ number station z limit i, number ≠ 0 ∧ station ≠ 0 ∧
      s.findAccount number = none ∧ s.isBound station = false ∧ s.settings.roles.holds station = false ∧
      s.account i = none ∧ (openAccountCommand p s).state = s.writeAccount i
        (some (Account.fresh number station z limit (s.isStale station))) := by
  unfold openAccountCommand
  split
  · split
    · exact .inl rfl
    · split
      · exact .inl rfl
      next hrange =>
      split
      · exact .inl rfl
      next hdup =>
      split
      · exact .inl rfl
      · next i hi =>
        simp only [Bool.or_eq_true, not_or, Bool.not_eq_true, Option.isSome_eq_false_iff,
          Option.isNone_iff_eq_none] at hdup
        refine .inr ⟨_, _, _, _, i, by omega, by omega, hdup.1.1, hdup.1.2, hdup.2, ?_, rfl⟩
        simpa using List.find?_some hi
  · exact .inl rfl

theorem openAccountCommand_accounts {c : Instr} (p : List Byte) {s : State} (up : s.startingUp = false) :
    AccountsChange c s (openAccountCommand p s).state := by
  rcases openAccountCommand_cases p s with h |
    ⟨number, station, z, limit, i, hnumber, hstation, fresh, unbound, noRole, free, h⟩ <;> rw [h]
  · exact .of_eq rfl rfl rfl
  · exact .of_write rfl rfl rfl fun account record =>
      .opens _ up rfl free account fresh hnumber hstation unbound noRole record

theorem collectEntry_accounts {p : List Byte} {s : State} {i : Fin 64} {a : Account}
    (before : s.account i = some a) : AccountsChange (.collectAccount p) s (collectEntry s i a).state := by
  unfold collectEntry
  split
  · next final =>
    exact .of_write (b := none) rfl rfl rfl fun account record =>
      .leaves a before final ⟨p, rfl⟩ account record
  · exact .of_eq rfl rfl rfl
  · split
    · exact .of_eq rfl rfl rfl
    · exact .of_rewrite (b := { a with closed := none, marks := { a.marks with uncollected := false } })
        before rfl rfl rfl ⟨rfl, rfl, rfl, rfl⟩ fun _ _ => .inr ⟨p, rfl⟩

theorem closeEntry_accounts {c : Instr} {s : State} {i : Fin 64} {a : Account}
    (before : s.account i = some a) : AccountsChange c s (closeEntry s i a).state := by
  unfold closeEntry
  split
  · exact .of_rewrite (b := { a with state := .closing }) before rfl rfl rfl ⟨rfl, rfl, rfl, rfl⟩
      fun _ hk => .inl hk
  · exact .of_eq rfl rfl rfl

theorem forceEntry_accounts {c : Instr} {s : State} {i : Fin 64} {a : Account}
    (before : s.account i = some a) : AccountsChange c s (forceEntry s i a).state := by
  unfold forceEntry
  split
  · exact .of_rewrite (b := a.finish) before rfl rfl rfl ⟨rfl, rfl, rfl, rfl⟩ fun _ hk => .inl hk
  · exact .of_eq rfl rfl rfl

/-- CLEAR ACCOUNT MARKS is refused, or writes the account named with marks cleared (R126). -/
theorem clearMarksCommand_cases (p : List Byte) (s : State) :
    (clearMarksCommand p s).state = s ∨ ∃ i a bits, s.account i = some a ∧
      (clearMarksCommand p s).state = s.writeAccount i (some (a.clearMarks bits)) := by
  unfold clearMarksCommand
  split
  · split
    · exact .inl rfl
    · next hf => exact .inr ⟨_, _, _, (State.findAccount_some hf).2.1, rfl⟩
  · exact .inl rfl

theorem clearMarksCommand_accounts {c : Instr} (p : List Byte) (s : State) :
    AccountsChange c s (clearMarksCommand p s).state := by
  rcases clearMarksCommand_cases p s with h | ⟨i, a, bits, before, h⟩ <;> rw [h]
  · exact .of_eq rfl rfl rfl
  · exact .of_rewrite (b := a.clearMarks bits) before rfl rfl rfl ⟨rfl, rfl, rfl, rfl⟩ fun _ hk => .inl hk

/-- What a billing close makes of an account (R127). -/
def Account.closedBy (a : Account) (n : Nat) : Account := if a.closes then a.atClose n else a

theorem State.closeSlot_account (n : Nat) (s : State) (i j : Fin 64) :
    (State.closeSlot n s i).account j = (if i = j then (s.account j).map fun a => a.closedBy n else s.account j) ∧
    (State.closeSlot n s i).accountRecord j =
      if i = j ∧ ∃ a ∈ s.account j, a.closes = true
      then ⟨storedAccount ((State.closeSlot n s i).account j), true⟩ else s.accountRecord j := by
  have raised (u : State) (b : Bool) (f : AlertFlag) : (u.raiseIf b f).account j = u.account j ∧
      (u.raiseIf b f).accountRecord j = u.accountRecord j :=
    ⟨State.account_congr (by simp) j, State.accountRecord_congr (by simp) j⟩
  unfold State.closeSlot
  split
  · next a ha =>
    split
    · next hc =>
      rw [(raised _ _ _).1, (raised _ _ _).2, State.account_writeAccount, State.accountRecord_writeAccount]
      by_cases hj : i = j
      · subst hj
        simp [ha, hc, Account.closedBy]
      · simp [hj]
    · next hc =>
      by_cases hj : i = j
      · subst hj
        simp [ha, hc, Account.closedBy]
      · simp [hj]
  · next ha =>
    by_cases hj : i = j
    · subst hj
      simp [ha]
    · simp [hj]

/-- A billing close over a list of slots: each account it acts on is closed once and written (R127). -/
theorem State.closeSlots_account (n : Nat) {is : List (Fin 64)} (hn : is.Nodup) (s : State) (j : Fin 64) :
    (is.foldl (State.closeSlot n) s).account j =
      (if j ∈ is then (s.account j).map fun a => a.closedBy n else s.account j) ∧
    (is.foldl (State.closeSlot n) s).accountRecord j =
      if j ∈ is ∧ ∃ a ∈ s.account j, a.closes = true
      then ⟨storedAccount ((is.foldl (State.closeSlot n) s).account j), true⟩ else s.accountRecord j := by
  induction is generalizing s with
  | nil => simp
  | cons i is ih =>
    obtain ⟨hi, hn⟩ := List.nodup_cons.1 hn
    obtain ⟨haccount, hrecord⟩ := ih hn (State.closeSlot n s i)
    obtain ⟨hone, hrec⟩ := State.closeSlot_account n s i j
    rw [List.foldl_cons, hrecord, haccount, hrec]
    by_cases hj : i = j
    · subst hj
      simp [hi, hone]
    · simp [hj, Ne.symm hj, hone]

theorem Account.closedBy_keeps (a : Account) (n : Nat) :
    a.SameName (a.closedBy n) ∧ ∀ k ∈ a.closed, (a.closedBy n).closed = some k := by
  unfold Account.closedBy Account.atClose
  (repeat' split)
  · exact ⟨⟨rfl, rfl, rfl, rfl⟩, fun k hk => hk⟩
  · next h => exact ⟨⟨rfl, rfl, rfl, rfl⟩, fun k hk => by simp [Option.mem_def.1 hk] at h⟩
  · exact ⟨⟨rfl, rfl, rfl, rfl⟩, fun k hk => hk⟩

theorem closeBillingCommand_account (s : State) (j : Fin 64) :
    (closeBillingCommand s).state.account j =
      (s.account j).map (fun a => a.closedBy (nextCloseNumber s.hau.closeNumber)) ∧
    (closeBillingCommand s).state.accountRecord j = if ∃ a ∈ s.account j, a.closes = true
      then ⟨storedAccount ((closeBillingCommand s).state.account j), true⟩ else s.accountRecord j := by
  have slot := State.closeSlots_account (nextCloseNumber s.hau.closeNumber) (List.nodup_finRange 64)
    { s with
      hau := { s.hau with closeNumber := nextCloseNumber s.hau.closeNumber }
      store := { s.store with closeNumber := ⟨nextCloseNumber s.hau.closeNumber, true⟩ } } j
  simp only [List.mem_finRange, true_and, if_true] at slot
  unfold closeBillingCommand slots64
  dsimp only
  generalize (List.finRange 64).foldl (State.closeSlot _) _ = t at slot ⊢
  exact slot

theorem closeBillingCommand_accounts {c : Instr} (s : State) :
    AccountsChange c s (closeBillingCommand s).state := by
  have slot := closeBillingCommand_account s
  have frame : (closeBillingCommand s).state.settings = s.settings := closeBillingCommand_within s .settings (by simp)
  refine .of_free (fun j => ?_) (fun j hj => by rw [(slot j).1, hj]; rfl) (.inl (by rw [frame]))
  obtain ⟨account, record⟩ := slot j
  cases ha : s.account j with
  | none =>
    rw [ha] at account record
    exact .stands (account.trans ha.symm) (record.trans (if_neg (by simp)))
  | some a =>
    rw [ha] at account record
    cases hc : a.closes with
    | false =>
      have same : a.closedBy (nextCloseNumber s.hau.closeNumber) = a := by simp [Account.closedBy, hc]
      rw [Option.map_some, same] at account
      exact .stands (account.trans ha.symm) (record.trans (if_neg (by simp [hc])))
    | true =>
      obtain ⟨name, closed⟩ := a.closedBy_keeps (nextCloseNumber s.hau.closeNumber)
      rw [if_pos ⟨a, rfl, hc⟩, account] at record
      exact .changes a _ ha account name (fun k hk => .inl (closed k hk)) record

/-- A report that ends an exchange (R99). -/
theorem State.takeReport_accounts {c : Instr} (s : State) (a : Nat) (r : Report) :
    AccountsChange c s (s.beginGap.takeReport a r) := by
  rcases s.beginGap.takeReport_cases a r with ⟨role, x, -, h⟩ | ⟨-, h⟩ | ⟨v, -, h⟩ <;> rw [h]
  · unfold State.enterGood State.deliver
    dsimp only
    split
    · exact .of_eq (by split <;> simp) (by split <;> simp) (by split <;> simp)
    · exact .of_eq (by split <;> simp) (by split <;> simp) (by split <;> simp)
    · exact .of_eq (by simp) (by simp) (by simp)
    · generalize hu : s.beginGap.setStation a _ = u
      have hacc (i : Fin 64) : u.account i = s.account i := State.account_congr (by simp [← hu]) i
      rcases u.takeHeat_cases _ _ with k | ⟨b, d, marked, before, reading, k⟩ <;> rw [k]
      · exact .of_eq (by simp [← hu]) (by simp [← hu]) (by simp [← hu])
      · obtain ⟨name, closed⟩ := Account.takeReading_keeps reading
        rw [hacc] at before
        exact .of_rewrite before (by simp [← hu, State.writeAccount, State.setAccount])
          (by simp [← hu, State.writeAccount, State.setAccount]) (by simp [← hu]) name fun n hn => .inl (closed ▸ hn)
    · exact .of_eq (by simp) (by simp) (by simp)
  · exact .of_eq (by simp) (by simp) (by simp)
  · exact .of_held ((State.AccountsHeld.of_eq rfl rfl).trans (State.enterMiss_held s.beginGap a v)) (.inl (by simp))

end Sys2Proof.Machine
end

section
/-! PROOF. Accounts and closed copies leave by collection alone, and bindings and account numbers stay apart
over every command and event, start-up among them (6.1, 6.6 to 6.8; O54, O55). -/

namespace Sys2Proof.Machine

/-! ## Role addresses -/

theorem RoleAddresses.holds_iff {r : RoleAddresses} {a : Nat} : r.holds a = true ↔ a ≠ 0 ∧ a ∈ r.list := by
  simp [RoleAddresses.holds]

theorem State.rolesUnbound_holds {s : State} {r : RoleAddresses} (h : s.rolesUnbound r = true) {a : Nat}
    (ha : r.holds a = true) : s.isBound a = false := by
  have := List.all_eq_true.1 h a (RoleAddresses.holds_iff.1 ha).2
  simpa using this

theorem State.freeRole_eq {s : State} {x a : Nat} (h : s.freeRole x = a) (ha : a ≠ 0) :
    x = a ∧ s.isBound a = false := by
  unfold State.freeRole at h
  split at h
  · exact absurd h.symm ha
  · next hb => exact ⟨h, by rw [← h]; simpa using hb⟩

/-- None of the role addresses that a load or a restore leaves is bound (R132, R169). -/
theorem State.freeRoles_holds {s : State} {r : RoleAddresses} {a : Nat} (ha : (s.freeRoles r).holds a = true) :
    s.isBound a = false := by
  obtain ⟨hne, hmem⟩ := RoleAddresses.holds_iff.1 ha
  simp only [RoleAddresses.list, State.freeRoles, List.mem_cons, List.not_mem_nil, or_false] at hmem
  rcases hmem with h | h | h | h | h <;> exact (State.freeRole_eq h.symm hne).2

theorem State.restored_roles (s : State) (c : Settings) : (s.restored c).roles = s.freeRoles c.roles := by
  unfold State.restored
  dsimp only
  split <;> rfl

/-! ## Every command and event -/

theorem State.applyUnsaved_accounts {c : Instr} {s : State} {b : Bool} {d : Settings}
    (roles : ∀ a, d.roles.holds a = true → s.isBound a = false) :
    AccountsChange c s ((s.setUnsaved b).applySettings d) :=
  .of_held ((State.AccountsHeld.of_eq rfl rfl).trans (State.applySettings_held (s.setUnsaved b) d))
    (.inr (by simpa using roles))

/-- What any command or event but a reset can make of the accounts and their records. -/
theorem exec_accounts {c : Instr} {s t : State} (hc : isReset c = false) (h : exec c s = .next t) :
    AccountsChange c s t := by
  have L := AccountsChange.linked c
  by_cases untouched : .accounts ∉ touched c ∧ .settings ∉ touched c
  · have records : .accountRecords ∉ touched c := by
      cases c <;> simp [touched] at untouched ⊢
    exact .of_eq (exec_within h .accounts untouched.1) (exec_within h .accountRecords records)
      (congrArg Settings.roles (exec_within h .settings untouched.2))
  cases c <;> simp [touched] at untouched <;> simp only [isReset, Bool.true_eq_false] at hc <;>
    obtain rfl := Host.Outcome.next.inj h
  case setSetting p =>
    refine L.takeFrame s fun _ => L.gated fun _ => ?_
    rcases setSettingCommand_cases p s.frameTaken with k | ⟨l, d, -, -, -, -, unbound, k⟩ <;> rw [k]
    · exact L.refl _
    · exact State.applyUnsaved_accounts fun a ha => State.rolesUnbound_holds unbound ha
  case restoreSettings p =>
    refine L.takeFrame s fun _ => L.gated fun _ => L.bare ?_
    rcases restoreCommand_cases s.frameTaken with k | ⟨b, -, k⟩ <;> rw [k]
    · exact L.refl _
    · exact State.applyUnsaved_accounts fun a ha => State.freeRoles_holds (State.restored_roles _ _ ▸ ha)
  case setPollList p =>
    refine L.takeFrame s fun _ => L.gated fun _ => ?_
    rcases setPollListCommand_cases p s.frameTaken with k | ⟨l, k⟩ | ⟨l, k⟩ <;> rw [k]
    · exact L.refl _
    · exact .of_eq rfl rfl rfl
    · exact .of_held (State.putListInForce_held _ l) (.inl (by simp [State.putListInForce]))
  case setAlertMask p =>
    refine L.takeFrame s fun _ => L.gated fun _ => ?_
    unfold setAlertMaskCommand
    (repeat' split) <;> exact .of_eq rfl rfl rfl
  case setProtection p =>
    refine L.takeFrame s fun _ => L.gated fun _ => ?_
    unfold setProtectionCommand
    (repeat' split) <;> exact .of_eq rfl rfl rfl
  case openAccount p =>
    exact L.takeFrame s fun k => L.gated fun _ => openAccountCommand_accounts p (by simpa using k.1)
  case closeBillingPeriod p =>
    exact L.takeFrame s fun _ => L.gated fun _ => L.bare (closeBillingCommand_accounts _)
  case collectAccount p =>
    exact L.takeFrame s fun _ => L.gated fun _ => L.namedAccount fun i a ha => collectEntry_accounts ha
  case closeAccount p =>
    exact L.takeFrame s fun _ => L.gated fun _ => L.namedAccount fun i a ha => closeEntry_accounts ha
  case forceFinal p =>
    exact L.takeFrame s fun _ => L.gated fun _ => L.namedAccount fun i a ha => forceEntry_accounts ha
  case clearAccountMarks p => exact L.takeFrame s fun _ => L.gated fun _ => clearMarksCommand_accounts p _
  case replyTimerExpiry arrived =>
    split
    · next e _ _ =>
      have gap : s.AccountsHeld (s.atExpiry e).beginGap := .of_eq (by simp) (by simp)
      exact .of_held (gap.trans (State.enterMiss_held _ _ _)) (.inl (by simp))
    · exact L.refl s
  case reportComplete report =>
    split
    · exact s.takeReport_accounts _ _
    · exact L.refl s

/-- Settles O54: an account is rewritten with its name and its closed copy, or leaves by collection. -/
theorem accountsAndCopiesLeaveByCollection : Obligations.AccountsAndCopiesLeaveByCollection := by
  intro c s t i a _ hc ha h
  cases (exec_accounts hc h).slot i with
  | stands account _ =>
    rw [account, ha]
    refine ⟨fun k => (Option.some_ne_none _ k).elim, fun b hb => ?_⟩
    obtain rfl := Option.mem_some_iff.1 hb
    exact ⟨rfl, rfl, rfl, rfl, fun k hk => .inl hk⟩
  | opens b _ _ free => rw [free] at ha; cases ha
  | changes d b before account name closed _ =>
    obtain rfl := Option.some.inj (before.symm.trans ha)
    rw [account]
    refine ⟨fun k => (Option.some_ne_none _ k).elim, fun e he => ?_⟩
    obtain rfl := Option.mem_some_iff.1 he
    exact ⟨name.1, name.2.1, name.2.2.1, name.2.2.2, closed⟩
  | leaves d before final collects account _ =>
    obtain rfl := Option.some.inj (before.symm.trans ha)
    rw [account]
    exact ⟨fun _ => ⟨final, collects⟩, fun e he => by cases he⟩

/-! ## The laws of bindings and account numbers -/

theorem AccountState.code_range (st : AccountState) : 1 ≤ st.code ∧ st.code ≤ 4 := by cases st <;> decide

theorem AccountState.ofCode_isSome {n : Nat} : (AccountState.ofCode n).isSome = true ↔ 1 ≤ n ∧ n ≤ 4 := by
  rcases n with _ | _ | _ | _ | _ | n <;> simp [AccountState.ofCode]

theorem holdsAccount_stored (a : Account) : Checked.holdsAccount ⟨storedAccount (some a), true⟩ :=
  ⟨rfl, a.state.code_range⟩

theorem not_holdsAccount_free : ¬ Checked.holdsAccount ⟨storedAccount none, true⟩ := fun h => by
  have := h.2.1
  simp [storedAccount, StoredAccount.free] at this

/-- The slot's record passes its check and holds the slot's number and station, or none (R136). -/
def State.AccountHeld (s : State) (i : Fin 64) : Prop :=
  (s.accountRecord i).good = true ∧
    (Checked.holdsAccount (s.accountRecord i) ↔ (s.account i).isSome = true) ∧
    ∀ a ∈ s.account i, a.number = (s.accountRecord i).value.number ∧
      a.station = (s.accountRecord i).value.station

/-- The stored records that hold an account hold distinct numbers and stations. -/
def State.AccountRecordsApart (s : State) : Prop := ∀ i j,
  Checked.holdsAccount (s.accountRecord i) → Checked.holdsAccount (s.accountRecord j) →
  ((s.accountRecord i).value.number = (s.accountRecord j).value.number → i = j) ∧
  ((s.accountRecord i).value.station ≠ 0 →
    (s.accountRecord i).value.station = (s.accountRecord j).value.station → i = j)

/-- Bindings and numbers of the accounts are apart, from each other and from the roles. -/
def State.AccountsApart (s : State) : Prop := s.BindingsApart ∧ s.AccountNumbersUnique

theorem State.accountHeld_of_written {s : State} {i : Fin 64} {a : Account} (account : s.account i = some a)
    (record : s.accountRecord i = ⟨storedAccount (some a), true⟩) : s.AccountHeld i := by
  unfold State.AccountHeld
  rw [record, account]
  refine ⟨rfl, ⟨fun _ => rfl, fun _ => holdsAccount_stored a⟩, fun b hb => ?_⟩
  obtain rfl := Option.mem_some_iff.1 hb
  exact ⟨rfl, rfl⟩

theorem State.accountHeld_of_freed {s : State} {i : Fin 64} (account : s.account i = none)
    (record : s.accountRecord i = ⟨storedAccount none, true⟩) : s.AccountHeld i := by
  unfold State.AccountHeld
  rw [record, account]
  exact ⟨rfl, ⟨fun h => absurd h not_holdsAccount_free, fun h => by cases h⟩, fun b hb => by cases hb⟩

theorem State.accountsStored_of_up {s : State} (up : s.startingUp = false) (apart : s.AccountsApart)
    (held : ∀ i, s.AccountHeld i) : s.AccountsStored := by
  have account (i : Fin 64) (h : Checked.holdsAccount (s.accountRecord i)) :
      ∃ a ∈ s.account i, a.number = (s.accountRecord i).value.number ∧
        a.station = (s.accountRecord i).value.station := by
    obtain ⟨a, ha⟩ := Option.isSome_iff_exists.1 ((held i).2.1.1 h)
    exact ⟨a, ha, (held i).2.2 a ha⟩
  refine ⟨fun i j hi hj => ?_, fun k => Bool.noConfusion (up.symm.trans k), fun _ i => held i⟩
  obtain ⟨a, ha, hna, hsa⟩ := account i hi
  obtain ⟨b, hb, hnb, hsb⟩ := account j hj
  exact ⟨fun hn => apart.2 i j a ha b hb (hna.trans (hn.trans hnb.symm)),
    fun h0 hs => apart.1.1 i j a ha b hb (by rwa [hsa]) (hsa.trans (hs.trans hsb.symm))⟩

theorem State.apart_of_blank {s : State} (blank : ∀ i, s.account i = none) : s.AccountsApart := by
  refine ⟨⟨fun i j a ha => ?_, fun i a ha => ?_⟩, fun i j a ha => ?_⟩ <;> (rw [blank i] at ha; cases ha)

/-- Where the account of a slot comes from: one with its name, or an opening. -/
theorem AccountChange.origin {c : Instr} {s t : State} {i : Fin 64} (h : AccountChange c s t i) {b : Account}
    (hb : t.account i = some b) : (∃ a, s.account i = some a ∧ a.SameName b) ∨
      (s.account i = none ∧ t.settings.roles = s.settings.roles ∧ s.findAccount b.number = none ∧
        b.number ≠ 0 ∧ b.station ≠ 0 ∧ s.isBound b.station = false ∧
        s.settings.roles.holds b.station = false) := by
  cases h with
  | stands account _ => exact .inl ⟨b, account ▸ hb, rfl, rfl, rfl, rfl⟩
  | opens d up roles free account fresh number station unbound noRole _ =>
    obtain rfl := Option.some.inj (account.symm.trans hb)
    exact .inr ⟨free, roles, fresh, number, station, unbound, noRole⟩
  | changes a d before account name _ _ =>
    obtain rfl := Option.some.inj (account.symm.trans hb)
    exact .inl ⟨a, before, name⟩
  | leaves a _ _ _ account _ => rw [account] at hb; cases hb

theorem State.findAccount_none {s : State} {n : Nat} (h : s.findAccount n = none) (hn : n ≠ 0) (i : Fin 64) :
    ∀ a ∈ s.account i, a.number ≠ n := by
  intro a ha hna
  unfold State.findAccount at h
  rw [if_neg hn, List.findSome?_eq_none_iff] at h
  have := h i (List.mem_finRange i)
  rw [Option.mem_def.1 ha] at this
  simp [hna] at this

theorem State.isBound_false {s : State} {n : Nat} (h : s.isBound n = false) (hn : n ≠ 0) (i : Fin 64) :
    ∀ a ∈ s.account i, a.station ≠ n := by
  intro a ha hs
  have : s.isBound n = true := State.isBound_iff.2 ⟨hn, i, a, ha, hs⟩
  rw [h] at this
  cases this

theorem AccountsChange.apart {c : Instr} {s t : State} (h : AccountsChange c s t) (apart : s.AccountsApart) :
    t.AccountsApart := by
  obtain ⟨⟨stations, noRole⟩, numbers⟩ := apart
  have filled {i j : Fin 64} {a b : Account} (ha : t.account i = some a) (hb : t.account j = some b)
      (hi : s.account i = none) (hj : s.account j = none) : i = j :=
    h.once i j hi (by simp [ha]) hj (by simp [hb])
  refine ⟨⟨fun i j a ha b hb h0 hab => ?_, fun i a ha => ?_⟩, fun i j a ha b hb hab => ?_⟩
  · rcases (h.slot i).origin ha with ⟨a', ha', na⟩ | ⟨hi, -, -, -, hsa, unbound, -⟩
    · rcases (h.slot j).origin hb with ⟨b', hb', nb⟩ | ⟨-, -, -, -, hsb, unbound, -⟩
      · exact stations i j a' ha' b' hb' (na.2.1 ▸ h0) (na.2.1.symm.trans (hab.trans nb.2.1))
      · exact absurd (na.2.1.symm.trans hab) (State.isBound_false unbound hsb i a' ha')
    · rcases (h.slot j).origin hb with ⟨b', hb', nb⟩ | ⟨hj, -⟩
      · exact absurd (nb.2.1.symm.trans hab.symm) (State.isBound_false unbound hsa j b' hb')
      · exact filled ha hb hi hj
  · rcases (h.slot i).origin ha with ⟨a', ha', na⟩ | ⟨-, roles, -, -, -, -, hno⟩
    · rw [na.2.1]
      rcases h.roles with roles | roles
      · rw [roles]
        exact noRole i a' ha'
      · by_contra hholds
        rw [Bool.not_eq_false] at hholds
        exact State.isBound_false (roles _ hholds) (RoleAddresses.holds_iff.1 hholds).1 i a' ha' rfl
    · rw [roles]
      exact hno
  · rcases (h.slot i).origin ha with ⟨a', ha', na⟩ | ⟨hi, -, fresh, hna, -⟩
    · rcases (h.slot j).origin hb with ⟨b', hb', nb⟩ | ⟨-, -, fresh, hnb, -⟩
      · exact numbers i j a' ha' b' hb' (na.1.symm.trans (hab.trans nb.1))
      · exact absurd (na.1.symm.trans hab) (State.findAccount_none fresh hnb i a' ha')
    · rcases (h.slot j).origin hb with ⟨b', hb', nb⟩ | ⟨hj, -⟩
      · exact absurd (nb.1.symm.trans hab.symm) (State.findAccount_none fresh hna j b' hb')
      · exact filled ha hb hi hj

theorem AccountChange.held {c : Instr} {s t : State} {i : Fin 64} (h : AccountChange c s t i)
    (held : s.AccountHeld i) : t.AccountHeld i := by
  cases h with
  | stands account record =>
    unfold State.AccountHeld
    rw [record, account]
    exact held
  | opens b _ _ _ account _ _ _ _ _ record => exact State.accountHeld_of_written account record
  | changes a b _ account _ _ record => exact State.accountHeld_of_written account record
  | leaves a _ _ _ account record => exact State.accountHeld_of_freed account record

/-! ## Start-up -/

/-- The account a record that passes its check reloads as (R137). -/
def StoredAccount.reloaded (r : StoredAccount) : Option Account :=
  (AccountState.ofCode r.state).map (StoredAccount.account r)

theorem State.loadGoodAccount_eq (s : State) (i : Fin 64) : s.loadGoodAccount i =
    if (s.accountRecord i).good = true then s.setAccount i (StoredAccount.reloaded (s.accountRecord i).value)
    else s := rfl

theorem State.account_loadGoodAccount (s : State) (i j : Fin 64) : (s.loadGoodAccount i).account j =
    if i = j ∧ (s.accountRecord i).good = true then StoredAccount.reloaded (s.accountRecord i).value
    else s.account j := by
  rw [State.loadGoodAccount_eq]
  split
  · next hg => rw [State.account_setAccount]; simp [hg]
  · next hg => simp [hg]

/-- All good records loaded: each slot of the list whose record passes holds what that record gives (R137). -/
theorem State.loadGoodAccounts_slot (is : List (Fin 64)) (s : State) (j : Fin 64) :
    (is.foldl State.loadGoodAccount s).account j =
      if j ∈ is ∧ (s.accountRecord j).good = true
      then StoredAccount.reloaded (s.accountRecord j).value else s.account j := by
  induction is generalizing s with
  | nil => simp
  | cons i is ih =>
    have hrecord (k : Fin 64) : (s.loadGoodAccount i).accountRecord k = s.accountRecord k :=
      State.accountRecord_congr (by simp) k
    rw [List.foldl_cons, ih, hrecord, State.account_loadGoodAccount]
    by_cases hj : i = j
    · subst hj
      cases hg : (s.accountRecord i).good <;> simp
    · simp [hj, Ne.symm hj]

theorem State.loadFailingAccount_eq (s : State) (i : Fin 64) : s.loadFailingAccount i =
    if (s.accountRecord i).good = true then s
    else ((s.writeAccount i (s.damagedAccount (s.accountRecord i).value)).raiseIf
      (decide ((s.accountRecord i).value.state ≠ 0)) .recordDamaged).raiseIf
      (s.damagedAccount (s.accountRecord i).value).isSome .accountEvent := rfl

theorem State.account_loadFailingAccount (s : State) (i j : Fin 64) : (s.loadFailingAccount i).account j =
    (if i = j ∧ (s.accountRecord i).good = false then s.damagedAccount (s.accountRecord i).value
      else s.account j) ∧ (s.loadFailingAccount i).accountRecord j =
    if i = j ∧ (s.accountRecord i).good = false
      then ⟨storedAccount (s.damagedAccount (s.accountRecord i).value), true⟩ else s.accountRecord j := by
  rw [State.loadFailingAccount_eq]
  split
  · next hg => simp [hg]
  · next hg =>
    have raised (u : State) (b d : Bool) (f g : AlertFlag) :
        ((u.raiseIf b f).raiseIf d g).account j = u.account j ∧
        ((u.raiseIf b f).raiseIf d g).accountRecord j = u.accountRecord j :=
      ⟨State.account_congr (by simp) j, State.accountRecord_congr (by simp) j⟩
    rw [(raised _ _ _ _ _).1, (raised _ _ _ _ _).2, State.account_writeAccount, State.accountRecord_writeAccount]
    simp [hg]

/-- A failing record loads as an account of a number that no slot has and a station that is free, or as none
(R132). -/
theorem State.damagedAccount_some {s : State} {r : StoredAccount} {a : Account}
    (h : s.damagedAccount r = some a) : a = StoredAccount.salvaged r (s.salvagedStation r.station) ∧
      a.number ≠ 0 ∧ s.findAccount a.number = none ∧
      (a.station ≠ 0 → s.isBound a.station = false ∧ s.settings.roles.holds a.station = false) := by
  unfold State.damagedAccount at h
  split at h
  · cases h
  · next hno =>
    obtain rfl := Option.some.inj h
    simp only [not_or, Bool.not_eq_true, Option.isSome_eq_false_iff, Option.isNone_iff_eq_none] at hno
    obtain ⟨-, hnumber, hfind⟩ := hno
    refine ⟨rfl, ?_, hfind, fun hs => ?_⟩
    · change min Config.maxNumber r.number ≠ 0
      have : Config.maxNumber ≠ 0 := by decide
      omega
    · change s.salvagedStation r.station ≠ 0 at hs
      change s.isBound (s.salvagedStation r.station) = false ∧ _
      unfold State.salvagedStation at hs ⊢
      split at hs
      · exact absurd rfl hs
      · next hfree =>
        simp only [Bool.or_eq_true, not_or, Bool.not_eq_true] at hfree
        rw [if_neg (by simp [hfree.1.1, hfree.1.2, hfree.2])]
        exact ⟨hfree.1.2, hfree.2⟩

/-- The slot waits for its failing record to be loaded. -/
def State.AccountWaits (s : State) (is : List (Fin 64)) (i : Fin 64) : Prop :=
  i ∈ is ∧ (s.accountRecord i).good = false ∧ s.account i = none

/-- While failing records are loaded: accounts are apart, and every slot is held by its record or waits. -/
def State.AccountsLoading (s : State) (is : List (Fin 64)) : Prop :=
  s.AccountsApart ∧ ∀ j, s.AccountHeld j ∨ s.AccountWaits is j

theorem State.yieldRoles_frame' (s : State) : s.yieldRoles.hau = s.hau ∧ s.yieldRoles.store = s.store ∧
    s.yieldRoles.settings.roles = s.freeRoles s.settings.roles := by
  unfold State.yieldRoles
  dsimp only
  split
  · next h => exact ⟨rfl, rfl, h.symm⟩
  · exact ⟨rfl, rfl, rfl⟩

theorem StoredAccount.reloaded_isSome {r : StoredAccount} :
    (StoredAccount.reloaded r).isSome = true ↔ 1 ≤ r.state ∧ r.state ≤ 4 := by
  rw [StoredAccount.reloaded, Option.isSome_map, AccountState.ofCode_isSome]

theorem StoredAccount.reloaded_name {r : StoredAccount} {a : Account} (h : StoredAccount.reloaded r = some a) :
    a.number = r.number ∧ a.station = r.station := by
  obtain ⟨st, -, rfl⟩ := Option.map_eq_some_iff.1 h
  exact ⟨rfl, rfl⟩

theorem State.loadGoodAccounts_loading {s : State} (blank : ∀ i, s.account i = none)
    (apart : s.AccountRecordsApart) :
    (slots64.foldl State.loadGoodAccount s).yieldRoles.AccountsLoading slots64 := by
  have all (j : Fin 64) : j ∈ slots64 := List.mem_finRange j
  obtain ⟨hhau, hstore, hroles⟩ := (slots64.foldl State.loadGoodAccount s).yieldRoles_frame'
  have slot (j : Fin 64) : (slots64.foldl State.loadGoodAccount s).account j =
      if (s.accountRecord j).good = true then StoredAccount.reloaded (s.accountRecord j).value else none := by
    rw [State.loadGoodAccounts_slot, blank j]
    simp [all]
  have record (j : Fin 64) : (slots64.foldl State.loadGoodAccount s).accountRecord j = s.accountRecord j :=
    State.accountRecord_congr (by simp) j
  generalize slots64.foldl State.loadGoodAccount s = g at *
  have account' (j : Fin 64) : g.yieldRoles.account j = g.account j := State.account_congr hhau j
  have record' (j : Fin 64) : g.yieldRoles.accountRecord j = s.accountRecord j :=
    (State.accountRecord_congr (by rw [hstore]) j).trans (record j)
  have source {j : Fin 64} {a : Account} (ha : g.yieldRoles.account j = some a) :
      Checked.holdsAccount (s.accountRecord j) ∧ a.number = (s.accountRecord j).value.number ∧
        a.station = (s.accountRecord j).value.station := by
    rw [account', slot] at ha
    split at ha
    · next good =>
      exact ⟨⟨good, StoredAccount.reloaded_isSome.1 (by rw [ha]; rfl)⟩, StoredAccount.reloaded_name ha⟩
    · cases ha
  refine ⟨⟨⟨fun i j a ha b hb h0 hab => ?_, fun i a ha => ?_⟩, fun i j a ha b hb hab => ?_⟩, fun j => ?_⟩
  · obtain ⟨hi, -, hsa⟩ := source ha
    obtain ⟨hj, -, hsb⟩ := source hb
    exact (apart i j hi hj).2 (hsa ▸ h0) (hsa.symm.trans (hab.trans hsb))
  · by_contra hholds
    rw [Bool.not_eq_false, hroles] at hholds
    exact State.isBound_false (State.freeRoles_holds hholds) (RoleAddresses.holds_iff.1 hholds).1 i a
      (account' i ▸ ha) rfl
  · obtain ⟨hi, hna, -⟩ := source ha
    obtain ⟨hj, hnb, -⟩ := source hb
    exact (apart i j hi hj).1 (hna.symm.trans (hab.trans hnb))
  · cases good : (s.accountRecord j).good with
    | false => exact .inr ⟨all j, by rw [record', good], by rw [account', slot]; simp [good]⟩
    | true =>
      refine .inl ⟨by rw [record', good], ?_, fun a ha => ?_⟩
      · rw [record', account', slot, if_pos good, StoredAccount.reloaded_isSome]
        exact ⟨fun h => h.2, fun h => ⟨good, h⟩⟩
      · rw [record']
        exact (source ha).2

theorem State.AccountsLoading.step {s : State} {i : Fin 64} {is : List (Fin 64)}
    (h : s.AccountsLoading (i :: is)) : (s.loadFailingAccount i).AccountsLoading is := by
  obtain ⟨⟨⟨stations, noRole⟩, numbers⟩, slots⟩ := h
  cases good : (s.accountRecord i).good with
  | true =>
    rw [State.loadFailingAccount_eq, if_pos good]
    refine ⟨⟨⟨stations, noRole⟩, numbers⟩, fun j => (slots j).imp id fun ⟨hj, hbad, hnone⟩ => ⟨?_, hbad, hnone⟩⟩
    refine (List.mem_cons.1 hj).resolve_left ?_
    rintro rfl
    rw [good] at hbad; cases hbad
  | false =>
    have account (j : Fin 64) : (s.loadFailingAccount i).account j =
        if i = j then s.damagedAccount (s.accountRecord i).value else s.account j := by
      rw [(s.account_loadFailingAccount i j).1]; simp [good]
    have record (j : Fin 64) : (s.loadFailingAccount i).accountRecord j =
        if i = j then ⟨storedAccount (s.damagedAccount (s.accountRecord i).value), true⟩
        else s.accountRecord j := by
      rw [(s.account_loadFailingAccount i j).2]; simp [good]
    have roles : (s.loadFailingAccount i).settings = s.settings := by
      rw [State.loadFailingAccount_eq, if_neg (by simp [good])]; simp
    have origin {j : Fin 64} {a : Account} (ha : (s.loadFailingAccount i).account j = some a) :
        (i = j ∧ s.damagedAccount (s.accountRecord i).value = some a) ∨ s.account j = some a := by
      rw [account] at ha
      split at ha
      · next hj => exact .inl ⟨hj, ha⟩
      · exact .inr ha
    refine ⟨⟨⟨fun j k a ha b hb h0 hab => ?_, fun j a ha => ?_⟩, fun j k a ha b hb hab => ?_⟩, fun j => ?_⟩
    · rcases origin ha with ⟨hj, da⟩ | ha <;> rcases origin hb with ⟨hk, db⟩ | hb
      · exact hj.symm.trans hk
      · exact absurd hab.symm (State.isBound_false ((State.damagedAccount_some da).2.2.2 h0).1 h0 k b hb)
      · have h0' : b.station ≠ 0 := hab ▸ h0
        exact absurd hab (State.isBound_false ((State.damagedAccount_some db).2.2.2 h0').1 h0' j a ha)
      · exact stations j k a ha b hb h0 hab
    · rw [roles]
      rcases origin ha with ⟨-, da⟩ | ha
      · by_cases h0 : a.station = 0
        · rw [h0]; rfl
        · exact ((State.damagedAccount_some da).2.2.2 h0).2
      · exact noRole j a ha
    · rcases origin ha with ⟨hj, da⟩ | ha <;> rcases origin hb with ⟨hk, db⟩ | hb
      · exact hj.symm.trans hk
      · obtain ⟨-, hn, fresh, -⟩ := State.damagedAccount_some da
        exact absurd hab.symm (State.findAccount_none fresh hn k b hb)
      · obtain ⟨-, hn, fresh, -⟩ := State.damagedAccount_some db
        exact absurd hab (State.findAccount_none fresh hn j a ha)
      · exact numbers j k a ha b hb hab
    · by_cases hj : i = j
      · refine .inl ?_
        cases hd : s.damagedAccount (s.accountRecord i).value with
        | none =>
          exact State.accountHeld_of_freed (by rw [account, if_pos hj, hd]) (by rw [record, if_pos hj, hd])
        | some a =>
          exact State.accountHeld_of_written (a := a) (by rw [account, if_pos hj, hd])
            (by rw [record, if_pos hj, hd])
      · rw [State.AccountHeld, State.AccountWaits, account, record, if_neg hj, if_neg hj]
        refine (slots j).imp id fun ⟨hmem, hbad, hnone⟩ => ⟨?_, hbad, hnone⟩
        exact (List.mem_cons.1 hmem).resolve_left (Ne.symm hj)

theorem State.AccountsLoading.foldl {s : State} {is : List (Fin 64)} (h : s.AccountsLoading is) :
    (is.foldl State.loadFailingAccount s).AccountsLoading [] := by
  induction is generalizing s with
  | nil => exact h
  | cons i is ih => exact ih h.step

/-- The state in which start-up loads the accounts, and the failing ones among them loaded (R171, step 3). -/
def State.accountsLoaded (s : State) : State :=
  slots64.foldl State.loadFailingAccount
    (slots64.foldl State.loadGoodAccount s.settled.loadOfftakes).yieldRoles

theorem State.loadAccounts_eq (s : State) : s.settled.loadOfftakes.loadAccounts =
    s.accountsLoaded.loadCloseNumber := rfl

theorem State.startUp_accounts (s : State) : s.startUp.hau.accounts = s.accountsLoaded.hau.accounts ∧
    s.startUp.store.accounts = s.accountsLoaded.store.accounts ∧
    s.startUp.settings.roles = s.accountsLoaded.settings.roles := by
  rw [State.startUp_eq]
  unfold State.loaded
  rw [State.loadAccounts_eq]
  generalize s.accountsLoaded = u
  have closed : u.loadCloseNumber.hau.accounts = u.hau.accounts := by
    unfold State.loadCloseNumber; dsimp only; split <;> rfl
  split <;> simp [State.placeRoles, State.startTimers, closed]

theorem State.startUp_accountsStored {s : State} (blank : ∀ i, s.account i = none)
    (apart : s.AccountRecordsApart) : s.startUp.AccountsApart ∧ s.startUp.AccountsStored := by
  have haccount (i : Fin 64) : s.settled.loadOfftakes.account i = s.account i :=
    State.account_congr (by simp) i
  have hstore : s.settled.loadOfftakes.store.accounts = s.store.accounts := by simp
  have hrecord (i : Fin 64) : s.settled.loadOfftakes.accountRecord i = s.accountRecord i :=
    State.accountRecord_congr hstore i
  have before : s.settled.loadOfftakes.AccountRecordsApart := by
    simpa only [State.AccountRecordsApart, hrecord] using apart
  have loaded : s.accountsLoaded.AccountsLoading [] :=
    (State.loadGoodAccounts_loading (fun i => (haccount i).trans (blank i)) before).foldl
  obtain ⟨apart', slots⟩ := loaded
  obtain ⟨accounts, records, roles⟩ := s.startUp_accounts
  have account (i : Fin 64) : s.startUp.account i = s.accountsLoaded.account i :=
    State.account_of_accounts accounts i
  have record (i : Fin 64) : s.startUp.accountRecord i = s.accountsLoaded.accountRecord i :=
    State.accountRecord_congr records i
  have started : s.startUp.AccountsApart := by
    simpa only [State.AccountsApart, State.BindingsApart, State.AccountNumbersUnique, account, roles] using apart'
  refine ⟨started, State.accountsStored_of_up s.startUp_startingUp started fun i => ?_⟩
  rw [State.AccountHeld, account, record]
  exact (slots i).resolve_right fun h => by cases h.1

/-! ## The law over every step -/

/-- A reset leaves each stored account record as it was, or failing its check (R132, R171). -/
theorem Store.tears_accountRecord (ts : List Torn) (d : Store) (i : Fin 64) :
    (ts.foldl Store.tear d).accounts[i] = d.accounts[i] ∨
      ((ts.foldl Store.tear d).accounts[i]).good = false := by
  induction ts generalizing d with
  | nil => exact .inl rfl
  | cons a ts ih =>
    rw [List.foldl_cons]
    have one : (d.tear a).accounts[i] = d.accounts[i] ∨ ((d.tear a).accounts[i]).good = false := by
      cases a with
      | account j c =>
        have := getElem_setAt d.accounts j i ⟨c, false⟩
        simp only [Store.tear, this]
        split
        · exact .inr rfl
        · exact .inl rfl
      | counterUnwritten => simp only [Store.tear]; split <;> exact .inl rfl
      | _ => exact .inl rfl
    rcases ih (d.tear a) with h | h
    · rw [h]; exact one
    · exact .inr h

theorem State.accountsStored_of_blank {s : State} (starting : s.startingUp = true)
    (blank : ∀ i, s.account i = none) (apart : s.AccountRecordsApart) : s.AccountsApart ∧ s.AccountsStored :=
  ⟨State.apart_of_blank blank, apart, fun _ => blank, fun k => Bool.noConfusion (starting.symm.trans k)⟩

/-- Records that stand or fail keep what holds an account apart. -/
theorem State.AccountRecordsApart.of_stands {s t : State} (h : s.AccountRecordsApart)
    (k : ∀ i, Checked.holdsAccount (t.accountRecord i) → t.accountRecord i = s.accountRecord i) :
    t.AccountRecordsApart := by
  intro i j hi hj
  have ki := k i hi
  have kj := k j hj
  rw [ki, kj]
  exact h i j (ki ▸ hi) (kj ▸ hj)

theorem State.begun_account (d : Store) (r : ResetRecord) (l : Bool) (n : Nat) (q : List Instr) (i : Fin 64) :
    (State.begun d r l n q).account i = none := by
  simp [State.account, State.begun, HeatAccounts.blank]

theorem exec_accountsStored {c : Instr} {s t : State} (apart : s.AccountsApart) (stored : s.AccountsStored)
    (h : exec c s = .next t) : t.AccountsApart ∧ t.AccountsStored := by
  cases hc : isReset c with
  | false =>
    have change := exec_accounts hc h
    have apart' := change.apart apart
    refine ⟨apart', ?_⟩
    have same : t.startingUp = s.startingUp :=
      exec_within h .startingUp (by cases c <;> simp [touched, isReset] at hc ⊢)
    cases up : s.startingUp with
    | false => exact State.accountsStored_of_up (same.trans up) apart' fun i => (change.slot i).held (stored.2.2 up i)
    | true =>
      have blank := stored.2.1 up
      have stands (i : Fin 64) : t.account i = none ∧ t.accountRecord i = s.accountRecord i := by
        cases change.slot i with
        | stands account record => exact ⟨account.trans (blank i), record⟩
        | opens b up' => rw [up] at up'; cases up'
        | changes a b before => rw [blank i] at before; cases before
        | leaves a before => rw [blank i] at before; cases before
      have records : s.AccountRecordsApart := stored.1
      exact (State.accountsStored_of_blank (same.trans up) (fun i => (stands i).1)
        (records.of_stands fun i _ => (stands i).2)).2
  | true =>
    rcases exec_reset_cases hc h with ⟨r, torn, rfl⟩ | ⟨hup, ht⟩ | rfl | ⟨l, rfl, -⟩
    · have records : s.AccountRecordsApart := stored.1
      refine State.accountsStored_of_blank rfl (State.begun_account _ _ _ _ _) (records.of_stands fun i hi => ?_)
      rcases Store.tears_accountRecord torn s.store i with k | k
      · exact k
      · exact absurd hi.1 (by rw [Bool.not_eq_true]; exact k)
    · rw [ht]
      exact State.startUp_accountsStored (stored.2.1 hup) stored.1
    · exact ⟨apart, stored⟩
    · exact ⟨apart, stored⟩

/-- Settles O55: a command rewrites accounts with their names or opens one apart from all and from the roles,
new roles are bound by none, and start-up loads distinct good records, frees the roles bound, and gives
failing ones what is left. -/
theorem bindingsStayApart : Obligations.BindingsStayApart := by
  intro s t apart unique stored h
  rcases step_cases h with ⟨c, rest, picks, h⟩ | rfl
  · obtain ⟨⟨apart, unique⟩, stored⟩ :=
      exec_accountsStored (s := { s with pending := rest, picks := picks }) ⟨apart, unique⟩ stored h
    exact ⟨apart, unique, stored⟩
  · exact ⟨apart, unique, stored⟩

/-! ## The state after reset -/

/-- Settles O38. -/
theorem resetMeetsTheLaws : Obligations.ResetMeetsTheLaws := by
  have quiet : State.reset.Quiet := State.begun_quiet _ _ _ _ _
  have free (i : Fin 48) : (State.reset.record i).value.state = 0 := by
    simp [State.record, State.reset, State.begun, Store.factory, StoredOfftake.free]
  have freeAccount (i : Fin 64) : ¬ Checked.holdsAccount (State.reset.accountRecord i) := fun h => by
    simpa [State.accountRecord, State.reset, State.begun, Store.factory, StoredAccount.free] using h.2.1
  obtain ⟨stored, unique⟩ := State.tableStored_of_blank (s := State.reset) rfl (State.entry_of_blank quiet.2.1)
    ⟨fun i _ _ hi => absurd (free i) hi, fun i _ hi => absurd (free i) hi⟩
  obtain ⟨⟨bindings, numbers⟩, accounts⟩ := State.accountsStored_of_blank (s := State.reset) rfl
    (State.begun_account _ _ _ _ _) fun i _ hi => absurd hi (freeAccount i)
  exact ⟨State.reset.engineSound_iff.2 ⟨quiet.blank.core, fun _ => quiet⟩, quiet.blank.conserved,
    quiet.blank.coverageSound, quiet.blank.boosts, unique, stored, State.begun_follows _ _ _ _ _, numbers,
    bindings, accounts⟩

end Sys2Proof.Machine
end

section
/-! PROOF. The link (R151 to R166): what a taken frame comes to by its owner's answer, frames that are not
heard, spoiled frames, the shift-out, and standalone operation as its commands and its timer see it. -/

namespace Sys2Proof.Machine

/-! ## A taken frame by its owner's answer -/

/-- The owner refuses: only the answer changes (R163). -/
theorem State.takeFrame_of_reply {s : State} (h : s.Taking) {own : State → Answer} {r : Reply}
    (k : own s.frameTaken = ⟨r, s.frameTaken⟩) : s.takeFrame own = s.answered r := by
  rw [State.takeFrame_of_taking h, k]
  exact s.respond_frameTaken r

/-- The owner answers from a state whose link is as the frame left it. -/
theorem State.takeFrame_of_answer {s t : State} (h : s.Taking) {own : State → Answer} {r : Reply}
    (k : own s.frameTaken = ⟨r, t⟩) (l : t.cl = s.linkAfter s.cl.response) :
    s.takeFrame own = { t with cl := s.linkAfter r } := by
  rw [State.takeFrame_of_taking h, k]
  exact State.respond_of_cl l r

/-- Outside standalone operation the gate lets the owner answer (R155). -/
theorem gated_frameTaken {s : State} (h : s.cl.standalone = false) (own : State → Answer) :
    gated own s.frameTaken = own s.frameTaken := by
  simp [gated, h]

theorem State.takeFrame_gated_of_reply {s : State} (h : s.Serving) {own : State → Answer} {r : Reply}
    (k : own s.frameTaken = ⟨r, s.frameTaken⟩) : s.takeFrame (gated own) = s.answered r :=
  State.takeFrame_of_reply h.1 ((gated_frameTaken h.2 own).trans k)

theorem State.takeFrame_gated_of_answer {s t : State} (h : s.Serving) {own : State → Answer} {r : Reply}
    (k : own s.frameTaken = ⟨r, t⟩) (l : t.cl = s.linkAfter s.cl.response) :
    s.takeFrame (gated own) = { t with cl := s.linkAfter r } :=
  State.takeFrame_of_answer h.1 ((gated_frameTaken h.2 own).trans k) l

/-- A payload of one field. -/
theorem splitFields_single (w n : Nat) : splitFields [w] (beBytes w n) = some [n % 256 ^ w] := by
  have := splitFields_join w n [] []
  rwa [List.append_nil] at this

/-! ## Frames that are not heard, and spoiled ones -/

theorem State.discardFrame_of_not_taking {s : State} (h : ¬ s.Taking) (code : ResultCode) :
    s.discardFrame code = s.endTransaction := by
  have : s.hearsFrame ≠ true := fun k => h (State.hearsFrame_iff.1 k)
  simp [State.discardFrame, this]

theorem State.discardFrame_of_taking {s : State} (h : s.Taking) (code : ResultCode) :
    s.discardFrame code = { s with
      cl := { s.cl with response := ⟨code, []⟩, shiftOut := none }
      fs := { s.fs with alerts := s.fs.alerts ||| 0x100#12 } } := by
  simp only [State.discardFrame, State.hearsFrame_iff.2 h, if_true]
  rfl

theorem execResetPart_of_not_taking {s : State} (h : ¬ s.Taking) (p : List Byte) (torn : List Torn) :
    exec (.resetPart p torn) s = .next s.endTransaction := by
  have silent : s.hearsFrame ≠ true := fun k => h (State.hearsFrame_iff.1 k)
  have : exec (.resetPart p torn) s = .next (s.takeFrame fun t => t.refuse .badLength) := by
    simp [exec, execResetPart, silent]
  rw [this, State.takeFrame_of_not_taking h]

/-- A host frame but RESET PART is handed to an owner when it is taken. -/
theorem hostFrame_cases {c : Instr} (h : c.hostFrame.isSome = true) :
    isFrame c = true ∨ ∃ p torn, c = .resetPart p torn := by
  cases c <;> simp [Instr.hostFrame, isFrame] at h ⊢

/-- Settles O11, by the kind of frame. -/
theorem unheardFramesChangeNothing : Obligations.UnheardFramesChangeNothing := by
  intro c s silent frame
  rcases frame with host | rfl | rfl
  · rcases hostFrame_cases host with owned | ⟨p, torn, rfl⟩
    · obtain ⟨own, hown⟩ := exec_frame owned
      rw [hown, State.takeFrame_of_not_taking silent]
      rfl
    · exact execResetPart_of_not_taking silent p torn
  · exact congrArg _ (State.discardFrame_of_not_taking silent _)
  · exact congrArg _ (State.discardFrame_of_not_taking silent _)

/-! ## What the end of a transaction brings -/

theorem endOfTransaction_of_spoiled (torn : List Torn) (stray : Nat) (code len : Byte) (rest : List Byte)
    (h : 60 < len.toNat ∨ 0 < stray ∨ rest.length ≤ len.toNat) :
    endOfTransaction torn (code :: len :: rest) stray = some .frameError := by
  unfold endOfTransaction
  dsimp only
  by_cases k : maxPayload < len.toNat ∨ stray ≠ 0
  · rw [if_pos k]
  · have : rest.drop len.toNat = [] := List.drop_eq_nil_of_le (by
      simp only [maxPayload] at k
      omega)
    rw [if_neg k, this]

/-- A whole frame: its check byte decides (R159, R160). -/
theorem endOfTransaction_of_whole (torn : List Torn) (code len check : Byte) (p filler : List Byte)
    (short : len.toNat ≤ 60) (whole : p.length = len.toNat) :
    endOfTransaction torn (code :: len :: (p ++ check :: filler)) 0 =
      if xorOf (code :: len :: p) = check then some (commandOf torn code p) else some .checkError := by
  have k : ¬ (maxPayload < len.toNat ∨ (0 : Nat) ≠ 0) := by simp only [maxPayload]; omega
  unfold endOfTransaction
  dsimp only
  rw [if_neg k, ← whole, List.drop_left, List.take_left]

/-- Settles O4: the bytes by the checks in their order, the outcomes by `discardFrame`. -/
theorem spoiledFramesAreDiscarded : Obligations.SpoiledFramesAreDiscarded := by
  refine ⟨fun torn stray code len rest => ⟨?nothing, ?bits, ?cut, ?long, ?short, ?check⟩,
    fun s h => ⟨?frame, ?sum⟩, ?unknown⟩
  case nothing => rfl
  case bits => rfl
  case cut => rfl
  case long => exact fun h => endOfTransaction_of_spoiled _ _ _ _ _ (.inl h)
  case short => exact fun h => endOfTransaction_of_spoiled _ _ _ _ _ (.inr h)
  case check =>
    intro p filler check short whole other
    rw [endOfTransaction_of_whole torn code len check p filler short whole, if_neg other.symm]
  case frame => exact congrArg _ (State.discardFrame_of_taking h _)
  case sum => exact congrArg _ (State.discardFrame_of_taking h _)
  case unknown => exact fun code p s h => congrArg _ (State.takeFrame_of_reply h rfl)

theorem commandOf_unnamed {code : Byte} (h : namesNoCommand code = true) (torn : List Torn) (p : List Byte) :
    commandOf torn code p = .unknownCommand code p := by
  rw [namesNoCommand, beq_iff_eq] at h
  revert h
  unfold commandOf
  generalize code.toNat = n
  split <;> simp

/-- A command byte with the payload it was sent with names the command again (R176). -/
theorem commandOf_hostFrame {i : Instr} {code : Byte} {p : List Byte} {torn : List Torn}
    (unnamed : ∀ q, i = .unknownCommand code q → namesNoCommand code = true)
    (frame : i.hostFrame = some (code, p)) (reset : ∀ q u, i = .resetPart q u → u = torn) :
    commandOf torn code p = i := by
  cases i <;> simp only [Instr.hostFrame, reduceCtorEq, Option.some.injEq, Prod.mk.injEq] at frame <;>
    obtain ⟨rfl, rfl⟩ := frame
  case resetPart u => rw [reset _ _ rfl]; rfl
  case unknownCommand => exact commandOf_unnamed (unnamed _ rfl) torn _
  all_goals rfl

/-- Settles O3: the frame is whole and its check byte holds, so its command byte and payload decide. -/
theorem hostFramesRoundTrip : Obligations.HostFramesRoundTrip := by
  intro i code p filler torn formed frame reset
  simp only [Instr.wellFormed, frame, Bool.and_eq_true, payloadFits, decide_eq_true_eq] at formed
  obtain ⟨fits, formed⟩ := formed
  have unnamed : ∀ q, i = .unknownCommand code q → namesNoCommand code = true := by
    rintro q rfl
    exact formed
  have bytes : frameBytes code p ++ filler = code :: BitVec.ofNat 8 p.length ::
      (p ++ xorOf (frameBody code p) :: filler) := by simp [frameBytes, frameBody]
  have length : (BitVec.ofNat 8 p.length).toNat = p.length := toNat_lengthByte fits
  rw [bytes, endOfTransaction_of_whole _ _ _ _ _ _ (by rw [length]; exact fits) length.symm]
  rw [show xorOf (frameBody code p) = xorOf (code :: BitVec.ofNat 8 p.length :: p) from rfl, if_pos rfl,
    commandOf_hostFrame unnamed frame reset]

/-! ## What a transaction shifts out -/

/-- Each flag of a byte stands in its bit. -/
theorem byteOfFlags_bits (b7 b6 b5 b4 b3 b2 b1 b0 : Bool) :
    let st := byteOfFlags b7 b6 b5 b4 b3 b2 b1 b0
    st.getLsbD 7 = b7 ∧ st.getLsbD 6 = b6 ∧ st.getLsbD 5 = b5 ∧ st.getLsbD 4 = b4 ∧ st.getLsbD 3 = b3 ∧
      st.getLsbD 2 = b2 ∧ st.getLsbD 1 = b1 ∧ st.getLsbD 0 = b0 := by
  revert b7 b6 b5 b4 b3 b2 b1 b0
  decide

@[simp] theorem beBytes_one (n : Nat) : beBytes 1 n = [BitVec.ofNat 8 n] := by simp [beBytes]

/-- Settles O9: the status byte by `byteOfFlags_bits`, the response by its encoding. -/
theorem transactionShiftsOutStatusAndResponse : Obligations.TransactionShiftsOutStatusAndResponse := by
  intro s
  obtain ⟨b7, b6, b5, b4, b3, b2, b1, b0⟩ := byteOfFlags_bits s.alertLine s.ae.run.isSome s.cl.standalone
    s.nvs.settingsFault s.nvs.saving.isSome s.esu.current.isSome s.ae.short s.ae.flaring
  refine ⟨s.statusByte, ?_, b7, b6, b5, b4, b3, b2, b1, b0.trans ?_⟩
  · simp [exec, execTransactionBegin, State.output, Reply.encode, xorOf]
  · simp [Engine.flaring]

/-! ## Standalone operation -/

/-- Every command that standalone operation refuses stands behind the gate (R155). -/
theorem exec_gated {c : Instr} (h : refusedStandalone c = true) :
    ∃ own, ∀ s, exec c s = .next (s.takeFrame (gated own)) := by
  cases c <;> simp [refusedStandalone] at h <;> exact ⟨_, fun _ => rfl⟩

/-- A payload of one byte. -/
theorem splitFields_byte (b : Byte) : splitFields [1] [b] = some [b.toNat] := by
  simp [splitFields, beNat]

theorem readFlareCommand_of_standalone {s : State} (h : s.cl.standalone = true) :
    readFlareCommand [1] s = s.refuse .standalone := by
  unfold readFlareCommand
  rw [splitFields_byte]
  simp [h]

/-- The payload of START SETTLEMENT read back (R140). -/
theorem splitFields_startSettlement (n d o : Nat) :
    splitFields [4, 3, 2] (beBytes 4 n ++ beBytes 3 d ++ beBytes 2 o) =
      some [n % 4294967296, d % 16777216, o % 65536] := by
  rw [List.append_assoc, splitFields_join, splitFields_join, splitFields_single]
  rfl

theorem startSettlementCommand_of_standalone {s : State} (h : s.cl.standalone = true) {n d o : Nat}
    (hd : d ≤ 2000000) (ho : o < s.settings.periodLength) (short : o < 65536)
    (idle : s.esu.current = none) :
    startSettlementCommand (beBytes 4 n ++ beBytes 3 d ++ beBytes 2 o) s = s.refuse .standalone := by
  have range : ¬ (2000000 < d % 16777216 ∨ s.settings.periodLength ≤ o % 65536) := by
    rw [Nat.mod_eq_of_lt (by omega : d < 16777216), Nat.mod_eq_of_lt short]
    omega
  unfold startSettlementCommand
  rw [splitFields_startSettlement]
  dsimp only
  rw [if_neg range, idle, if_neg (by simp), if_pos h]

/-- Settles O12: the gate, the option of READ FLARE TOTALS and the last check of START SETTLEMENT. -/
theorem standaloneRefuses : Obligations.StandaloneRefuses := by
  intro s taking alone
  refine ⟨fun c refused => ?_, ?_, fun n d o hd ho short idle => ?_⟩
  · obtain ⟨own, hown⟩ := exec_gated refused
    rw [hown, State.takeFrame_gated_of_standalone taking alone]
  · exact congrArg _ (State.takeFrame_of_reply taking (readFlareCommand_of_standalone (by simpa using alone)))
  · exact congrArg _ (State.takeFrame_of_reply taking (startSettlementCommand_of_standalone
      (by simpa using alone) hd (by simpa using ho) short (by simpa using idle)))

/-- Outside RUNNING and the settings-fault condition a request starts a run (R49). -/
theorem State.requestRun_of_idle {s : State} (hf : s.nvs.settingsFault = false) (hr : s.ae.run = none) :
    s.requestRun = s.startRun := by
  simp [State.requestRun, hf, hr]

theorem State.requestRun_of_fault {s : State} (hf : s.nvs.settingsFault = true) : s.requestRun = s := by
  simp [State.requestRun, hf]

/-- Zeroing the boosts where the others are 0 already (R20, R153). -/
theorem State.BoostsInRange.zeroed {s : State} (h : s.BoostsInRange) (i : Fin 48) :
    s.zeroBoosts.entry i = (s.entry i).map fun e => { e with boost := 0 } := by
  rw [State.zeroBoosts, State.entry_mapBoosts]
  cases he : s.entry i with
  | none => rfl
  | some e =>
    obtain ⟨-, others⟩ := h i e he
    rw [Option.map_some, Option.map_some]
    split
    · rfl
    · next k => rw [← others (Bool.eq_false_iff.2 k)]

/-- In standalone operation a run starts from the fallbacks (R53, R154). -/
theorem State.participants_of_standalone {s : State} (h : s.cl.standalone = true) {p : RunPart}
    (hp : p ∈ s.participants) : ∃ e ∈ s.entry p.slot,
      p.need = min e.fallback e.ceiling ∧ p.floor = min e.floor p.need := by
  obtain ⟨i, e, he, -, rfl⟩ := State.mem_participants.1 hp
  refine ⟨e, he, ?_⟩
  simp [Offtake.runPart, Offtake.runNeed, h]

/-! ## Entering and leaving standalone operation -/

/-- A request reads nothing of the link but the standalone flag. -/
theorem State.requestRun_withLink (s : State) {l : Link} (h : l.standalone = s.cl.standalone) :
    State.requestRun { s with cl := l } = { s.requestRun with cl := l } := by
  simp only [State.requestRun, State.startRun, State.runPicture, State.participants, h]
  (repeat' split) <;> rfl

/-- The part as the expiry of the link-silence timer leaves it, but for the request it makes (R153). -/
def State.alone (s : State) (e : Time) : State :=
  { s with
    now := (s.atExpiry e).now
    cl := { s.cl with standalone := true, silence := none }
    fs := { s.fs with alerts := s.fs.alerts ||| 0x200#12 }
    ot := s.zeroBoosts.ot }

theorem execLinkSilenceTimerExpiry_eq {s : State} {e : Time} (h : s.cl.silence = some e) :
    exec .linkSilenceTimerExpiry s = .next (s.alone e).requestRun := by
  have : s.atExpiry e = { s with now := (s.atExpiry e).now } := by
    unfold State.atExpiry
    split <;> rfl
  simp only [exec, execLinkSilenceTimerExpiry, h]
  rw [this]
  rfl

/-- RESUME LINK in standalone operation (R156). -/
theorem resumeLink_of_standalone {s : State} (h : s.Taking) (alone : s.cl.standalone = true) :
    let u : State := { s with cl := { s.cl with
      response := ⟨.ok, []⟩, shiftOut := none, standalone := false
      silence := secondsTimer s.now s.settings.linkTimeout } }
    exec (.resumeLink []) s = .next { u with ae := u.requestRun.ae } := by
  have hown : bare [] resumeLinkCommand s.frameTaken = s.frameTaken.leaveStandalone.ok [] := by
    simp [bare, resumeLinkCommand, alone]
  have freed : s.frameTaken.leaveStandalone = State.requestRun { s with cl := { s.cl with
      shiftOut := none, standalone := false, silence := secondsTimer s.now s.settings.linkTimeout } } := by
    rw [State.frameTaken_eq]
    rfl
  have placed := State.requestRun_withLink { s with cl := { s.cl with
      shiftOut := none, standalone := false, silence := secondsTimer s.now s.settings.linkTimeout } }
    (l := { s.cl with response := ⟨.ok, []⟩, shiftOut := none, standalone := false
                      silence := secondsTimer s.now s.settings.linkTimeout }) rfl
  simp only [exec, execResumeLink, State.takeFrame_of_taking h, hown, freed, State.ok_state, State.ok_reply]
  rw [placed, State.requestRun_eq]
  rfl

/-- Settles O13: the expiry by `requestRun` over the state it leaves, RESUME LINK by the flag. -/
theorem standaloneIsEnteredAndLeft : Obligations.StandaloneIsEnteredAndLeft := by
  refine ⟨fun s e silence boosts => ?entered, fun s h => ⟨fun serving => ?_, ?_, fun b p => ?_⟩⟩
  case entered =>
    refine ⟨_, execLinkSilenceTimerExpiry_eq silence, ?_, ?_, ?_, fun i => ?_, ?_, fun fault => ?_,
      fun good running => ?_, fun good idle => ?_⟩
    · rw [State.requestRun_eq]; rfl
    · simp [State.alone]
    · simp [State.alone]
    · rw [State.entry_congr (t := (s.alone e).requestRun) (s := s.zeroBoosts) (by simp [State.alone])]
      exact boosts.zeroed i
    · simp [State.alone, State.zeroBoosts, State.mapBoosts]
    · rw [State.requestRun_of_fault (s := s.alone e) fault]; rfl
    · rw [State.requestRun_of_running (s := s.alone e) good running]; rfl
    · rw [State.requestRun_of_idle (s := s.alone e) good idle]
      refine ⟨_, rfl, rfl, fun p hp => ?_⟩
      obtain ⟨f, hf, need, floor⟩ := State.participants_of_standalone (s := s.alone e) rfl hp
      have slot : (s.alone e).entry p.slot = (s.entry p.slot).map fun x => { x with boost := 0 } :=
        boosts.zeroed p.slot
      obtain ⟨x, hx, rfl⟩ := Option.mem_map.1 (slot ▸ hf)
      exact ⟨x, hx, need, floor⟩
  · exact congrArg _ (State.takeFrame_of_reply h (by simp [bare, resumeLinkCommand, serving, State.ok]))
  · exact resumeLink_of_standalone h
  · exact congrArg _ (State.takeFrame_of_reply h rfl)

end Sys2Proof.Machine
end

section
/-! PROOF. Statements that one event settles: run requests, flare energy, the alert flags, the counters, the
protected band, the reading commands, resets, fault modes, the walk, and the periods. -/

namespace Sys2Proof.Machine

/-- An expiry moves the base and nothing else (assumption log 2). -/
theorem State.atExpiry_eq (s : State) (e : Time) : s.atExpiry e = { s with now := (s.atExpiry e).now } := by
  unfold State.atExpiry
  split <;> rfl

/-! ## Run requests (R49, R50, R52) -/

theorem State.pool_eq (s : State) (src : Source) : s.pool src =
    if s.fs.admission.get src = .admitted then (s.sm.sources.get src).availability else 0 := by
  unfold State.pool
  cases s.fs.admission.get src <;> rfl

theorem nextRunNumber_eq (n : Nat) : nextRunNumber n = if n < 65535 then n + 1 else 1 := by
  simp only [nextRunNumber, ← Nat.not_lt, ite_not]

theorem execDispatchTimerExpiry_eq {s : State} {e : Time} (h : s.ae.dispatch = some e) :
    exec .dispatchTimerExpiry s = .next (if s.nvs.settingsFault then (s.atExpiry e).restartDispatch
      else State.requestRun { s.atExpiry e with ae := { s.ae with dispatch := none } }) := by
  simp only [exec, execDispatchTimerExpiry, h]

/-- Settles O27, by the settings-fault condition and the run in flight. -/
theorem runRequests : Obligations.RunRequests := by
  refine ⟨fun s => ⟨State.requestRun_of_fault, State.requestRun_of_running, fun good idle => ?starts⟩,
    fun s => ⟨fun e he good running => ?_, fun e he good idle => ?_, fun e he fault => ?_⟩⟩
  case starts =>
    rw [State.requestRun_of_idle good idle]
    simp only [State.startRun, State.runPicture, State.poolsNow, State.pool_eq, nextRunNumber_eq]
  · rw [execDispatchTimerExpiry_eq he, good, if_neg (by simp)]
    exact congrArg _ (State.requestRun_of_running (by simpa using good) (by simpa using running))
  · rw [execDispatchTimerExpiry_eq he, good, if_neg (by simp),
      State.requestRun_of_idle (by simpa using good) (by simpa using idle), State.atExpiry_eq]
    rfl
  · rw [execDispatchTimerExpiry_eq he, fault, if_pos rfl]
    simp [State.restartDispatch]

/-! ## Flare energy (R69 to R71) -/

/-- An integration point leaves a flare record that says what the engine says, where it did before. -/
theorem State.integrateFlare_flare {s : State} (h : s.store.flare = ⟨s.ae.flareRecord, true⟩) :
    s.integrateFlare.store.flare = ⟨s.integrateFlare.ae.flareRecord, true⟩ := by
  unfold State.integrateFlare
  dsimp only
  split
  · next same => rw [same]; exact h
  · rfl

theorem execReadFlareTotals_read {s : State} (h : s.Taking) :
    exec (.readFlareTotals [0]) s = .next { s.integrateFlare with
      cl := s.linkAfter ⟨.ok, s.integrateFlare.ae.encodeFlare⟩ } := by
  have hown : readFlareCommand [0] s.frameTaken =
      s.frameTaken.integrateFlare.ok s.frameTaken.integrateFlare.ae.encodeFlare := by
    unfold readFlareCommand
    rw [splitFields_byte]
    simp
  have taken := State.takeFrame_of_answer h hown (by simp)
  rw [State.integrateFlare_frameTaken] at taken
  exact congrArg _ taken

theorem execReadFlareTotals_zero {s : State} (h : s.Serving) :
    exec (.readFlareTotals [1]) s = .next { s with
      cl := s.linkAfter ⟨.ok, s.integrateFlare.ae.encodeFlare⟩
      ae := { s.integrateFlare.ae with flareTotal := ⟨0, 0⟩ }
      store := { s.store with flare := ⟨⟨⟨0, 0⟩, s.integrateFlare.ae.flareResidue⟩, true⟩ } } := by
  obtain ⟨taking, serving⟩ := h
  have hown : readFlareCommand [1] s.frameTaken = State.ok (State.writeFlare { s.frameTaken.integrateFlare with
      ae := { s.frameTaken.integrateFlare.ae with flareTotal := ⟨0, 0⟩ } })
      s.frameTaken.integrateFlare.ae.encodeFlare := by
    unfold readFlareCommand
    rw [splitFields_byte]
    simp [serving]
  have taken := State.takeFrame_of_answer taking hown (by simp)
  rw [State.integrateFlare_frameTaken] at taken
  refine (congrArg _ taken).trans ?_
  rw [State.integrateFlare_eq]
  rfl

/-- Settles O30: the integration by its definition, the events and the command by the point they make. -/
theorem flareEnergyIsIntegrated : Obligations.FlareEnergyIsIntegrated := by
  refine fun s => ⟨⟨?_, ?_, State.integrateFlare_flare⟩, fun e he => ?_, fun h => ?_, fun h => ?_⟩
  · unfold State.integrateFlare
    dsimp only
    split <;> rfl
  · rw [State.integrateFlare_eq]
  · simp only [exec, execFlareTimerExpiry, he]
  · rw [execReadFlareTotals_read h]
    rw [State.integrateFlare_eq]
  · exact execReadFlareTotals_zero h

/-! ## The alert flags (R91 to R94) -/

theorem AlertFlag.index_lt (f : AlertFlag) : f.index < 12 := by cases f <;> decide

theorem AlertFlag.exists_index {k : Nat} (h : k < 12) : ∃ f : AlertFlag, f.index = k := by
  match k, h with
  | 0, _ => exact ⟨.sourceFault, rfl⟩
  | 1, _ => exact ⟨.runAborted, rfl⟩
  | 2, _ => exact ⟨.shortfall, rfl⟩
  | 3, _ => exact ⟨.flareStarted, rfl⟩
  | 4, _ => exact ⟨.holderBand, rfl⟩
  | 5, _ => exact ⟨.exportDeviation, rfl⟩
  | 6, _ => exact ⟨.accountEvent, rfl⟩
  | 7, _ => exact ⟨.stationStale, rfl⟩
  | 8, _ => exact ⟨.linkError, rfl⟩
  | 9, _ => exact ⟨.standaloneEntered, rfl⟩
  | 10, _ => exact ⟨.settingsFault, rfl⟩
  | 11, _ => exact ⟨.recordDamaged, rfl⟩

theorem AlertFlag.bit_eq (f : AlertFlag) : f.bit = BitVec.twoPow 12 f.index := rfl

theorem AlertFlag.index_injective {f g : AlertFlag} (h : f.index = g.index) : f = g := by
  revert h
  cases f <;> cases g <;> simp [AlertFlag.index]

/-- A flag is set when its bit is. -/
theorem State.alert_eq (s : State) (f : AlertFlag) : s.alert f = s.fs.alerts.getLsbD f.index := by
  have some_ : BitVec.twoPow 12 f.index ≠ 0#12 := by cases f <;> decide
  rw [State.alert, AlertFlag.bit_eq, BitVec.and_twoPow]
  cases s.fs.alerts.getLsbD f.index with
  | true => exact bne_iff_ne.2 some_
  | false => rfl

theorem AlertFlag.getLsbD_bit (f g : AlertFlag) : f.bit.getLsbD g.index = decide (f = g) := by
  rw [AlertFlag.bit_eq, BitVec.getLsbD_twoPow, Bool.eq_iff_iff]
  simp only [f.index_lt, decide_true, Bool.true_and, decide_eq_true_eq]
  exact ⟨AlertFlag.index_injective, congrArg _⟩

theorem State.alert_of_alerts {s t : State} (h : t.fs.alerts = s.fs.alerts) (f : AlertFlag) :
    t.alert f = s.alert f := by simp [State.alert, h]

theorem State.alert_raise (s : State) (f g : AlertFlag) : (s.raise f).alert g = (s.alert g || decide (f = g)) := by
  rw [State.alert_eq, State.alert_eq, ← AlertFlag.getLsbD_bit]
  exact BitVec.getLsbD_or

theorem State.alert_raiseIf (s : State) (b : Bool) (f g : AlertFlag) :
    (s.raiseIf b f).alert g = (s.alert g || (b && decide (f = g))) := by
  cases b with
  | true => exact s.alert_raise f g
  | false => simp [State.raiseIf]

/-- Settles O42: a bit of the unmasked flags that is set is the bit of a flag. -/
theorem alertLineShowsUnmaskedFlags : Obligations.AlertLineShowsUnmaskedFlags := by
  intro s
  have line : s.alertLine = true ↔ s.fs.alerts &&& ~~~s.settings.alertMask ≠ 0 := by simp [State.alertLine]
  have bit (k : Nat) (hk : k < 12) : (s.fs.alerts &&& ~~~s.settings.alertMask).getLsbD k = true ↔
      s.fs.alerts.getLsbD k = true ∧ s.settings.alertMask.getLsbD k = false := by
    simp [hk]
  rw [line]
  constructor
  · intro h
    obtain ⟨k, hk, set⟩ : ∃ k < 12, (s.fs.alerts &&& ~~~s.settings.alertMask).getLsbD k = true := by
      by_contra none_
      push Not at none_
      exact h (BitVec.eq_of_getLsbD_eq fun k hk => by simpa using none_ k hk)
    obtain ⟨f, rfl⟩ := AlertFlag.exists_index hk
    obtain ⟨set, unmasked⟩ := (bit _ hk).1 set
    exact ⟨f, (s.alert_eq f).trans set, unmasked⟩
  · rintro ⟨f, set, unmasked⟩ h
    have := (bit _ f.index_lt).2 ⟨(s.alert_eq f).symm.trans set, unmasked⟩
    simp [h] at this

/-! ## The counters and the mask (R90, R93, R94) -/

theorem splitFields_single_of_lt {w n : Nat} (h : n < 256 ^ w) : splitFields [w] (beBytes w n) = some [n] := by
  rw [splitFields_single, Nat.mod_eq_of_lt h]

theorem execReadCounters_eq {s : State} (h : s.Taking) : exec (.readCounters []) s = .next { s with
    cl := s.linkAfter ⟨.ok, Monitor.all.flatMap fun m => beBytes 1 (s.monitor m).counter⟩
    fs := { s.fs with monitors := mapTable (fun m => { m with counter := 0 }) s.fs.monitors } } := by
  rw [show exec (.readCounters []) s = .next (s.takeFrame (bare [] readCountersCommand)) from rfl,
    State.takeFrame_of_answer h (by rw [State.frameTaken_eq]) rfl]
  rfl

/-- Settles O41: each command answers at its owner. -/
theorem countersAlertsAndMask : Obligations.CountersAlertsAndMask := by
  refine fun s h => ⟨⟨_, execReadCounters_eq h, rfl, fun m => getElem_mapTable _ _ m.index⟩, fun b p => ?length,
    fun marks short => ?clear, fun marks short serving writable => ?mask⟩
  case length => exact congrArg _ (State.takeFrame_of_reply h rfl)
  case clear =>
    have hown : clearAlertCommand (beBytes 2 marks) s.frameTaken = State.ok { s.frameTaken with
        fs := { s.fs with alerts := s.fs.alerts &&& ~~~(BitVec.ofNat 12 marks) } }
        (beBytes 2 s.fs.alerts.toNat) := by
      unfold clearAlertCommand
      rw [splitFields_single_of_lt short]
      simp
    refine (congrArg _ (State.takeFrame_of_answer h hown (by simp))).trans ?_
    rw [State.frameTaken_eq]
    rfl
  case mask =>
    have hown : setAlertMaskCommand (beBytes 2 marks) s.frameTaken = State.ok { s.frameTaken with
        settings := { s.settings with alertMask := BitVec.ofNat 12 marks }
        nvs := { s.nvs with unsaved := true } } [] := by
      unfold setAlertMaskCommand
      rw [splitFields_single_of_lt short]
      simp [writable]
    refine (congrArg _ (State.takeFrame_gated_of_answer ⟨h, serving⟩ hown (by simp))).trans ?_
    rw [State.frameTaken_eq]
    rfl

/-! ## The protected band (R36, R38, R39) -/

theorem splitFields_threeBytes (a b c : Byte) :
    splitFields [1, 1, 1] [a, b, c] = some [a.toNat, b.toNat, c.toNat] := by
  simp [splitFields, beNat]

theorem BandSide.ofCode_code (side : BandSide) : BandSide.ofCode (BitVec.ofNat 8 side.code).toNat = some side := by
  cases side <;> rfl

theorem LockMode.ofCode_code (mode : LockMode) : LockMode.ofCode (BitVec.ofNat 8 mode.code).toNat = some mode := by
  cases mode <;> rfl

theorem bandSizes_toNat {n : Nat} (h : n ∈ bandSizes) : (BitVec.ofNat 8 n).toNat = n := by
  simp only [bandSizes, List.mem_cons, List.not_mem_nil, or_false] at h
  rw [BitVec.toNat_ofNat]
  omega

theorem setProtectionCommand_of_open {s : State} (saved : s.nvs.saving = none) (unlocked : s.bandEnforced = false)
    (side : BandSide) {n : Nat} (mode : LockMode) (hn : n ∈ bandSizes) :
    setProtectionCommand [BitVec.ofNat 8 side.code, BitVec.ofNat 8 n, BitVec.ofNat 8 mode.code] s =
      State.ok { s with
        settings := { s.settings with bandSide := side, bandSize := n, lockMode := mode }
        nvs := { s.nvs with unsaved := true } } [] := by
  unfold setProtectionCommand
  rw [splitFields_threeBytes]
  dsimp only
  rw [BandSide.ofCode_code, LockMode.ofCode_code, bandSizes_toNat hn]
  simp [saved, unlocked, hn]

theorem setProtectionCommand_of_enforced {s : State} (saved : s.nvs.saving = none)
    (locked : s.bandEnforced = true) (x y z : Byte) : setProtectionCommand [x, y, z] s = s.refuse .protected_ := by
  unfold setProtectionCommand
  rw [splitFields_threeBytes]
  simp [saved, locked]

/-- Settles O19: the checks of SET PROTECTION in their order, and the mark of LOCK PERMANENTLY. -/
theorem protectionCommands : Obligations.ProtectionCommands := by
  refine fun s => ⟨fun b => rfl, fun side n mode h saved unlocked hn => ?_, fun x y z h saved locked => ?_,
    fun h fresh => ?_, fun h locked => ?_⟩
  · refine (congrArg _ (State.takeFrame_gated_of_answer h (setProtectionCommand_of_open (by simpa using saved)
      (by simpa using unlocked) side mode hn) (by simp))).trans ?_
    rw [State.frameTaken_eq]
    rfl
  · exact congrArg _ (State.takeFrame_gated_of_reply h
      (setProtectionCommand_of_enforced (by simpa using saved) (by simpa using locked) x y z))
  · have hown : bare [] lockCommand s.frameTaken = State.ok { s.frameTaken with
        ot := { s.ot with permanentLock := true }
        store := { s.store with lock := ⟨true, s.settings.bandSide, s.settings.bandSize⟩ } } [] := by
      simp [bare, lockCommand, fresh]
    refine (congrArg _ (State.takeFrame_gated_of_answer h hown (by simp))).trans ?_
    rw [State.frameTaken_eq]
    rfl
  · exact congrArg _ (State.takeFrame_gated_of_reply h (by simp [bare, lockCommand, locked, State.ok]))

/-! ## Reading commands (R161, R163) -/

/-- A command whose owner shows a block and changes nothing (R163). -/
theorem State.takeFrame_of_shown {s : State} (h : s.Taking) (show_ : State → List Byte)
    (blind : show_ (s.answered s.cl.response) = show_ s) :
    s.takeFrame (bare [] fun t => t.ok (show_ t)) = s.answered ⟨.ok, show_ s⟩ := by
  refine State.takeFrame_of_reply h ?_
  rw [State.frameTaken_eq, ← blind]
  rfl

theorem flatMap_beBytes_one (l : List Nat) : l.flatMap (beBytes 1) = l.map (BitVec.ofNat 8) := by
  rw [funext beBytes_one, List.map_eq_flatMap]

theorem readSettingsCommand_of_unknown {s : State} {n : Byte} (h : 1 < n.toNat) :
    readSettingsCommand [n] s = s.refuse .badValue := by
  unfold readSettingsCommand
  rw [splitFields_byte]
  split
  · next k => simp only [Option.some.injEq, List.cons.injEq, and_true] at k; omega
  · next k => simp only [Option.some.injEq, List.cons.injEq, and_true] at k; omega
  · rfl
  · next k => cases k

/-- Settles O15: a reading owner shows its block, and a command without payload checks its length first. -/
theorem readingCommandsChangeNothing : Obligations.ReadingCommandsChangeNothing := by
  refine ⟨fun s h => ⟨?_, ?_, ?_, ?_, ?_, ?_, ?_, ?_, ?_, fun n hn => ?_⟩, fun b p s c h hc => ?_⟩
  · exact congrArg _ (State.takeFrame_of_shown h (fun t => t.cl.resetCause.encode) rfl)
  · exact congrArg _ (State.takeFrame_of_shown h (fun t => t.sm.encode t.settings.holder) rfl)
  · exact congrArg _ (State.takeFrame_of_shown h State.encodeTable rfl)
  · exact congrArg _ (State.takeFrame_of_shown h (fun t => t.ae.encode) rfl)
  · exact congrArg _ (State.takeFrame_of_shown h State.encodeFaults rfl)
  · have mark : markByte s.alertLine = [if s.alertLine then 1 else 0] := by cases s.alertLine <;> rfl
    rw [← mark]
    exact congrArg _ (State.takeFrame_of_shown h (fun t => beBytes 2 t.fs.alerts.toNat ++
      beBytes 2 t.settings.alertMask.toNat ++ markByte t.alertLine) rfl)
  · exact congrArg _ (State.takeFrame_of_shown h (fun t => t.esu.encode t.now) rfl)
  · exact congrArg _ (State.takeFrame_of_reply h (by rw [State.frameTaken_eq]; rfl))
  · rw [← flatMap_beBytes_one]
    exact congrArg _ (State.takeFrame_of_reply h (by rw [State.frameTaken_eq]; rfl))
  · exact congrArg _ (State.takeFrame_of_reply h (readSettingsCommand_of_unknown hn))
  · obtain ⟨taking, serving⟩ := h
    simp only [List.mem_cons, List.not_mem_nil, or_false] at hc
    rcases hc with rfl | rfl | rfl | rfl | rfl | rfl | rfl | rfl | rfl | rfl | rfl | rfl | rfl | rfl | rfl |
      rfl | rfl | rfl
    all_goals
      exact congrArg _ (State.takeFrame_of_reply taking (by simp [gated, bare, serving, State.refuse]))

/-! ## Resets (R171, R172) -/

theorem execResetPart_of_taking {s : State} (h : s.Taking) (torn : List Torn) :
    exec (.resetPart [] torn) s = .next (s.beginReset (s.resetNote .command) torn) := by
  simp [exec, execResetPart, State.hearsFrame_iff.2 h]

theorem execResetPart_of_length {s : State} (h : s.Taking) (b : Byte) (p : List Byte) (torn : List Torn) :
    exec (.resetPart (b :: p) torn) s = .next (s.answered ⟨.badLength, []⟩) := by
  have : exec (.resetPart (b :: p) torn) s = .next (s.takeFrame fun t => t.refuse .badLength) := by
    simp [exec, execResetPart]
  exact this.trans (congrArg _ (State.takeFrame_of_reply h rfl))

theorem State.begun_monitor (d : Store) (r : ResetRecord) (l : Bool) (n : Nat) (q : List Instr) (m : Monitor) :
    (State.begun d r l n q).monitor m = MonitorRecord.blank := by
  simp [State.monitor, State.begun, Supervisor.blank]

theorem State.begun_station (d : Store) (r : ResetRecord) (l : Bool) (n : Nat) (q : List Instr) (a : Nat) :
    (State.begun d r l n q).station a = StationRecord.blank := by
  have : (FieldLine.blank.stations[a - 1]?).getD StationRecord.blank = StationRecord.blank := by
    simp only [FieldLine.blank, Vector.getElem?_replicate]
    split <;> rfl
  simp [State.station, State.begun, this]

/-- Settles O5: the resets by their definitions, the blocks one after the other. -/
theorem resetsBeginStartUp : Obligations.ResetsBeginStartUp := by
  refine ⟨fun torn s => ⟨rfl, rfl, fun h => execResetPart_of_taking h torn,
    fun b p h => execResetPart_of_length h b p torn⟩, fun d r l n q => ?_⟩
  refine ⟨⟨rfl, rfl, rfl, rfl, rfl, rfl⟩, ?sources, rfl, ⟨?entries, rfl⟩, ?engine,
    ⟨State.begun_monitor d r l n q, rfl, rfl⟩, ⟨rfl, rfl, rfl, rfl, rfl, rfl, rfl, State.begun_station d r l n q⟩,
    ⟨State.begun_account d r l n q, rfl⟩, ⟨rfl, rfl, rfl, rfl, rfl, rfl⟩, ⟨rfl, rfl, rfl, rfl, rfl⟩, rfl⟩
  case sources => intro src; cases src <;> rfl
  case entries => exact State.entry_of_blank rfl
  case engine => exact ⟨rfl, rfl, rfl, rfl, rfl, rfl, rfl, rfl, rfl, rfl, rfl, rfl, rfl, rfl, rfl⟩

/-! ## Fault modes (R82, R84) -/

theorem State.evaluate_of_appears {s : State} {m : Monitor} (h : (s.monitor m).raw = false) :
    s.evaluate m true = (s.setMonitor m ((s.monitor m).appear (s.mode m))).raiseIf
      (decide (s.mode m ≠ .off)) .sourceFault := by
  simp [State.evaluate, h]

theorem State.evaluate_of_goes {s : State} {m : Monitor} (h : (s.monitor m).raw = true) :
    s.evaluate m false = s.setMonitor m ((s.monitor m).disappear (s.mode m) s.retryExpiry) := by
  simp [State.evaluate, h]

/-- A condition that stands as it was does nothing (R82). -/
theorem State.evaluate_of_stands {s : State} {m : Monitor} {b : Bool} (h : (s.monitor m).raw = b) :
    s.evaluate m b = s := by
  unfold State.evaluate
  cases b <;> simp [h]

/-- Clearing a hold holds nothing that was not held. -/
theorem State.anyHold_of_released {s u : State} {m : Monitor} {r : MonitorRecord} (hr : r.hold = false)
    (hu : ∀ n, u.monitor n = if m = n then r else s.monitor n) {src : Source} (h : u.anyHold src = true) :
    s.anyHold src = true := by
  obtain ⟨n, hn, hold⟩ := List.any_eq_true.1 h
  refine List.any_eq_true.2 ⟨n, hn, ?_⟩
  rw [hu] at hold
  split at hold
  · rw [hr] at hold; cases hold
  · exact hold

/-- Settles O39: an appearance and a disappearance by the record, an expiry by the settling of its source. -/
theorem faultModesAct : Obligations.FaultModesAct := by
  refine ⟨fun s m => ⟨fun raw => ⟨?off, ?report, ?held⟩, ?goes, State.evaluate_of_stands rfl⟩,
    fun s m e he follows => ?expiry⟩
  case off =>
    intro mode
    rw [State.evaluate_of_appears raw, mode]
    rfl
  case report =>
    intro mode
    rw [State.evaluate_of_appears raw, mode]
    rfl
  case held =>
    rintro (mode | mode) <;> rw [State.evaluate_of_appears raw, mode] <;> rfl
  case goes =>
    intro raw
    rw [State.evaluate_of_goes raw]
    congr 1
    unfold MonitorRecord.disappear
    dsimp only
    split <;> rfl
  case expiry =>
    intro u
    have monitors (n : Monitor) : u.monitor n =
        if m = n then { s.monitor m with hold := false, timer := none } else s.monitor n := by
      rw [State.monitor_setMonitor, State.monitor_congr (s := s) (t := s.atExpiry e) (by simp)]
    have admission : u.fs.admission = s.fs.admission := by simp [u]
    have answer : exec (.retryTimerExpiry m) s = .next (u.settle (actsOn m)) := by
      simp only [exec, execRetryTimerExpiry, he]
      rfl
    rw [answer, ← admission]
    rcases u.settle_cases (actsOn m) with ⟨same, h⟩ | ⟨admitted, held, -⟩ | ⟨withdrawn, free, h⟩
    · rw [h, if_neg (by rw [same]; simp)]
    · have := State.anyHold_of_released rfl monitors held
      rw [← follows, ← admission, admitted] at this
      cases this
    · rw [h, if_pos ⟨withdrawn, free⟩, State.requestRun_eq]
      rfl

/-! ## The walk (R97, R98) -/

theorem State.walkTo_of_list {s : State} (h : s.settings.pollList ≠ []) (n : Nat) : s.walkTo n = s.sendQuery n :=
  if_neg h

theorem State.walkTo_of_empty {s : State} (h : s.settings.pollList = []) (n : Nat) : s.walkTo n = s.enterEmpty :=
  if_pos h

theorem execGapTimerExpiry_eq {s : State} {e : Time} (gap : s.flc.phase = some .gap)
    (timer : s.flc.gapTimer = some e) : exec .gapTimerExpiry s = .next (State.walkTo
      { s.atExpiry e with flc := { s.flc with replacementWaiting := false } }
      (if s.flc.replacementWaiting = true then 0
        else nextPosition s.flc.position s.settings.pollList.length)) := by
  simp only [exec, execGapTimerExpiry, gap, timer]

/-- Settles O44: the list has a position to go to, or none. -/
theorem walkGoesRoundTheList : Obligations.WalkGoesRoundTheList := by
  refine fun s => ⟨fun e gap timer list => ?_, fun e gap timer list => ?_, fun query => ?_⟩
  · rw [execGapTimerExpiry_eq gap timer, State.walkTo_of_list (by simpa using list)]
    simp [State.sendQuery, nextPosition]
  · rw [execGapTimerExpiry_eq gap timer, State.walkTo_of_empty (by simpa using list)]
    simp [State.enterEmpty]
  · simp only [exec, execQuerySent, query]
    rfl

/-! ## The periods (R147, R148) -/

theorem Period.successor_eq (p : Period) (next : Option Declaration) (length : Nat) (silent : Bool)
    (h : p.number < 4294967296) :
    let start := p.start + BitVec.ofNat 32 (p.length * 1000)
    p.successor next length silent = match next with
      | some d => ⟨d.number, d.declared, start, length, 0, none, silent, false⟩
      | none => ⟨if p.number = 4294967295 then 0 else p.number + 1, p.declared, start, length, 0, none,
          silent, true⟩ := by
  cases next with
  | some d => rfl
  | none =>
    have : (p.number + 1) % 4294967296 = if p.number = 4294967295 then 0 else p.number + 1 := by
      split <;> omega
    simp only [Period.successor, this]
    rfl

/-- Settles O57: the closed record and the successor, with the alert as the outcome says. -/
theorem periodsFollowOneAnother : Obligations.PeriodsFollowOneAnother := by
  intro s p e open_ timer dev tol outcome start next range
  have answer : exec .periodTimerExpiry s = .next ((s.atExpiry e).closePeriod p) := by
    simp only [exec, execPeriodTimerExpiry, open_, timer]
  have successor : p.successor s.esu.next s.settings.periodLength s.esu.silent = next :=
    p.successor_eq _ _ _ range
  have judged : (p.close s.settings.tolerance).outcome = outcome := rfl
  have ends : next.ends = start + BitVec.ofNat 32 (s.settings.periodLength * 1000) := by
    simp only [next]
    cases s.esu.next <;> rfl
  rw [answer, State.atExpiry_eq]
  simp only [State.closePeriod, successor, judged, ends]
  by_cases h : outcome = .within
  · rw [if_pos h, if_pos h, decide_eq_false (not_not.2 h)]
    rfl
  · rw [if_neg h, if_neg h, decide_eq_true h]
    rfl

end Sys2Proof.Machine
end

section
/-! PROOF. The completion of a run (R59 to R65): what it publishes, figure by figure, and which blocks it
leaves as they were. -/

namespace Sys2Proof.Machine

/-! ## Two states, block by block -/

/-- States that agree in every block are one state. -/
@[ext] theorem State.ext_blocks {s t : State} (pending : s.pending = t.pending) (now : s.now = t.now)
    (picks : s.picks = t.picks) (startingUp : s.startingUp = t.startingUp) (lockLine : s.lockLine = t.lockLine)
    (settings : s.settings = t.settings) (sm : s.sm = t.sm) (ot : s.ot = t.ot) (ae : s.ae = t.ae)
    (fs : s.fs = t.fs) (flc : s.flc = t.flc) (hau : s.hau = t.hau) (esu : s.esu = t.esu) (cl : s.cl = t.cl)
    (nvs : s.nvs = t.nvs) (store : s.store = t.store) : s = t := by
  cases s
  cases t
  simp_all

/-- The state without the entries of the offtake table and their stored records. -/
def State.tableless (s : State) : State :=
  { s with
    ot := { s.ot with entries := Vector.replicate 48 none }
    store := { s.store with offtakes := Vector.replicate 48 ⟨StoredOfftake.free, true⟩ } }

theorem State.eq_of_tableless {s t : State} (h : t.tableless = s.tableless) : t = { s with
    ot := { s.ot with entries := t.ot.entries }
    store := { s.store with offtakes := t.store.offtakes } } := by
  obtain ⟨_, _, _, _, _, _, _, ⟨_, _, _, _⟩, _, _, _, _, _, _, _, ⟨_, _, _, _, _, _, _⟩⟩ := s
  obtain ⟨_, _, _, _, _, _, _, ⟨_, _, _, _⟩, _, _, _, _, _, _, _, ⟨_, _, _, _, _, _, _⟩⟩ := t
  simp only [State.tableless, State.mk.injEq, OfftakeTable.mk.injEq, Store.mk.injEq, true_and] at h ⊢
  exact h

theorem State.writeEntry_tableless (s : State) (i : Fin 48) (e : Option Offtake) :
    (s.writeEntry i e).tableless = s.tableless := rfl

theorem State.publishPart_tableless (s : State) (n : Nat) (p : RunPart) :
    (s.publishPart n p).tableless = s.tableless := by
  rcases s.publishPart_cases n p with ⟨-, h⟩ | ⟨e, -, -, ⟨-, h⟩ | ⟨-, h⟩⟩ <;> rw [h]
  · rfl
  · rfl

theorem State.publishedBy_tableless (s : State) (r : Run) :
    (s.publishedBy r).tableless = s.integrateFlare.tableless := by
  unfold State.publishedBy State.freeSlots State.publishParts
  rw [foldl_same State.tableless (fun t i => t.writeEntry_tableless i none),
    foldl_same State.tableless (fun t p => t.publishPart_tableless s.ae.runNumber p)]

/-- Publication moves the table alone, past an integration point (R59, R60, R70). -/
theorem State.publishedBy_eq (s : State) (r : Run) : s.publishedBy r = { s with
    ae := s.integrateFlare.ae
    ot := { s.ot with entries := (s.publishedBy r).ot.entries }
    store := { s.store with
      offtakes := (s.publishedBy r).store.offtakes, flare := s.integrateFlare.store.flare } } := by
  have h := State.eq_of_tableless (s.publishedBy_tableless r)
  rw [h]
  rw [State.integrateFlare_eq]

/-! ## What each participant counts for -/

/-- The use of a participant's entry, which publication does not change. -/
def State.useAt (s : State) (i : Fin 48) : Option Use := (s.entry i).map Offtake.use

theorem State.RunFits.useAt_published {s : State} {r : Run} (h : s.RunFits r) {q : RunPart}
    (hq : q ∈ r.compute.2) : (s.publishedBy r).useAt q.slot = s.useAt q.slot := by
  obtain ⟨p, hp, fed⟩ := h.exists_part hq
  have stays : q.slot ∉ r.retiring := fed.keeps.1 ▸ (h.2.1 p hp).2.2.1
  unfold State.useAt
  rcases State.publishedBy_entry_cases h q.slot with ⟨o, -, -, -, e⟩ | ⟨retired, -⟩ | ⟨-, -, e⟩
  · rw [e, Option.map_map]
    rfl
  · exact absurd retired stays
  · rw [e]

theorem State.servesZone_eq (s : State) (z : Zone) (q : RunPart) :
    s.servesZone z q = (s.useAt q.slot).any fun u => decide (u = .townHeat z) := by
  unfold State.servesZone State.useAt
  cases s.entry q.slot with
  | none => rfl
  | some e => rfl

/-- What a participant of class POWER yields (R64). -/
def RunPart.yieldOf (q : RunPart) : Option Use → Nat
  | some (.power y) => q.publishedTotal * y / 1000
  | _ => 0

theorem State.yieldTerm_eq (s : State) (q : RunPart) : s.yieldTerm q = q.yieldOf (s.useAt q.slot) := by
  unfold State.yieldTerm State.useAt RunPart.yieldOf
  cases s.entry q.slot with
  | none => rfl
  | some e => cases h : e.use <;> simp [h]

/-- The sum over a zone's participants reads their uses, which publication does not change. -/
theorem State.RunFits.filter_servesZone {s : State} {r : Run} (h : s.RunFits r) (z : Zone) :
    r.compute.2.filter ((s.publishedBy r).servesZone z) = r.compute.2.filter (s.servesZone z) :=
  List.filter_congr fun q hq => by rw [State.servesZone_eq, State.servesZone_eq, h.useAt_published hq]

theorem State.RunFits.map_yieldTerm {s : State} {r : Run} (h : s.RunFits r) :
    r.compute.2.map (s.publishedBy r).yieldTerm = r.compute.2.map s.yieldTerm :=
  List.map_congr_left fun q hq => by rw [State.yieldTerm_eq, State.yieldTerm_eq, h.useAt_published hq]

/-! ## The engine behind a completion -/

theorem State.figuresBy_frame (s : State) (r : Run) : (s.figuresBy r).fs = s.fs ∧
    (s.figuresBy r).ae.rerunPending = s.ae.rerunPending := by
  have h := s.publishedBy_eq r
  constructor
  · exact (congrArg State.fs h).trans rfl
  · exact ((congrArg (·.ae.rerunPending) h).trans (congrArg Engine.rerunPending s.integrateFlare_ae))

/-- A rerun changes nothing of the engine but the run, its number, the dispatch timer and the flag (R65). -/
theorem State.rerunIfPending_ae (s : State) : s.rerunIfPending.ae = { s.ae with
      run := s.rerunIfPending.ae.run, runNumber := s.rerunIfPending.ae.runNumber
      dispatch := s.rerunIfPending.ae.dispatch, rerunPending := false } ∧
    (s.ae.run = none → s.rerunIfPending.ae.run.isSome = s.ae.rerunPending) := by
  unfold State.rerunIfPending
  cases h : s.ae.rerunPending <;> simp [State.startRun]

theorem State.completeRun_ae (s : State) (r : Run) : (s.completeRun r).ae = { (s.figuresBy r).ae with
      run := (s.completeRun r).ae.run, runNumber := (s.completeRun r).ae.runNumber
      dispatch := (s.completeRun r).ae.dispatch, rerunPending := false } ∧
    (s.completeRun r).ae.run.isSome = s.ae.rerunPending := by
  rw [State.completeRun_eq]
  generalize hv : ((s.figuresBy r).raiseIf _ _).raiseIf _ _ = v
  have ae : v.ae = (s.figuresBy r).ae := by simp [← hv]
  obtain ⟨same, rerun⟩ := v.rerunIfPending_ae
  rw [ae] at same rerun
  exact ⟨same, (rerun rfl).trans (s.figuresBy_frame r).2⟩

@[simp] theorem State.rerunIfPending_fs (s : State) : s.rerunIfPending.fs = s.fs := by
  unfold State.rerunIfPending
  cases s.ae.rerunPending <;> rfl

theorem State.completeRun_alert (s : State) (r : Run) (f : AlertFlag) : (s.completeRun r).alert f =
    (s.alert f || (flareStarts s.ae.surplus (s.figuresBy r).ae.surplus && decide (.flareStarted = f)) ||
      ((s.figuresBy r).ae.short && decide (.shortfall = f))) := by
  rw [State.completeRun_eq, State.alert_of_alerts (congrArg Supervisor.alerts (State.rerunIfPending_fs _)),
    State.alert_raiseIf, State.alert_raiseIf, State.alert_of_alerts (s := s)]
  rw [(s.figuresBy_frame r).1]

theorem Supervisor.eq_of_monitors {a b : Supervisor} (monitors : a.monitors = b.monitors)
    (admission : a.admission = b.admission) : a = { b with alerts := a.alerts } := by
  rw [← monitors, ← admission]

/-- A completion moves the engine, the table with its stored records, the flare record and the alerts. -/
theorem State.completeRun_shape {s t : State} {r : Run} (ht : s.completeRun r = t) :
    t = { s with ae := t.ae, ot := t.ot, fs := t.fs, store := t.store } ∧
      t.ot = { s.ot with entries := t.ot.entries } ∧
      t.store = { s.store with offtakes := t.store.offtakes, flare := s.integrateFlare.store.flare } ∧
      t.fs = { s.fs with alerts := t.fs.alerts } := by
  have frame := s.completeRun_frame r
  have published := s.publishedBy_eq r
  have table := s.completeRun_ot r
  have store := s.completeRun_store r
  obtain ⟨monitors, admission⟩ := s.completeRun_supervised r
  rw [ht] at frame table store monitors admission
  generalize s.publishedBy r = v at published table store
  refine ⟨?_, ?_, ?_, Supervisor.eq_of_monitors monitors admission⟩
  · apply State.ext_blocks <;> simp [frame]
  · rw [table, published]
  · rw [store, published]

/-- What a participant's slot holds behind a completion: the grant published, and the record written where
the entry was PENDING (R59). -/
theorem State.completeRun_part {s : State} {r : Run} (h : s.RunFits r) {q : RunPart} (hq : q ∈ r.compute.2)
    (live : q.released = false) :
    let t := s.completeRun r
    ∃ e ∈ s.entry q.slot, t.entry q.slot = some (e.published q s.ae.runNumber) ∧
      t.record q.slot = if e.state = .pending then ⟨storedOfftake (t.entry q.slot), true⟩
        else s.record q.slot := by
  intro t
  obtain ⟨p, hp, fed⟩ := h.exists_part hq
  obtain ⟨entry, record⟩ := State.publishedBy_part h hq live
  obtain ⟨e, he⟩ := Option.isSome_iff_exists.1 (h.2.1 p hp).2.2.2
  rw [← fed.keeps.1] at he
  rw [← State.completeRun_record, ← State.completeRun_entry, he] at record
  rw [← State.completeRun_entry, he] at entry
  exact ⟨e, he, entry, by simpa using record⟩

/-- What settling the figures makes of the engine, figure by figure (R61 to R65). -/
theorem State.settleFigures_ae (s : State) (r : Run) (left : PerSource Nat) (ps : List RunPart) :
    let e := (s.settleFigures r left ps).ae
    (e.flareTotal = s.ae.flareTotal ∧ e.flareResidue = s.ae.flareResidue ∧ e.flarePoint = s.ae.flarePoint) ∧
    (e.lastCompleted = s.ae.runNumber ∧ e.lastPools = r.startPools ∧ e.lastNcv = r.ncvAtStart) ∧
    (e.surplus = surplusAfter left ps ∧ e.setpoint = setpointFor s.cvgGranted r.ncvAtStart ∧
      e.short = ps.any RunPart.short) ∧
    (∀ z, e.zoneGrant.get z = s.zoneGrantSum ps z ∧ e.zoneNeed.get z = s.zoneNeedSum ps z ∧
      e.coverage.get z = coverageOf (s.zoneGrantSum ps z) (s.zoneNeedSum ps z)) ∧
    e.yieldSum = (ps.map s.yieldTerm).sum ∧ e.exportEstimate = e.yieldSum - s.settings.stationLoad := by
  refine ⟨⟨rfl, rfl, rfl⟩, ⟨rfl, rfl, rfl⟩, ⟨rfl, rfl, rfl⟩, fun z => ?_, rfl, rfl⟩
  cases z <;> exact ⟨rfl, rfl, rfl⟩

theorem State.publishedBy_ae (s : State) (r : Run) : (s.publishedBy r).ae = s.integrateFlare.ae ∧
    (s.publishedBy r).settings = s.settings := by
  rw [State.publishedBy_eq]
  exact ⟨rfl, rfl⟩

/-- The sums over the participants read their uses as they were before the completion (R63, R64). -/
theorem State.RunFits.sums {s : State} {r : Run} (h : s.RunFits r) :
    (∀ z, (s.publishedBy r).zoneGrantSum r.compute.2 z = s.zoneGrantSum r.compute.2 z ∧
      (s.publishedBy r).zoneNeedSum r.compute.2 z = s.zoneNeedSum r.compute.2 z) ∧
    (r.compute.2.map (s.publishedBy r).yieldTerm).sum = (r.compute.2.map s.yieldTerm).sum := by
  refine ⟨fun z => ⟨?_, ?_⟩, ?_⟩
  · rw [State.zoneGrantSum, h.filter_servesZone, State.zoneGrantSum]
  · rw [State.zoneNeedSum, h.filter_servesZone, State.zoneNeedSum]
  · rw [h.map_yieldTerm]

theorem flareStarts_eq (before after_ : PerSource Nat) : flareStarts before after_ =
    decide ((before.bfg = 0 ∧ 0 < after_.bfg) ∨ (before.cog = 0 ∧ 0 < after_.cog)) := by
  have zero (n : Nat) : (n == 0) = decide (n = 0) := by rw [Bool.eq_iff_iff]; simp
  simp [flareStarts, Bool.decide_and, Bool.decide_or, zero]

/-- The figures of a completion over the state it found (R61 to R65). -/
theorem State.figuresBy_ae {s u : State} {r : Run} (h : s.RunFits r) (hu : s.figuresBy r = u) :
    (u.ae.flareTotal = s.integrateFlare.ae.flareTotal ∧ u.ae.flareResidue = s.integrateFlare.ae.flareResidue ∧
      u.ae.flarePoint = s.now) ∧
    (u.ae.lastCompleted = s.ae.runNumber ∧ u.ae.lastPools = r.startPools ∧ u.ae.lastNcv = r.ncvAtStart) ∧
    (u.ae.surplus = surplusAfter r.compute.1 r.compute.2 ∧
      u.ae.setpoint = setpointFor ((s.publishedBy r).grantSum .cvg) r.ncvAtStart ∧
      u.ae.short = r.compute.2.any RunPart.short) ∧
    (∀ z, u.ae.zoneGrant.get z = s.zoneGrantSum r.compute.2 z ∧
      u.ae.zoneNeed.get z = s.zoneNeedSum r.compute.2 z ∧
      u.ae.coverage.get z = coverageOf (u.ae.zoneGrant.get z) (u.ae.zoneNeed.get z)) ∧
    u.ae.yieldSum = (r.compute.2.map s.yieldTerm).sum ∧
    u.ae.exportEstimate = u.ae.yieldSum - s.settings.stationLoad := by
  obtain ⟨sums, yields⟩ := h.sums
  obtain ⟨engine, settings⟩ := s.publishedBy_ae r
  have figures := (s.publishedBy r).settleFigures_ae r r.compute.1 r.compute.2
  rw [show (s.publishedBy r).settleFigures r r.compute.1 r.compute.2 = u from hu] at figures
  obtain ⟨⟨total, residue, point⟩, ⟨completed, pools, ncv⟩, released, zones, yield, estimate⟩ := figures
  rw [engine, s.integrateFlare_ae] at point completed
  rw [engine] at total residue
  rw [settings] at estimate
  refine ⟨⟨total, residue, point⟩, ⟨completed, pools, ncv⟩, released, fun z => ?_, yield.trans yields, estimate⟩
  obtain ⟨grant, need, coverage⟩ := zones z
  rw [← grant, ← need] at coverage
  exact ⟨grant.trans (sums z).1, need.trans (sums z).2, coverage⟩

/-- Settles O34: the slots by what was published, the engine by the figures settled over it. -/
theorem completionPublishesTheRun : Obligations.CompletionPublishesTheRun := by
  intro s r running fits paid serves
  have answer : exec .runCompletion s = .next (s.completeRun r) := by
    simp only [exec, execRunCompletion, running]
  have serving (z : Zone) : s.servesZone z = serves z := by
    funext q
    simp only [serves, State.servesZone]
    cases s.entry q.slot <;> rfl
  have yielding (q : RunPart) : s.yieldTerm q = (match (s.entry q.slot).map fun e => e.use with
      | some (.power y) => paid q * y / 1000
      | _ => 0) := s.yieldTerm_eq q
  have grants := State.grantSum_congr (s.completeRun_ot r) .cvg
  have parts (q) (hq : q ∈ r.compute.2) (live : q.released = false) := State.completeRun_part fits hq live
  have retired (i) (hi : i ∈ r.retiring) : (s.completeRun r).entry i = none ∧
      (s.completeRun r).record i = ⟨StoredOfftake.free, true⟩ := by
    rw [State.completeRun_entry, State.completeRun_record]
    exact s.publishedBy_retired hi
  have others (i) (hi : i ∉ r.retiring) (rel : ∀ q ∈ r.parts, q.slot = i → q.released = true) :
      (s.completeRun r).entry i = s.entry i ∧ (s.completeRun r).record i = s.record i := by
    rw [State.completeRun_entry, State.completeRun_record]
    exact State.publishedBy_other fits hi rel
  have alert := s.completeRun_alert r
  obtain ⟨engine, rerun⟩ := s.completeRun_ae r
  obtain ⟨⟨total, residue, point⟩, ⟨completed, pools, ncv⟩, ⟨released, setpoint, short⟩, zones, yield, estimate⟩ :=
    State.figuresBy_ae fits rfl
  obtain ⟨shape, table, store, supervisor⟩ := State.completeRun_shape (s := s) (r := r) rfl
  refine ⟨_, answer, shape, table, store, parts, retired, others, ?_⟩
  clear parts retired others shape table store answer
  rw [← grants] at setpoint
  generalize s.completeRun r = t at *
  generalize s.figuresBy r = u at *
  generalize r.compute = c at *
  obtain ⟨run, number, dispatch, engine⟩ : ∃ run number dispatch, t.ae = { u.ae with
      run := run, runNumber := number, dispatch := dispatch, rerunPending := false } := ⟨_, _, _, engine⟩
  simp only [engine] at rerun ⊢
  refine ⟨fun src => ?_, setpoint, pools, ncv, completed, short, fun z => ?_, ?_, estimate, total, residue, point,
    trivial, rerun, supervisor, ?_, ?_, fun f hf hg => ?_⟩
  · rw [released]
    exact surplusAfter_get _ _ src
  · obtain ⟨grant, need, coverage⟩ := zones z
    rw [State.zoneGrantSum, serving] at grant
    rw [State.zoneNeedSum, serving] at need
    exact ⟨grant, need, coverage⟩
  · exact yield.trans (congrArg List.sum (List.map_congr_left fun q _ => yielding q))
  · rw [alert]; simp
  · rw [alert, flareStarts_eq]; simp
  · rw [alert]; simp [Ne.symm hf, Ne.symm hg]

end Sys2Proof.Machine
end

section
/-! PROOF. The layouts of the records (R174, R178): each field stands in its own bytes. -/

namespace Sys2Proof.Machine

/-- One byte in front of the rest of a form. -/
theorem splitFields_cons_byte (ws : List Nat) (b : Byte) (rest : List Byte) :
    splitFields (1 :: ws) (b :: rest) = (splitFields ws rest).map (b.toNat :: ·) := by
  simp [splitFields, beNat]

theorem toNat_byteOfFlags (b7 b6 b5 b4 b3 b2 b1 b0 : Bool) :
    (byteOfFlags b7 b6 b5 b4 b3 b2 b1 b0).toNat = 128 * b7.toNat + 64 * b6.toNat + 32 * b5.toNat +
      16 * b4.toNat + 8 * b3.toNat + 4 * b2.toNat + 2 * b1.toNat + b0.toNat := by
  revert b7 b6 b5 b4 b3 b2 b1 b0
  decide

theorem OfftakeClass.code_lt (c : OfftakeClass) : c.code % 256 = c.code := by cases c <;> rfl
theorem OfftakeState.code_lt (c : OfftakeState) : c.code % 256 = c.code := by cases c <;> rfl
theorem AccountState.code_lt (c : AccountState) : c.code % 256 = c.code := by cases c <;> rfl
theorem Zone.number_lt (z : Zone) : z.number % 256 = z.number := by cases z <;> rfl
theorem Use.zoneNumber_lt (u : Use) : u.zoneNumber % 256 = u.zoneNumber := by
  cases u with
  | townHeat z => exact z.number_lt
  | works => rfl
  | steam => rfl
  | power y => rfl

theorem Bool.toNat_byte (b : Bool) : b.toNat % 256 = b.toNat := by cases b <;> rfl

theorem Fin.val_byte {n : Nat} (i : Fin n) (h : n ≤ 256) : i.val % 256 = i.val := Nat.mod_eq_of_lt (by omega)

theorem elapsedMs_word (a b : Time) : elapsedMs a b % 4294967296 = (a - b).toNat :=
  Nat.mod_eq_of_lt (a - b).isLt

/-- A form read field by field from the bytes of its fields. -/
theorem splitFields_offtake (i : Fin 48) (e : Offtake) (b : Bool) :
    splitFields [1, 2, 1, 1, 2, 1, 1, 3, 3, 3, 3, 3, 1, 4, 1, 3, 3, 3, 3, 2] (e.encode i b) =
      some [i.val, e.number % 65536, e.use.cls.code, e.use.zoneNumber, e.use.yieldValue % 65536,
        e.priority % 256, e.accepted.toByte.toNat, e.floor % 16777216, e.ceiling % 16777216,
        e.demand % 16777216, e.fallback % 16777216, e.boost % 16777216, e.state.code,
        e.sequence % 4294967296, 4 * e.grant.short.toNat + 2 * b.toNat + e.damaged.toNat,
        e.grant.parts.cvg % 16777216, e.grant.parts.bfg % 16777216, e.grant.parts.cog % 16777216,
        (e.grant.parts.cvg + e.grant.parts.bfg + e.grant.parts.cog) % 16777216, e.grant.run % 65536] := by
  simp only [Offtake.encode, PerSource.encode3, OfftakeState.encode, List.append_assoc, List.cons_append,
    List.nil_append, splitFields_join, splitFields_cons_byte, splitFields_single, Option.map_some, Nat.reducePow,
    OfftakeClass.code_lt, OfftakeState.code_lt, Use.zoneNumber_lt, Fin.val_byte i (by decide), toNat_byteOfFlags,
    Grant.total, Bool.toNat_false, Nat.mul_zero, Nat.zero_add]

theorem splitFields_summary (e : Engine) :
    splitFields [1, 2, 2, 1, 3, 3, 3, 3, 3, 3, 3, 2, 2, 2, 2, 3] e.encode =
      some [e.run.isSome.toNat, e.runNumber % 65536, e.lastCompleted % 65536,
        2 * e.short.toNat + e.rerunPending.toNat, e.lastPools.cvg % 16777216,
        e.lastPools.bfg % 16777216, e.lastPools.cog % 16777216, e.surplus.cvg % 16777216,
        e.surplus.bfg % 16777216, e.surplus.cog % 16777216, e.setpoint % 16777216,
        e.coverage.z1 % 65536, e.coverage.z2 % 65536, e.coverage.z3 % 65536, e.coverage.z4 % 65536,
        e.exportEstimate % 16777216] := by
  simp only [Engine.encode, PerSource.encode3, List.append_assoc, List.cons_append,
    List.nil_append, splitFields_join, splitFields_cons_byte, splitFields_single, Option.map_some, Nat.reducePow,
    Bool.toNat_byte, toNat_byteOfFlags, Bool.toNat_false, Nat.mul_zero, Nat.zero_add]

/-- A signed field of two bytes, and one of six. -/
theorem toNat_emod_word (i : Int) : ((i % (65536 : Nat)).toNat) % 65536 = (i % 65536).toNat := by omega
theorem toNat_emod_long (i : Int) :
    ((i % (281474976710656 : Nat)).toNat) % 281474976710656 = (i % 281474976710656).toNat := by omega

theorem toNat_marks (m : EventMarks) : m.toByte.toNat = 16 * m.uncollected.toNat + 8 * m.finalReady.toNat +
    4 * m.reverse.toNat + 2 * m.implausible.toNat + m.saturated.toNat := by
  simp only [EventMarks.toByte, toNat_byteOfFlags, Bool.toNat_false, Nat.mul_zero, Nat.zero_add]

theorem splitFields_account (i : Fin 64) (a : Account) (now : Time) :
    let base := a.baseline.getD ⟨0, 0, 0⟩
    let copy := a.closed.getD ⟨⟨0, 0⟩, ⟨0, 0⟩, 0⟩
    let totals := a.final.getD ⟨⟨0, 0⟩, ⟨0, 0⟩⟩
    splitFields [1, 4, 1, 1, 3, 1, 1, 1, 4, 2, 2, 4, 3, 4, 2, 4, 2, 1, 1, 1, 4, 2, 4, 2, 4, 4, 2, 4, 2]
        (a.encode i now) =
      some [i.val, a.number % 4294967296, a.station % 256, a.zone.number, a.flowLimit % 16777216,
        a.state.code,
        16 * a.final.isSome.toNat + 8 * a.closed.isSome.toNat + 4 * a.lastReading.isSome.toNat +
          2 * a.baseline.isSome.toNat + a.damaged.toNat,
        16 * a.marks.uncollected.toNat + 8 * a.marks.finalReady.toNat + 4 * a.marks.reverse.toNat +
          2 * a.marks.implausible.toNat + a.marks.saturated.toNat,
        base.volume % 4294967296, (base.flowTemp % 65536).toNat, (base.returnTemp % 65536).toNat,
        (match a.lastReading with | some t => (now - t).toNat | none => 0),
        a.residue % 16777216, a.recovered.kwh % 4294967296, a.recovered.wh % 65536,
        a.fired.kwh % 4294967296, a.fired.wh % 65536, a.gaps % 256, a.implausibles % 256,
        a.reverses % 256, copy.recovered.kwh % 4294967296, copy.recovered.wh % 65536,
        copy.fired.kwh % 4294967296, copy.fired.wh % 65536, copy.number % 4294967296,
        totals.recovered.kwh % 4294967296, totals.recovered.wh % 65536,
        totals.fired.kwh % 4294967296, totals.fired.wh % 65536] := by
  intro base copy totals
  unfold Account.encode
  cases a.lastReading
  all_goals
    simp only [EnergyBand.encode, beInt, List.append_assoc, List.cons_append, List.nil_append, splitFields_join,
      splitFields_cons_byte, splitFields_single, Option.map_some, Nat.reducePow, AccountState.code_lt,
      Zone.number_lt, Fin.val_byte i (by decide), toNat_byteOfFlags, toNat_marks, toNat_emod_word, elapsedMs_word,
      Nat.zero_mod, Bool.toNat_false, Nat.mul_zero, Nat.zero_add]
  · rfl
  · rfl

/-- The bytes of a current period, of a declaration and of a closed period (R178). -/
def Period.bytes (c : Period) (now : Time) : List Byte :=
  beBytes 4 c.number ++ beBytes 3 c.declared ++ beBytes 4 (elapsedMs now c.start) ++
    beBytes 4 (remainingMs c.start c.length now) ++ beBytes 2 c.length ++ beBytes 6 c.delivered ++
    beBytes 6 (c.projection.getD 0) ++
    [byteOfFlags false false false false false c.projection.isSome c.carried c.gap]

def Declaration.bytes (d : Declaration) : List Byte := beBytes 4 d.number ++ beBytes 3 d.declared

def ClosedPeriod.bytes (c : ClosedPeriod) : List Byte :=
  beBytes 4 c.number ++ beBytes 3 c.declared ++ beBytes 6 c.delivered ++ beInt 6 c.deviation ++
    beBytes 1 c.outcome.code ++ [byteOfFlags false false false false false false c.carried c.gap]

/-- An absent part is sent as the zeros of an empty one (R178). -/
theorem Settlement.encode_eq (e : Settlement) (now : Time) : e.encode now =
    beBytes 1 e.current.isSome.toNat ++
      [byteOfFlags false false false false e.lastClosed.isSome e.next.isSome e.current.isSome e.silent] ++
      (e.current.getD ⟨0, 0, now, 0, 0, none, false, false⟩).bytes now ++ (e.next.getD ⟨0, 0⟩).bytes ++
      (e.lastClosed.getD ⟨0, 0, 0, 0, .within, false, false⟩).bytes ++ beBytes 2 e.outOfBand := by
  have parts : e.encode now = beBytes 1 e.current.isSome.toNat ++
      [byteOfFlags false false false false e.lastClosed.isSome e.next.isSome e.current.isSome e.silent] ++
      e.current.elim (List.replicate 30 0) (fun c => c.bytes now) ++
      e.next.elim (List.replicate 7 0) Declaration.bytes ++
      e.lastClosed.elim (List.replicate 21 0) ClosedPeriod.bytes ++ beBytes 2 e.outOfBand := by
    unfold Settlement.encode
    cases e.current <;> cases e.next <;> cases e.lastClosed <;> rfl
  have current (o : Option Period) : o.elim (List.replicate 30 0) (fun c => c.bytes now) =
      (o.getD ⟨0, 0, now, 0, 0, none, false, false⟩).bytes now := by
    cases o with
    | none =>
      simp only [Period.bytes, elapsedMs, remainingMs, Option.elim_none, Option.getD_none, BitVec.sub_self]
      rfl
    | some c => rfl
  have next (o : Option Declaration) : o.elim (List.replicate 7 0) Declaration.bytes =
      (o.getD ⟨0, 0⟩).bytes := by
    cases o <;> rfl
  have closed (o : Option ClosedPeriod) : o.elim (List.replicate 21 0) ClosedPeriod.bytes =
      (o.getD ⟨0, 0, 0, 0, .within, false, false⟩).bytes := by
    cases o <;> rfl
  rw [parts, current, next, closed]

theorem length_settlement (e : Settlement) (now : Time) : (e.encode now).length = 62 := by
  simp [Settlement.encode_eq, Period.bytes, Declaration.bytes, ClosedPeriod.bytes, beInt]

theorem length_account (i : Fin 64) (a : Account) (now : Time) : (a.encode i now).length = 71 := by
  unfold Account.encode
  simp [EnergyBand.encode, beInt]

theorem PeriodOutcome.code_lt (c : PeriodOutcome) : c.code % 256 = c.code := by cases c <;> rfl

/-- Settles O16, record by record. -/
theorem recordsHaveTheLayoutOfFormats : Obligations.RecordsHaveTheLayoutOfFormats := by
  refine ⟨splitFields_offtake, splitFields_summary, fun i a now => ⟨length_account i a now,
    splitFields_account i a now⟩, fun e now => ⟨length_settlement e now, ?_⟩⟩
  rw [Settlement.encode_eq]
  generalize e.current.getD ⟨0, 0, now, 0, 0, none, false, false⟩ = cur
  generalize e.next.getD ⟨0, 0⟩ = nxt
  generalize e.lastClosed.getD ⟨0, 0, 0, 0, .within, false, false⟩ = lst
  simp only [Period.bytes, Declaration.bytes, ClosedPeriod.bytes, beInt, List.append_assoc, List.cons_append,
    List.nil_append, splitFields_join, splitFields_cons_byte, splitFields_single, Option.map_some, Nat.reducePow,
    Bool.toNat_byte, toNat_byteOfFlags, toNat_emod_long, elapsedMs_word, remainingMs, PeriodOutcome.code_lt,
    Bool.toNat_false, Nat.mul_zero, Nat.zero_add]
  rfl

end Sys2Proof.Machine
end

section
/-! PROOF. The lookups of the two tables (R21, R42 to R45, R115, R134, R135): what a number finds, and the
walks of the two cursors. -/

namespace Sys2Proof.Machine

/-! ## What a number finds -/

/-- A number finds the one entry that carries it (R21, R23). -/
theorem State.NumbersUnique.findOfftake_iff {s : State} (h : s.NumbersUnique) {n : Nat} (hn : n ≠ 0) (i : Fin 48)
    (e : Offtake) : s.findOfftake n = some (i, e) ↔ s.entry i = some e ∧ e.number = n := by
  constructor
  · intro found
    obtain ⟨-, entry, number⟩ := State.findOfftake_some found
    exact ⟨entry, number⟩
  · rintro ⟨entry, number⟩
    cases found : s.findOfftake n with
    | none =>
      rcases State.findOfftake_none.1 found with zero | others
      · exact absurd zero hn
      · exact absurd number (others i e entry)
    | some x =>
      obtain ⟨-, there, same⟩ := State.findOfftake_some (i := x.1) (e := x.2) found
      have slot : x.1 = i := h x.1 i x.2 there e entry (same.trans number.symm)
      rw [slot, entry] at there
      exact congrArg some (Prod.ext slot (Option.some.inj there).symm)

/-- Nothing is found under a number that no account carries (R115). -/
theorem State.findAccount_none_iff {s : State} {n : Nat} (hn : n ≠ 0) :
    s.findAccount n = none ↔ ∀ i, ∀ a ∈ s.account i, a.number ≠ n := by
  refine ⟨fun h i => State.findAccount_none h hn i, fun h => ?_⟩
  cases found : s.findAccount n with
  | none => rfl
  | some x =>
    obtain ⟨-, account, number⟩ := State.findAccount_some (i := x.1) (a := x.2) found
    exact absurd number (h x.1 x.2 account)

/-! ## READ OFFTAKE, READ ACCOUNT, READ GRANTS -/

theorem readOfftakeCommand_eq (s : State) {n : Nat} (hn : n < 65536) :
    readOfftakeCommand (beBytes 2 n) s = ⟨match s.findOfftake n with
      | some (i, e) => ⟨.ok, e.encode i (s.isParticipant i)⟩
      | none => ⟨.notFound, []⟩, s⟩ := by
  unfold readOfftakeCommand
  rw [splitFields_single_of_lt hn]
  dsimp only
  cases s.findOfftake n <;> rfl

/-- A command that names an account by a number that fits acts on what the number finds (R115). -/
theorem namedAccount_eq (s : State) {n : Nat} (hn : n < 4294967296) (act : Fin 64 → Account → Answer) :
    namedAccount (beBytes 4 n) s act = match s.findAccount n with
      | some (i, a) => act i a
      | none => s.refuse .notFound := by
  unfold namedAccount
  rw [splitFields_single_of_lt hn]
  dsimp only
  cases s.findAccount n <;> rfl

theorem numberList_flatMap {l : List Nat} (h : ∀ n ∈ l, n < 65536) :
    numberList (l.flatMap (beBytes 2)) = some l := by
  induction l with
  | nil => rfl
  | cons n l ih =>
    obtain ⟨hn, hl⟩ := List.forall_mem_cons.1 h
    have bytes : beNat [BitVec.ofNat 8 (n / 256 ^ 1), BitVec.ofNat 8 (n / 256 ^ 0)] = n :=
      beNat_beBytes_of_lt (w := 2) hn
    rw [List.flatMap_cons, beBytes, beBytes, beBytes, List.cons_append, List.cons_append, List.nil_append,
      numberList, ih hl, bytes]
    rfl

theorem readGrantsCommand_eq (s : State) {l : List Nat} (few : 1 ≤ l.length ∧ l.length ≤ 12)
    (h : ∀ n ∈ l, n < 65536) : readGrantsCommand (l.flatMap (beBytes 2)) s =
      ⟨⟨if ∀ n ∈ l, (s.findOfftake n).isSome = true then .ok else .notFound,
        (l.flatMap fun n => grantRecord n ((s.findOfftake n).map fun x => x.2.grant)) ++
          beBytes 2 s.ae.lastCompleted⟩, s⟩ := by
  have length : ¬ (l.length = 0 ∨ 12 < l.length) := by omega
  unfold readGrantsCommand
  rw [numberList_flatMap h]
  dsimp only
  rw [if_neg length]
  simp [State.grantOf]

/-- Settles O17: each command answers by what the number finds. -/
theorem lookupsByNumber : Obligations.LookupsByNumber := by
  refine ⟨fun s h => ⟨fun n hn => ?_, fun n hn => ?_, fun l one few hl => ?_⟩,
    fun s n hn => ⟨fun unique => unique.findOfftake_iff hn, ?_, State.findAccount_none_iff hn⟩⟩
  · refine congrArg _ (State.takeFrame_of_reply h ((readOfftakeCommand_eq _ hn).trans ?_))
    rw [State.frameTaken_findOfftake]
    cases s.findOfftake n <;> simp
  · refine congrArg _ (State.takeFrame_of_reply h ((namedAccount_eq _ hn _).trans ?_))
    rw [State.frameTaken_findAccount]
    cases s.findAccount n <;> simp [State.refuse, State.ok]
  · refine congrArg _ (State.takeFrame_of_reply h ((readGrantsCommand_eq _ ⟨one, few⟩ hl).trans ?_))
    simp
  · rw [State.findOfftake_none]
    simp [hn]

/-! ## The walks (R43, R44, R135) -/

/-- The lowest slot that answers a description. -/
theorem find_finRange_some {n : Nat} {p : Fin n → Bool} {i : Fin n} :
    (List.finRange n).find? p = some i ↔ p i = true ∧ ∀ j < i, p j = false := by
  rw [← Fin.find?_eq_find?_finRange, Fin.find?_eq_some_iff]

theorem find_finRange_none {n : Nat} {p : Fin n → Bool} :
    (List.finRange n).find? p = none ↔ ∀ i, p i = false := by
  simp

theorem findOfftakesCommand_of_filter (s : State) {x y z : Byte} {f : OfftakeFilter}
    (h : offtakeFilter x.toNat y.toNat z.toNat = some f) :
    let n := (slots48.filter (s.slotMatches f)).length
    findOfftakesCommand [x, y, z] s = ⟨⟨if n = 0 then .end_ else .ok, beBytes 1 n⟩,
      { s with ot := { s.ot with cursor := ⟨f, slots48.find? (s.slotMatches f)⟩ } }⟩ := by
  unfold findOfftakesCommand
  rw [splitFields_threeBytes]
  simp only [h]

theorem findOfftakesCommand_of_none (s : State) {x y z : Byte}
    (h : offtakeFilter x.toNat y.toNat z.toNat = none) :
    findOfftakesCommand [x, y, z] s = s.refuse .badValue := by
  unfold findOfftakesCommand
  rw [splitFields_threeBytes]
  simp only [h]

theorem findAccountsCommand_of_filter (s : State) {x y z : Byte} {f : AccountFilter}
    (h : accountFilter x.toNat y.toNat z.toNat = some f) :
    let n := (slots64.filter (s.accountMatches f)).length
    findAccountsCommand [x, y, z] s = ⟨⟨if n = 0 then .end_ else .ok, beBytes 1 n⟩,
      { s with hau := { s.hau with cursor := ⟨f, slots64.find? (s.accountMatches f)⟩ } }⟩ := by
  unfold findAccountsCommand
  rw [splitFields_threeBytes]
  simp only [h]

theorem findAccountsCommand_of_none (s : State) {x y z : Byte}
    (h : accountFilter x.toNat y.toNat z.toNat = none) :
    findAccountsCommand [x, y, z] s = s.refuse .badValue := by
  unfold findAccountsCommand
  rw [splitFields_threeBytes]
  simp only [h]

/-- The first match from a position on. -/
theorem find_from_some {n : Nat} {p : Fin n → Bool} {k i : Fin n} (h : k ≤ i) (hi : p i = true)
    (before : ∀ j, k ≤ j → j < i → p j = false) :
    ((List.finRange n).find? fun j => decide (k.val ≤ j.val) && p j) = some i := by
  refine find_finRange_some.2 ⟨by simpa [hi] using h, fun j hj => ?_⟩
  by_cases k_le : k.val ≤ j.val
  · simp [before j k_le hj]
  · simp [k_le]

theorem find_from_none {n : Nat} {p : Fin n → Bool} {k : Fin n} (h : ∀ i, k ≤ i → p i = false) :
    ((List.finRange n).find? fun j => decide (k.val ≤ j.val) && p j) = none := by
  refine find_finRange_none.2 fun j => ?_
  by_cases k_le : k.val ≤ j.val
  · simp [h j k_le]
  · simp [k_le]

theorem readNextOfftakeCommand_of_match {s : State} {p i : Fin 48} {e : Offtake}
    (position : s.ot.cursor.position = some p) (h : p ≤ i) (entry : s.entry i = some e)
    (hi : s.slotMatches s.ot.cursor.filter i = true)
    (before : ∀ j, p ≤ j → j < i → s.slotMatches s.ot.cursor.filter j = false) :
    readNextOfftakeCommand s = (s.moveOfftakeCursor (slotAfter i)).ok (e.encode i (s.isParticipant i)) := by
  unfold readNextOfftakeCommand slots48
  simp only [position, find_from_some h hi before, entry]

theorem readNextOfftakeCommand_of_end {s : State}
    (h : ∀ p ∈ s.ot.cursor.position, ∀ i, p ≤ i → s.slotMatches s.ot.cursor.filter i = false) :
    readNextOfftakeCommand s = (s.moveOfftakeCursor none).refuse .end_ := by
  unfold readNextOfftakeCommand slots48
  cases position : s.ot.cursor.position with
  | none =>
    have : s.moveOfftakeCursor none = s := by
      unfold State.moveOfftakeCursor
      rw [← position]
    rw [this]
  | some p => simp only [find_from_none (h p position)]

theorem readNextAccountCommand_of_match {s : State} {p i : Fin 64} {a : Account}
    (position : s.hau.cursor.position = some p) (h : p ≤ i) (account : s.account i = some a)
    (hi : s.accountMatches s.hau.cursor.filter i = true)
    (before : ∀ j, p ≤ j → j < i → s.accountMatches s.hau.cursor.filter j = false) :
    readNextAccountCommand s = (s.moveAccountCursor (slotAfter i)).ok (a.encode i s.now) := by
  unfold readNextAccountCommand slots64
  simp only [position, find_from_some h hi before, account]

theorem readNextAccountCommand_of_end {s : State}
    (h : ∀ p ∈ s.hau.cursor.position, ∀ i, p ≤ i → s.accountMatches s.hau.cursor.filter i = false) :
    readNextAccountCommand s = (s.moveAccountCursor none).refuse .end_ := by
  unfold readNextAccountCommand slots64
  cases position : s.hau.cursor.position with
  | none =>
    have : s.moveAccountCursor none = s := by
      unfold State.moveAccountCursor
      rw [← position]
    rw [this]
  | some p => simp only [find_from_none (h p position)]

/-- A bare command that is taken by its owner's answer. -/
theorem State.takeFrame_bare_of_answer {s t : State} (h : s.Taking) {own : State → Answer} {r : Reply}
    (k : own s.frameTaken = ⟨r, t⟩) (l : t.cl = s.linkAfter s.cl.response) :
    s.takeFrame (bare [] own) = { t with cl := s.linkAfter r } := State.takeFrame_of_answer h k l

theorem State.frameTaken_slotMatches (s : State) : s.frameTaken.slotMatches = s.slotMatches := by
  rw [State.frameTaken_eq]; rfl

theorem State.frameTaken_accountMatches (s : State) : s.frameTaken.accountMatches = s.accountMatches := by
  rw [State.frameTaken_eq]; rfl

/-- The walk over the offtakes (R43, R44). -/
theorem offtakeWalk {s : State} (h : s.Taking) :
    (∀ (x y z : Byte) (f : OfftakeFilter), offtakeFilter x.toNat y.toNat z.toNat = some f →
       ∃ t n pos, exec (.findOfftakes [x, y, z]) s = .next t ∧
         t = { s with
           cl := s.linkAfter ⟨if n = 0 then .end_ else .ok, beBytes 1 n⟩
           ot := { s.ot with cursor := ⟨f, pos⟩ } } ∧
         n = (slots48.filter (s.slotMatches f)).length ∧
         (∀ i, pos = some i ↔ (s.slotMatches f i = true ∧ ∀ j < i, s.slotMatches f j = false))) ∧
    (∀ (p i : Fin 48) (e : Offtake), s.ot.cursor.position = some p → p ≤ i → s.entry i = some e →
       s.slotMatches s.ot.cursor.filter i = true →
       (∀ j, p ≤ j → j < i → s.slotMatches s.ot.cursor.filter j = false) →
       exec (.readNextOfftake []) s = .next { s with
         cl := s.linkAfter ⟨.ok, e.encode i (s.isParticipant i)⟩
         ot := { s.ot with cursor := { s.ot.cursor with position := slotAfter i } } }) ∧
    ((∀ p ∈ s.ot.cursor.position, ∀ i, p ≤ i → s.slotMatches s.ot.cursor.filter i = false) →
       exec (.readNextOfftake []) s = .next { s with
         cl := s.linkAfter ⟨.end_, []⟩
         ot := { s.ot with cursor := { s.ot.cursor with position := none } } }) := by
  refine ⟨fun x y z f hf => ⟨_, _, slots48.find? (s.slotMatches f), ?_, rfl, rfl, fun i => find_finRange_some⟩,
    fun p i e position le entry hi before => ?_, fun none_ => ?_⟩
  · refine (congrArg _ (State.takeFrame_of_answer h (findOfftakesCommand_of_filter _ hf) (by simp))).trans ?_
    rw [State.frameTaken_slotMatches, State.frameTaken_eq]
    rfl
  · refine (congrArg _ (State.takeFrame_bare_of_answer h (readNextOfftakeCommand_of_match (by simpa using position) le
      (by simpa using entry) (by simpa [State.frameTaken_slotMatches] using hi)
      (by simpa [State.frameTaken_slotMatches] using before)) (by simp [State.moveOfftakeCursor]))).trans ?_
    rw [State.frameTaken_isParticipant, State.frameTaken_eq]
    rfl
  · refine (congrArg _ (State.takeFrame_bare_of_answer h (readNextOfftakeCommand_of_end
      (by simpa [State.frameTaken_slotMatches] using none_)) (by simp [State.moveOfftakeCursor]))).trans ?_
    rw [State.frameTaken_eq]
    rfl

/-- The walk over the accounts (R135). -/
theorem accountWalk {s : State} (h : s.Taking) :
    (∀ (x y z : Byte) (f : AccountFilter), accountFilter x.toNat y.toNat z.toNat = some f →
       ∃ t n pos, exec (.findAccounts [x, y, z]) s = .next t ∧
         t = { s with
           cl := s.linkAfter ⟨if n = 0 then .end_ else .ok, beBytes 1 n⟩
           hau := { s.hau with cursor := ⟨f, pos⟩ } } ∧
         n = (slots64.filter (s.accountMatches f)).length ∧
         (∀ i, pos = some i ↔ (s.accountMatches f i = true ∧ ∀ j < i, s.accountMatches f j = false))) ∧
    (∀ (p i : Fin 64) (a : Account), s.hau.cursor.position = some p → p ≤ i → s.account i = some a →
       s.accountMatches s.hau.cursor.filter i = true →
       (∀ j, p ≤ j → j < i → s.accountMatches s.hau.cursor.filter j = false) →
       exec (.readNextAccount []) s = .next { s with
         cl := s.linkAfter ⟨.ok, a.encode i s.now⟩
         hau := { s.hau with cursor := { s.hau.cursor with position := slotAfter i } } }) ∧
    ((∀ p ∈ s.hau.cursor.position, ∀ i, p ≤ i → s.accountMatches s.hau.cursor.filter i = false) →
       exec (.readNextAccount []) s = .next { s with
         cl := s.linkAfter ⟨.end_, []⟩
         hau := { s.hau with cursor := { s.hau.cursor with position := none } } }) := by
  refine ⟨fun x y z f hf => ⟨_, _, slots64.find? (s.accountMatches f), ?_, rfl, rfl, fun i => find_finRange_some⟩,
    fun p i a position le account hi before => ?_, fun none_ => ?_⟩
  · refine (congrArg _ (State.takeFrame_of_answer h (findAccountsCommand_of_filter _ hf) (by simp))).trans ?_
    rw [State.frameTaken_accountMatches, State.frameTaken_eq]
    rfl
  · refine (congrArg _ (State.takeFrame_bare_of_answer h (readNextAccountCommand_of_match (by simpa using position) le
      (by simpa using account) (by simpa [State.frameTaken_accountMatches] using hi)
      (by simpa [State.frameTaken_accountMatches] using before)) (by simp [State.moveAccountCursor]))).trans ?_
    rw [State.frameTaken_eq]
    rfl
  · refine (congrArg _ (State.takeFrame_bare_of_answer h (readNextAccountCommand_of_end
      (by simpa [State.frameTaken_accountMatches] using none_)) (by simp [State.moveAccountCursor]))).trans ?_
    rw [State.frameTaken_eq]
    rfl

/-- Settles O18, from the two walks. -/
theorem walksReturnTheMatches : Obligations.WalksReturnTheMatches := by
  refine ⟨fun s h => ?_, fun s h => ?_⟩
  · obtain ⟨found, next, ended⟩ := offtakeWalk h
    exact ⟨found, fun x y z hf => congrArg _ (State.takeFrame_of_reply h (findOfftakesCommand_of_none _ hf)),
      next, ended⟩
  · obtain ⟨found, next, ended⟩ := accountWalk h
    exact ⟨found, fun x y z hf => congrArg _ (State.takeFrame_of_reply h (findAccountsCommand_of_none _ hf)),
      next, ended⟩

end Sys2Proof.Machine
end

section
/-! PROOF. Commands to the offtake table (R21 to R31, R67, R68): admission, amendment and demand read from
their payloads, and the commands that name one entry. -/

namespace Sys2Proof.Machine

/-! ## Commands that name an entry (R21) -/

theorem namedOfftake_of_found {s : State} {n : Nat} (hn : n < 65536) {i : Fin 48} {e : Offtake}
    (found : s.findOfftake n = some (i, e)) (open_ : s.isProtected i = false) (act : Fin 48 → Offtake → Answer) :
    namedOfftake (beBytes 2 n) s act = act i e := by
  unfold namedOfftake
  rw [splitFields_single_of_lt hn]
  simp only [found, open_, Bool.false_eq_true, if_false]

theorem State.takeFrame_named_of_answer {s t : State} (h : s.Serving) {n : Nat} (hn : n < 65536) {i : Fin 48}
    {e : Offtake} (found : s.findOfftake n = some (i, e)) (open_ : s.isProtected i = false)
    {act : State → Fin 48 → Offtake → Answer} {r : Reply} (k : act s.frameTaken i e = ⟨r, t⟩)
    (l : t.cl = s.linkAfter s.cl.response) :
    s.takeFrame (gated fun u => namedOfftake (beBytes 2 n) u (act u)) = { t with cl := s.linkAfter r } :=
  State.takeFrame_gated_of_answer h
    ((namedOfftake_of_found hn (by simpa using found) (by simpa using open_) _).trans k) l

theorem State.takeFrame_named_of_reply {s : State} (h : s.Serving) {n : Nat} (hn : n < 65536) {i : Fin 48}
    {e : Offtake} (found : s.findOfftake n = some (i, e)) (open_ : s.isProtected i = false)
    {act : State → Fin 48 → Offtake → Answer} {r : Reply} (k : act s.frameTaken i e = ⟨r, s.frameTaken⟩) :
    s.takeFrame (gated fun u => namedOfftake (beBytes 2 n) u (act u)) = s.answered r :=
  State.takeFrame_gated_of_reply h
    ((namedOfftake_of_found hn (by simpa using found) (by simpa using open_) _).trans k)

/-- The part after a command that wrote one entry and answered `r`. -/
theorem State.writeEntry_frameTaken (s : State) (i : Fin 48) (e : Offtake) (r : Reply) :
    ({ s.frameTaken.writeEntry i (some e) with cl := s.linkAfter r } : State) = { s with
      cl := s.linkAfter r
      ot := { s.ot with entries := setAt s.ot.entries i (some e) }
      store := { s.store with offtakes := setAt s.store.offtakes i ⟨e.stored, true⟩ } } := by
  rw [State.frameTaken_eq]
  rfl

theorem reinstateEntry_of_ready (s : State) (i : Fin 48) {e : Offtake}
    (h : e.state = .suspended ∧ e.damaged = false) :
    reinstateEntry s i e = (s.writeEntry i (some { e with state := .pending })).ok [] := if_pos h

theorem retireEntry_of_other (s : State) (i : Fin 48) {e : Offtake} (h : e.state ≠ .retiring) :
    retireEntry s i e = (s.writeEntry i (some { e with state := .retiring, boost := 0 })).ok [] := if_neg h

/-- Settles O24, by the state of the entry. -/
theorem reinstatementAndRetirement : Obligations.ReinstatementAndRetirement := by
  refine fun s n i e h hn found open_ => ⟨fun suspended whole => ?_, fun other => ?_, fun retiring => ?_,
    fun unfit => ?_, fun idle => ?_⟩
  · refine (congrArg _ (State.takeFrame_named_of_answer h hn found open_
      (reinstateEntry_of_ready _ i ⟨suspended, whole⟩) (by simp))).trans ?_
    exact congrArg _ (s.writeEntry_frameTaken i _ _)
  · refine (congrArg _ (State.takeFrame_named_of_answer h hn found open_
      (retireEntry_of_other _ i other) (by simp))).trans ?_
    exact congrArg _ (s.writeEntry_frameTaken i _ _)
  · exact congrArg _ (State.takeFrame_named_of_reply h hn found open_ (if_pos retiring))
  · have : ¬ (e.state = .suspended ∧ e.damaged = false) := by
      rintro ⟨suspended, whole⟩
      rcases unfit with damaged | other
      · rw [damaged] at whole; cases whole
      · exact other suspended
    exact congrArg _ (State.takeFrame_named_of_reply h hn found open_ (if_neg this))
  · have : ¬ e.takesPart = true := by
      rcases idle with k | k <;> simp [Offtake.takesPart, k]
    exact congrArg _ (State.takeFrame_named_of_reply h hn found open_ (if_neg this))

/-! ## Admission (R22 to R25) -/

theorem OfftakeClass.ofCode_code (c : OfftakeClass) : OfftakeClass.ofCode c.code = some c := by cases c <;> rfl

theorem Zone.ofNumber_number (z : Zone) : Zone.ofNumber z.number = some z := by cases z <;> rfl

theorem SourceSet.ofByte_toByte (a : SourceSet) : SourceSet.ofByte a.toByte.toNat = a := by
  obtain ⟨c, b, g⟩ := a
  revert c b g
  decide

/-- The payload of ADMIT OFFTAKE read back (R22). -/
theorem AdmitRequest.read_bytes {number cls zone yield priority floor ceiling demand fallback choice : Nat}
    (a : SourceSet) (hnumber : number < 65536) (hcls : cls < 256) (hzone : zone < 256) (hyield : yield < 65536)
    (hpriority : priority < 256) (hfloor : floor < 16777216) (hceiling : ceiling < 16777216)
    (hdemand : demand < 16777216) (hfallback : fallback < 16777216) (hchoice : choice < 256) :
    AdmitRequest.read (beBytes 2 number ++ beBytes 1 cls ++ beBytes 1 zone ++ beBytes 2 yield ++
      beBytes 1 priority ++ [a.toByte] ++ beBytes 3 floor ++ beBytes 3 ceiling ++ beBytes 3 demand ++
      beBytes 3 fallback ++ beBytes 1 choice) =
    some ⟨number, cls, zone, yield, priority, a, floor, ceiling, demand, fallback, choice⟩ := by
  have split : splitFields AdmitRequest.widths (beBytes 2 number ++ beBytes 1 cls ++ beBytes 1 zone ++
      beBytes 2 yield ++ beBytes 1 priority ++ [a.toByte] ++ beBytes 3 floor ++ beBytes 3 ceiling ++
      beBytes 3 demand ++ beBytes 3 fallback ++ beBytes 1 choice) =
      some [number, cls, zone, yield, priority, a.toByte.toNat, floor, ceiling, demand, fallback, choice] := by
    simp only [AdmitRequest.widths, List.append_assoc, List.cons_append, List.nil_append, splitFields_join,
      splitFields_cons_byte, splitFields_single, Option.map_some, Nat.reducePow, Nat.mod_eq_of_lt, *]
  unfold AdmitRequest.read
  rw [split]
  simp only [SourceSet.ofByte_toByte]

/-- The use an admission names is read from its class code (R22). -/
theorem AdmitRequest.use_of_class {r : AdmitRequest} {use : Use} (cls : r.cls = use.cls.code)
    (zone : ∀ z, use = .townHeat z → r.zone = z.number)
    (yield : ∀ y, use = .power y → r.yield = y ∧ 200 ≤ y ∧ y ≤ 500) : r.use = some use := by
  unfold AdmitRequest.use
  rw [cls, OfftakeClass.ofCode_code]
  cases use with
  | works => rfl
  | steam => rfl
  | townHeat z =>
    change (Zone.ofNumber r.zone).map Use.townHeat = _
    rw [zone z rfl, Zone.ofNumber_number]
    rfl
  | power y =>
    obtain ⟨same, low, high⟩ := yield y rfl
    change (if 200 ≤ r.yield ∧ r.yield ≤ 500 then some (Use.power r.yield) else none) = _
    rw [same, if_pos ⟨low, high⟩]

/-- The slot an admission takes: the one chosen, or the lowest that is FREE and outside the band (R23). -/
theorem State.admissionSlot_eq {s : State} {choice : Nat} {i : Fin 48} (free : s.entry i = none)
    (open_ : s.isProtected i = false)
    (chosen : choice = i.val ∨
      (choice = 255 ∧ ∀ j < i, (s.entry j).isSome = true ∨ s.isProtected j = true)) :
    s.admissionSlot choice = .ok i := by
  unfold State.admissionSlot
  rcases chosen with rfl | ⟨rfl, lower⟩
  · rw [dif_pos i.isLt]
    simp [free, open_]
  · have lowest : (slots48.find? fun j => (s.entry j).isNone && !s.isProtected j) = some i := by
      refine find_finRange_some.2 ⟨by simp [free, open_], fun j hj => ?_⟩
      rcases lower j hj with taken | inside
      · obtain ⟨x, hx⟩ := Option.isSome_iff_exists.1 taken
        simp [hx]
      · simp [inside]
    rw [dif_neg (by decide), lowest]

theorem AdmitRequest.entry_of_fits {r : AdmitRequest} {use : Use} (huse : r.use = some use)
    (number : r.number ≠ 0) (priority : r.priority ≤ 7) (accepted : r.accepted.isEmpty = false)
    (bounds : maxSat r.floor ≤ maxSat r.ceiling) (choice : r.choice = anyCode ∨ r.choice < 48) (sequence : Nat) :
    r.entry sequence = some
      { number := r.number, use := use, priority := r.priority, accepted := r.accepted
        floor := maxSat r.floor, ceiling := maxSat r.ceiling, demand := maxSat r.demand
        fallback := maxSat r.fallback, boost := 0, state := .pending, sequence := sequence
        damaged := false, grant := Grant.zero } := by
  unfold AdmitRequest.entry
  rw [huse]
  refine if_neg ?_
  rintro (zero | high | empty | crossed | ⟨notAny, far⟩)
  · exact number zero
  · omega
  · rw [accepted] at empty; cases empty
  · omega
  · rcases choice with any | near
    · exact notAny any
    · omega

/-- An admission that passes its checks (R22, R23). -/
theorem admitCommand_of_fits {s : State} {p : List Byte} {r : AdmitRequest} {e : Offtake} {i : Fin 48}
    (hread : AdmitRequest.read p = some r) (hentry : r.entry s.ot.counter = some e)
    (fresh : s.findOfftake r.number = none) (slot : s.admissionSlot r.choice = .ok i)
    (room : s.ot.counter < Config.counterEnd) :
    admitCommand p s = ((s.writeEntry i (some e)).writeCounter (s.ot.counter + 1)).ok
      (beBytes 1 i.val ++ beBytes 4 s.ot.counter) := by
  unfold admitCommand
  simp only [hread, hentry, fresh, slot, if_neg (Nat.not_le.2 room), Option.isSome_none, Bool.false_eq_true,
    if_false]

/-- Settles O20: the payload is read back, the entry passes the checks, and the slot is the one asked for. -/
theorem admissionFillsASlot : Obligations.AdmissionFillsASlot := by
  intro s number zone yield priority floor ceiling demand fallback choice use a i h one small fresh hzone hyield
    zoneOf yieldOf hpriority accepted hfloor hceiling hdemand hfallback bounds free open_ chosen room
  have hcls : use.cls.code < 256 := by
    cases use <;> simp [Use.cls, OfftakeClass.code]
  have hchoice : choice = 255 ∨ choice < 48 := chosen.elim (fun k => .inr (k ▸ i.isLt)) fun k => .inl k.1
  have hread := AdmitRequest.read_bytes a small hcls hzone hyield (by omega : priority < 256) hfloor hceiling
    hdemand hfallback (by omega : choice < 256)
  have hentry := AdmitRequest.entry_of_fits (AdmitRequest.use_of_class (use := use) (r := ⟨number, use.cls.code,
    zone, yield, priority, a, floor, ceiling, demand, fallback, choice⟩) rfl zoneOf yieldOf)
    (Nat.ne_of_gt one) hpriority accepted bounds hchoice s.frameTaken.ot.counter
  have slot : s.frameTaken.admissionSlot choice = .ok i :=
    State.admissionSlot_eq (by simpa using free) (by simpa using open_) (by simpa using chosen)
  have hown := admitCommand_of_fits hread hentry
    ((State.frameTaken_findOfftake s number).trans (State.findOfftake_none.2 (.inr fresh))) slot
    (by simpa [Config.counterEnd] using room)
  refine (congrArg _ (State.takeFrame_gated_of_answer h hown (by simp))).trans ?_
  rw [State.frameTaken_eq]
  rfl

/-! ## Amendment (R26) -/

/-- The payload of AMEND OFFTAKE read back (R26). -/
theorem AmendRequest.read_bytes {number marks priority floor ceiling fallback : Nat} (a : SourceSet)
    (hnumber : number < 65536) (hmarks : marks < 256) (hpriority : priority < 256) (hfloor : floor < 16777216)
    (hceiling : ceiling < 16777216) (hfallback : fallback < 16777216) :
    AmendRequest.read (beBytes 2 number ++ beBytes 1 marks ++ beBytes 1 priority ++ [a.toByte] ++
      beBytes 3 floor ++ beBytes 3 ceiling ++ beBytes 3 fallback) =
    some
      { number := number
        priority := if marks.testBit 0 then some priority else none
        accepted := if marks.testBit 1 then some a else none
        floor := if marks.testBit 2 then some floor else none
        ceiling := if marks.testBit 3 then some ceiling else none
        fallback := if marks.testBit 4 then some fallback else none } := by
  have split : splitFields AmendRequest.widths (beBytes 2 number ++ beBytes 1 marks ++ beBytes 1 priority ++
      [a.toByte] ++ beBytes 3 floor ++ beBytes 3 ceiling ++ beBytes 3 fallback) =
      some [number, marks, priority, a.toByte.toNat, floor, ceiling, fallback] := by
    simp only [AmendRequest.widths, List.append_assoc, List.cons_append, List.nil_append, splitFields_join,
      splitFields_cons_byte, splitFields_single, Option.map_some, Nat.reducePow, Nat.mod_eq_of_lt, *]
  unfold AmendRequest.read
  rw [split]
  simp only [SourceSet.ofByte_toByte]

/-- A marked value is taken, another kept. -/
theorem getD_if_some {α β : Type} (b : Bool) (f : α → β) (x : α) (y : β) :
    ((if b = true then some x else none).map f).getD y = if b = true then f x else y := by
  cases b <;> rfl

/-- An amendment that passes its checks (R21, R26). -/
theorem amendCommand_of_fits {s : State} {p : List Byte} {r : AmendRequest} {e : Offtake} {i : Fin 48}
    (hread : AmendRequest.read p = some r) (alone : r.badAlone = false) (pair : r.badPair = false)
    (found : s.findOfftake r.number = some (i, e)) (bounds : (r.apply e).floor ≤ (r.apply e).ceiling)
    (open_ : s.isProtected i = false) (whole : e.damaged = false) :
    amendCommand p s =
      if r.isEmpty = true then s.ok [] else (s.writeEntry i (some (r.apply e))).ok [] := by
  unfold amendCommand
  simp only [hread, alone, pair, found, open_, whole, if_neg (Nat.not_lt.2 bounds), Bool.or_self,
    Bool.false_eq_true, if_false]

/-- No mark is set exactly when the marks byte is 0 (assumption log 14). -/
theorem testBits_eq_false_iff {marks : Nat} (h : marks < 32) :
    (marks.testBit 0 = false ∧ marks.testBit 1 = false ∧ marks.testBit 2 = false ∧ marks.testBit 3 = false ∧
      marks.testBit 4 = false) ↔ marks = 0 := by
  revert marks
  decide

/-- Settles O21: the request reads back, its checks pass, and it applies as the statement's entry. -/
theorem amendmentChangesTheMarkedFields : Obligations.AmendmentChangesTheMarkedFields := by
  intro s number marks priority floor ceiling fallback a i e f h hnumber hmarks hpriority hfloor hceiling hfallback
    found open_ whole inRange nonempty amended bounds
  have hread := AmendRequest.read_bytes a hnumber (by omega : marks < 256) hpriority hfloor hceiling hfallback
  generalize hr : AmendRequest.mk number _ _ _ _ _ = r at hread
  have happly : r.apply e = f := by
    have id_ {α : Type} (o : Option α) : o = o.map id := by simp
    subst hr amended
    unfold AmendRequest.apply
    rw [id_ (if marks.testBit 0 = true then _ else _), id_ (if marks.testBit 1 = true then _ else _)]
    simp only [getD_if_some, maxSat, Config.maxPower, id]
  have alone : r.badAlone = false := by
    subst hr
    refine Bool.or_eq_false_iff.2 ⟨?_, ?_⟩
    · cases h0 : marks.testBit 0 with
      | false => rfl
      | true => exact decide_eq_false (Nat.not_lt.2 (inRange h0))
    · cases h1 : marks.testBit 1 with
      | false => rfl
      | true => exact nonempty h1
  have pair : r.badPair = false := by
    subst hr amended
    cases h2 : marks.testBit 2 with
    | false => rfl
    | true => cases h3 : marks.testBit 3 with
      | false => rfl
      | true =>
        rw [h2, h3] at bounds
        exact decide_eq_false (Nat.not_lt.2 bounds)
  have empty : r.isEmpty = true ↔ marks = 0 := by
    rw [← testBits_eq_false_iff hmarks]
    subst hr
    simp [AmendRequest.isEmpty, and_assoc]
  have hown := amendCommand_of_fits hread alone pair
    (s := s.frameTaken) (i := i) (e := e) (by subst hr; simpa using found) (by rw [happly]; exact bounds)
    (by simpa using open_) whole
  rw [happly] at hown
  by_cases none_ : marks = 0
  · rw [if_pos (empty.2 none_)] at hown
    rw [if_pos none_]
    exact congrArg _ (State.takeFrame_gated_of_reply h hown)
  · rw [if_neg (mt empty.1 none_)] at hown
    rw [if_neg none_]
    refine (congrArg _ (State.takeFrame_gated_of_answer h hown (by simp))).trans ?_
    exact congrArg _ (s.writeEntry_frameTaken i f _)

/-! ## Demands (R27) -/

theorem demandPairs_flatMap {l : List (Nat × Nat)} (h : ∀ p ∈ l, p.1 < 65536 ∧ p.2 < 16777216) :
    demandPairs (l.flatMap fun p => beBytes 2 p.1 ++ beBytes 3 p.2) = some l := by
  induction l with
  | nil => rfl
  | cons p l ih =>
    obtain ⟨⟨hn, hd⟩, hl⟩ := List.forall_mem_cons.1 h
    have number : beNat [BitVec.ofNat 8 (p.1 / 256 ^ 1), BitVec.ofNat 8 (p.1 / 256 ^ 0)] = p.1 :=
      beNat_beBytes_of_lt (w := 2) hn
    have demand : beNat [BitVec.ofNat 8 (p.2 / 256 ^ 2), BitVec.ofNat 8 (p.2 / 256 ^ 1),
        BitVec.ofNat 8 (p.2 / 256 ^ 0)] = p.2 := beNat_beBytes_of_lt (w := 3) hd
    have rest := ih hl
    rw [List.flatMap_cons]
    generalize l.flatMap _ = q at rest
    simp only [beBytes, List.cons_append, List.nil_append, demandPairs, rest, number, demand, Option.map_some]

/-- The demand an entry ends with: the last one listed for its number (R27). -/
def Offtake.demandFrom (e : Offtake) (l : List (Nat × Nat)) : Nat :=
  (((l.filter fun p => p.1 ≠ 0 ∧ p.1 = e.number).getLast?).map fun p => maxSat p.2).getD e.demand

theorem Offtake.demandFrom_cons (e : Offtake) (p : Nat × Nat) (l : List (Nat × Nat)) :
    e.demandFrom (p :: l) = if p.1 ≠ 0 ∧ p.1 = e.number
      then { e with demand := maxSat p.2 }.demandFrom l else e.demandFrom l := by
  unfold Offtake.demandFrom
  split
  · next k =>
    rw [List.filter_cons_of_pos (by simpa using k), List.getLast?_cons]
    cases (l.filter _).getLast? <;> rfl
  · next k => rw [List.filter_cons_of_neg (by simpa using k)]

/-- One pair changes the entry of its number (R27). -/
theorem State.takeDemand_entry {s : State} (h : s.NumbersUnique) (n kw : Nat) (i : Fin 48) :
    (s.takeDemand n kw).2.entry i = (s.entry i).map fun e =>
      if n ≠ 0 ∧ n = e.number then { e with demand := maxSat kw } else e := by
  unfold State.takeDemand
  cases found : s.findOfftake n with
  | none =>
    cases he : s.entry i with
    | none => rfl
    | some e =>
      refine (congrArg some (if_neg ?_)).symm
      rintro ⟨nonzero, same⟩
      exact (State.findOfftake_none.1 found).elim nonzero fun others => others i e he same.symm
  | some x =>
    obtain ⟨j, f⟩ := x
    obtain ⟨nonzero, hj, number⟩ := State.findOfftake_some found
    dsimp only
    rw [State.entry_setEntry]
    split
    · next same =>
      subst same
      rw [hj, Option.map_some, if_pos ⟨nonzero, number.symm⟩]
    · next other =>
      cases he : s.entry i with
      | none => rfl
      | some e =>
        refine (congrArg some (if_neg ?_)).symm
        rintro ⟨-, same⟩
        have := ((h.findOfftake_iff nonzero i e).2 ⟨he, same.symm⟩).symm.trans found
        exact other (congrArg Prod.fst (Option.some.inj this)).symm

/-- A number names an entry as long as each slot keeps its number. -/
theorem State.findOfftake_isSome_congr {s t : State}
    (h : ∀ i, (t.entry i).map Offtake.number = (s.entry i).map Offtake.number) (n : Nat) :
    (t.findOfftake n).isSome = (s.findOfftake n).isSome := by
  have same : t.findOfftake n = none ↔ s.findOfftake n = none := by
    have (u : State) : (∀ i, ∀ e ∈ u.entry i, e.number ≠ n) ↔ ∀ i, n ∉ (u.entry i).map Offtake.number := by
      simp
    rw [State.findOfftake_none, State.findOfftake_none, this, this]
    simp only [h]
  rw [Bool.eq_iff_iff, ← not_iff_not]
  simpa [Option.isSome_iff_ne_none] using same

theorem State.NumbersUnique.congr {s t : State} (hs : s.NumbersUnique)
    (h : ∀ i, (t.entry i).map Offtake.number = (s.entry i).map Offtake.number) : t.NumbersUnique := by
  have (i : Fin 48) (e : Offtake) (he : e ∈ t.entry i) : ∃ f ∈ s.entry i, f.number = e.number :=
    Option.mem_map.1 ((h i) ▸ Option.mem_map_of_mem _ he)
  intro i j e he f hf same
  obtain ⟨e', he', hne⟩ := this i e he
  obtain ⟨f', hf', hnf⟩ := this j f hf
  exact hs i j e' he' f' hf' (hne.trans (same.trans hnf.symm))

theorem State.takeDemand_number {s : State} (h : s.NumbersUnique) (n kw : Nat) (i : Fin 48) :
    ((s.takeDemand n kw).2.entry i).map Offtake.number = (s.entry i).map Offtake.number := by
  rw [State.takeDemand_entry h, Option.map_map]
  congr 1
  funext e
  dsimp only [Function.comp]
  split <;> rfl

theorem State.takeDemand_taken (s : State) (n kw : Nat) :
    (s.takeDemand n kw).1 = (s.findOfftake n).isSome := by
  unfold State.takeDemand
  cases s.findOfftake n <;> rfl

/-- A list of pairs: each entry ends with the last demand listed for its number, and the pairs that name an
entry are counted (R27). -/
theorem State.takeDemands_listed {s : State} (h : s.NumbersUnique) (l : List (Nat × Nat)) :
    (s.takeDemands l).1 = (l.filter fun p => (s.findOfftake p.1).isSome).length ∧
    ∀ i, (s.takeDemands l).2.entry i = (s.entry i).map fun e => { e with demand := e.demandFrom l } := by
  induction l generalizing s with
  | nil => exact ⟨rfl, fun i => by simp [State.takeDemands, Offtake.demandFrom]⟩
  | cons p l ih =>
    have numbers := State.takeDemand_number h p.1 p.2
    obtain ⟨count, entries⟩ := ih (h.congr numbers)
    refine ⟨?_, fun i => ?_⟩
    · simp only [State.takeDemands, count, State.takeDemand_taken, State.findOfftake_isSome_congr numbers]
      cases k : (s.findOfftake p.1).isSome with
      | true => rw [List.filter_cons_of_pos (by exact k)]; rfl
      | false => rw [List.filter_cons_of_neg (by simp [k])]; rfl
    · simp only [State.takeDemands]
      rw [entries, State.takeDemand_entry h, Option.map_map]
      congr 1
      funext e
      dsimp only [Function.comp]
      rw [Offtake.demandFrom_cons]
      split <;> rfl

/-- Settles O22: by induction on the list, with uniqueness kept by every pair. -/
theorem demandsAreTakenInOrder : Obligations.DemandsAreTakenInOrder := by
  intro s l h unique one few bounds
  have hown : setDemandCommand (l.flatMap fun p => beBytes 2 p.1 ++ beBytes 3 p.2) s.frameTaken =
      ⟨⟨if (s.frameTaken.takeDemands l).1 = l.length then .ok else .notFound,
        beBytes 1 (s.frameTaken.takeDemands l).1⟩, (s.frameTaken.takeDemands l).2⟩ := by
    unfold setDemandCommand
    rw [demandPairs_flatMap bounds]
    exact if_neg (by omega)
  have entry (i : Fin 48) : s.frameTaken.entry i = s.entry i := by simp
  have unique' : s.frameTaken.NumbersUnique := unique.congr fun i => by rw [entry]
  obtain ⟨count, entries⟩ := State.takeDemands_listed unique' l
  simp only [State.frameTaken_findOfftake] at count
  refine ⟨_, _, congrArg Host.Outcome.next (State.takeFrame_gated_of_answer h hown
    (by rw [State.takeDemands_eq]; simp)), ?_, count, fun i => ?_⟩
  · have eq := s.frameTaken.takeDemands_eq l
    generalize (s.frameTaken.takeDemands l).2 = t at eq
    rw [eq, State.frameTaken_eq]
    rfl
  · refine (entries i).trans ?_
    rw [entry]
    congr 1
    funext e
    unfold Offtake.demandFrom
    cases (l.filter fun p => p.1 ≠ 0 ∧ p.1 = e.number).getLast? <;> rfl

/-! ## Suspension (R29, R67, R68) -/

/-- An integration point reads nothing of the tables and the link, nor of the stored offtake records. -/
theorem State.integrateFlare_over (s : State) (c : Link) (o : OfftakeTable)
    (records : Vector (Checked StoredOfftake) 48) :
    State.integrateFlare { s with cl := c, ot := o, store := { s.store with offtakes := records } } =
    { s.integrateFlare with
      cl := c, ot := o, store := { s.integrateFlare.store with offtakes := records } } := by
  unfold State.integrateFlare
  dsimp only
  split <;> rfl

/-- The part once a suspension wrote the entry `f` and its grant went to the surplus, before the figures
follow (R67, steps 1 to 4). -/
def State.released (s : State) (i : Fin 48) (f : Offtake) (g : Grant) : State :=
  let o := { s.ot with entries := setAt s.ot.entries i (some f) }
  let surplus := s.ae.surplus.plus g.parts
  { s with
    cl := s.linkAfter s.cl.response
    ot := o
    ae := { s.ae with
      surplus := surplus
      setpoint := setpointFor (State.cvgGranted { s with ot := o }) s.ae.lastNcv
      flareTotal := s.integrateFlare.ae.flareTotal
      flareResidue := s.integrateFlare.ae.flareResidue
      flarePoint := s.now
      flareTimer := some (after s.now Config.kwhMs) }
    fs := (s.raiseIf (flareStarts s.ae.surplus surplus) .flareStarted).fs
    store := { s.store with
      offtakes := setAt s.store.offtakes i ⟨f.stored, true⟩, flare := s.integrateFlare.store.flare } }

theorem State.takeReleased_writeEntry (s : State) (i : Fin 48) (f : Offtake) (use : Use) (g : Grant) :
    (s.frameTaken.writeEntry i (some f)).takeReleased use g = (s.released i f g).lowerFigures use g.total := by
  unfold State.takeReleased
  dsimp only
  have taken : s.frameTaken.writeEntry i (some f) = { s with
      cl := s.linkAfter s.cl.response
      ot := { s.ot with entries := setAt s.ot.entries i (some f) }
      store := { s.store with offtakes := setAt s.store.offtakes i ⟨f.stored, true⟩ } } := by
    rw [State.frameTaken_eq]
    rfl
  rw [taken, State.integrateFlare_over, State.integrateFlare_eq, State.integrateFlare_ae]
  refine congrArg (State.lowerFigures · use g.total) ?_
  unfold State.released PerSource.plus
  dsimp only
  generalize flareStarts _ _ = starts
  cases starts <;> rfl

/-- SUSPEND OFFTAKE of an entry that takes part (R29). -/
theorem suspendEntry_of_part (s : State) (i : Fin 48) {e : Offtake} (h : e.takesPart = true) :
    suspendEntry s.frameTaken i e =
      (((s.released i e.suspend e.grant).lowerFigures e.use e.grant.total).markReleased i).ok [] := by
  unfold suspendEntry
  rw [if_pos h, State.takeReleased_writeEntry]

/-- The figures that follow a suspension, by the class of the entry (R67, steps 5 and 6). -/
theorem State.lowerFigures_eq (s : State) (use : Use) (kw : Nat) : s.lowerFigures use kw = { s with
    ae := { s.ae with
      zoneGrant := (s.lowerFigures use kw).ae.zoneGrant
      coverage := (s.lowerFigures use kw).ae.coverage
      yieldSum := (s.lowerFigures use kw).ae.yieldSum
      exportEstimate := (s.lowerFigures use kw).ae.exportEstimate } } := by
  cases use <;> rfl

theorem State.lowerFigures_zone (s : State) (use : Use) (kw : Nat) (z : Zone) :
    (s.lowerFigures use kw).ae.zoneGrant.get z =
      s.ae.zoneGrant.get z - (if use = .townHeat z then kw else 0) ∧
    (s.lowerFigures use kw).ae.coverage.get z = if use = .townHeat z
      then coverageOf ((s.lowerFigures use kw).ae.zoneGrant.get z) (s.ae.zoneNeed.get z)
      else s.ae.coverage.get z := by
  cases use with
  | works => exact ⟨rfl, rfl⟩
  | steam => exact ⟨rfl, rfl⟩
  | power y => exact ⟨rfl, rfl⟩
  | townHeat x =>
    simp only [State.lowerFigures, Engine.lowerZone, PerZone.get_put, Use.townHeat.injEq]
    split
    · next same => subst same; exact ⟨rfl, rfl⟩
    · exact ⟨rfl, rfl⟩

theorem State.lowerFigures_power (s : State) {use : Use} (kw y : Nat) (h : use = .power y) :
    (s.lowerFigures use kw).ae.yieldSum = s.ae.yieldSum - kw * y / 1000 ∧
    (s.lowerFigures use kw).ae.exportEstimate = (s.lowerFigures use kw).ae.yieldSum - s.settings.stationLoad := by
  subst h
  exact ⟨rfl, rfl⟩

theorem State.lowerFigures_other (s : State) {use : Use} (kw : Nat) (h : use.isPower = false) :
    (s.lowerFigures use kw).ae.yieldSum = s.ae.yieldSum ∧
    (s.lowerFigures use kw).ae.exportEstimate = s.ae.exportEstimate := by
  cases use with
  | power y => cases h
  | _ => exact ⟨rfl, rfl⟩

/-- A release tells of a flare that begins: a gas had no surplus and gets some (R67). -/
theorem State.flareStarts_plus (s : State) (g : PerSource Nat) :
    (s.raiseIf (flareStarts s.ae.surplus (s.ae.surplus.plus g)) .flareStarted).fs = { s.fs with alerts :=
      if (s.ae.surplus.bfg = 0 ∧ 0 < g.bfg) ∨ (s.ae.surplus.cog = 0 ∧ 0 < g.cog)
      then s.fs.alerts ||| 0x008#12 else s.fs.alerts } := by
  have rises (a b : Nat) : a = 0 ∧ 0 < a + b ↔ a = 0 ∧ 0 < b := by omega
  rw [flareStarts_eq]
  simp only [PerSource.plus, rises, State.raiseIf, decide_eq_true_eq]
  split <;> rfl

/-- Settles O23: the released amounts go to the surplus, then the figures follow by the class. -/
theorem suspensionReleasesTheGrant : Obligations.SuspensionReleasesTheGrant := by
  intro s n i e h hn found open_ part
  have takes : e.takesPart = true := by rcases part with k | k <;> simp [Offtake.takesPart, k]
  have hlower := (s.released i e.suspend e.grant).lowerFigures_eq e.use e.grant.total
  have hzone := (s.released i e.suspend e.grant).lowerFigures_zone e.use e.grant.total
  have hpower := (s.released i e.suspend e.grant).lowerFigures_power e.grant.total (use := e.use)
  have hother := (s.released i e.suspend e.grant).lowerFigures_other e.grant.total (use := e.use)
  have hown := suspendEntry_of_part s i takes
  generalize (s.released i e.suspend e.grant).lowerFigures e.use e.grant.total = w at *
  refine ⟨_, congrArg Host.Outcome.next (State.takeFrame_named_of_answer h hn found open_ hown
    (by rw [hlower]; rfl)), ?_, ?_, ?_, ?_, ?_, fun z => (hzone z).1, fun z => (hzone z).2, hpower, hother⟩
  · rw [hlower]; rfl
  · rw [hlower]; rfl
  · rw [hlower]; rfl
  · rw [hlower]
    exact s.flareStarts_plus e.grant.parts
  · rw [hlower]
    rfl

end Sys2Proof.Machine
end

section
/-! PROOF. CLEAR FAULTS (R88): what it makes of the monitors, and the readmissions that follow (R49, R87). -/

namespace Sys2Proof.Machine

/-! ## The monitors it clears -/

theorem MonitorRecord.clear_eq (m : MonitorRecord) (mode : FaultMode) : m.clear mode =
    if m.raw = true then { m with latched := mode != .off }
    else { m with latched := false, hold := false, timer := none } := by
  unfold MonitorRecord.clear
  cases m.raw <;> cases mode <;> rfl

theorem MonitorRecord.clear_raw (m : MonitorRecord) (mode : FaultMode) : (m.clear mode).raw = m.raw := by
  rw [MonitorRecord.clear_eq]
  split <;> rfl

/-- A monitor named twice is cleared as if named once (assumption log 16). -/
theorem MonitorRecord.clear_clear (m : MonitorRecord) (mode : FaultMode) :
    (m.clear mode).clear mode = m.clear mode := by
  simp only [MonitorRecord.clear_eq]
  cases m.raw <;> simp

theorem State.clearMonitor_monitor (s : State) (m n : Monitor) :
    (s.clearMonitor m).monitor n = if m = n then (s.monitor n).clear (s.mode n) else s.monitor n := by
  rw [State.clearMonitor, State.monitor_congr (s := s.setMonitor m ((s.monitor m).clear (s.mode m))) (by simp), State.monitor_setMonitor]
  split
  · next same => rw [same]
  · rfl

theorem State.clearMonitor_mode (s : State) (m n : Monitor) : (s.clearMonitor m).mode n = s.mode n := by
  simp [State.mode]

theorem State.clearMonitor_relatches (s : State) (m n : Monitor) :
    (s.clearMonitor m).relatches n = s.relatches n := by
  unfold State.relatches
  rw [State.clearMonitor_monitor, State.clearMonitor_mode]
  split
  · rw [MonitorRecord.clear_raw]
  · rfl

/-- The monitors after a clear: those named are cleared, each by its own condition, and no other changes. -/
theorem State.clearMonitors_monitor (s : State) (ms : List Monitor) (n : Monitor) :
    (ms.foldl State.clearMonitor s).monitor n =
      if n ∈ ms then (s.monitor n).clear (s.mode n) else s.monitor n := by
  induction ms generalizing s with
  | nil => rfl
  | cons m ms ih =>
    rw [List.foldl_cons, ih, State.clearMonitor_mode, State.clearMonitor_monitor]
    by_cases named : n ∈ ms
    · rw [if_pos named, if_pos (List.mem_cons_of_mem m named)]
      split
      · rw [MonitorRecord.clear_clear]
      · rfl
    · rw [if_neg named]
      simp only [List.mem_cons, named, or_false, eq_comm]

/-- SOURCE_FAULT is set exactly when a monitor is latched again. -/
theorem State.clearMonitors_alerts (s : State) (ms : List Monitor) :
    (ms.foldl State.clearMonitor s).fs.alerts =
      if ms.any s.relatches = true then s.fs.alerts ||| AlertFlag.sourceFault.bit else s.fs.alerts := by
  induction ms generalizing s with
  | nil => rfl
  | cons m ms ih =>
    have one : (s.clearMonitor m).fs.alerts =
        if s.relatches m = true then s.fs.alerts ||| AlertFlag.sourceFault.bit else s.fs.alerts := by
      unfold State.clearMonitor State.raiseIf
      split <;> rfl
    rw [List.foldl_cons, ih, one, funext fun n => s.clearMonitor_relatches m n, List.any_cons]
    cases s.relatches m <;> cases ms.any s.relatches <;> simp [BitVec.or_assoc]

theorem State.clearMonitors_eq (s : State) (ms : List Monitor) : ms.foldl State.clearMonitor s = { s with
    fs := { s.fs with
      monitors := (ms.foldl State.clearMonitor s).fs.monitors
      alerts := (ms.foldl State.clearMonitor s).fs.alerts } } := by
  induction ms generalizing s with
  | nil => rfl
  | cons m ms ih =>
    rw [List.foldl_cons, ih]
    simp [State.clearMonitor, State.setMonitor, State.raiseIf, State.raise]
    split <;> simp

theorem Monitor.mem_all (m : Monitor) : m ∈ Monitor.all := by
  rcases m with ⟨_ | _ | _, _ | _ | _ | _⟩ | _ | _ | _ <;> decide

/-! ## The payload -/

theorem monitorCodes_flatMap (l : List (Byte × Byte)) :
    monitorCodes (l.flatMap fun c => [c.1, c.2]) = some (l.map fun c => (c.1.toNat, c.2.toNat)) := by
  induction l with
  | nil => rfl
  | cons c l ih =>
    rw [List.flatMap_cons]
    simp only [List.cons_append, List.nil_append, monitorCodes, ih, Option.map_some, List.map_cons]

theorem mapM_ofCodes (l : List (Byte × Byte)) :
    (l.map fun c => (c.1.toNat, c.2.toNat)).mapM (fun c => Monitor.ofCodes c.1 c.2) =
      l.mapM fun c => Monitor.ofCodes c.1.toNat c.2.toNat := by
  induction l with
  | nil => rfl
  | cons c l ih => simp [List.mapM_cons, ih]

/-- A list of pairs is read as the monitors it names, or refused (R175). -/
theorem namedMonitors_flatMap {l : List (Byte × Byte)} (one : 1 ≤ l.length) (few : l.length ≤ 15) :
    namedMonitors (l.flatMap fun c => [c.1, c.2]) =
      match l.mapM (fun c => Monitor.ofCodes c.1.toNat c.2.toNat) with
      | some ms => .ok ms
      | none => .error .badValue := by
  cases l with
  | nil => cases one
  | cons c l =>
    have codes := monitorCodes_flatMap (c :: l)
    rw [← mapM_ofCodes]
    generalize hp : (c :: l).flatMap (fun c => [c.1, c.2]) = p at codes ⊢
    have two : ∃ x y q, p = x :: y :: q := ⟨c.1, c.2, _, by rw [← hp]; rfl⟩
    obtain ⟨x, y, q, rfl⟩ := two
    unfold namedMonitors
    dsimp only
    rw [codes]
    dsimp only
    refine (if_neg (by rw [List.length_map]; omega)).trans ?_
    generalize List.mapM (m := Option) _ _ = read
    cases read <;> rfl

theorem clearFaultsCommand_of_named {p : List Byte} {ms : List Monitor} (h : namedMonitors p = .ok ms) (s : State) :
    clearFaultsCommand p s = ((ms.foldl State.clearMonitor s).settleNamed ms).ok
      (beBytes 1 (Monitor.all.filter fun m => decide (m ∈ ms) && s.relatches m).length) := by
  unfold clearFaultsCommand
  rw [h]
  simp only [List.contains_eq_mem]
  rfl

/-! ## Readmissions (R49, R87) -/

/-- What requests for a run make of the engine, one or several at once (R49). -/
def Engine.Requested (fault : Bool) (a b : Engine) : Prop :=
  (fault = true → b = a) ∧
  (fault = false → a.run.isSome = true → b = { a with rerunPending := true }) ∧
  (fault = false → a.run = none → b.run.isSome = true ∧
    b.runNumber = if a.runNumber < 65535 then a.runNumber + 1 else 1)

theorem State.requestRun_requested (s : State) : s.ae.Requested s.nvs.settingsFault s.requestRun.ae := by
  refine ⟨fun fault => by rw [State.requestRun_of_fault fault], fun good running => ?_, fun good idle => ?_⟩
  · rw [State.requestRun_of_running good running]
  · rw [State.requestRun_of_idle good idle]
    exact ⟨rfl, nextRunNumber_eq _⟩

theorem Engine.Requested.trans {fault : Bool} {a b c : Engine} (h : a.Requested fault b)
    (k : b.Requested fault c) : a.Requested fault c := by
  refine ⟨fun f => (k.1 f).trans (h.1 f), fun f running => ?_, fun f idle => ?_⟩
  · have hb := h.2.1 f running
    rw [k.2.1 f (by rw [hb]; exact running), hb]
  · obtain ⟨running, number⟩ := h.2.2 f idle
    rw [k.2.1 f running]
    exact ⟨running, number⟩

/-- Every source that is held is withdrawn already, so that settling can only readmit. -/
def State.HeldAreWithdrawn (s : State) : Prop :=
  ∀ src, s.anyHold src = true → s.fs.admission.get src = .withdrawn

/-- Sources are readmitted, with a request for a run when one is, and nothing else changes. -/
structure State.Readmits (s t : State) : Prop where
  rest : t = { s with fs := { s.fs with admission := t.fs.admission }, ae := t.ae }
  up : ∀ src, t.fs.admission.get src = s.fs.admission.get src ∨
    (s.fs.admission.get src = .withdrawn ∧ t.fs.admission.get src = .admitted)
  engine : (t.fs.admission = s.fs.admission ∧ t.ae = s.ae) ∨
    ((∃ src, t.fs.admission.get src ≠ s.fs.admission.get src) ∧ s.ae.Requested s.nvs.settingsFault t.ae)

theorem State.Readmits.refl (s : State) : s.Readmits s := ⟨rfl, fun _ => .inl rfl, .inl ⟨rfl, rfl⟩⟩

theorem State.Readmits.nvs {s t : State} (h : s.Readmits t) : t.nvs = s.nvs := by rw [h.rest]

theorem State.Readmits.trans {s t u : State} (h : s.Readmits t) (k : t.Readmits u) : s.Readmits u where
  rest := by rw [k.rest, h.rest]
  up src := by
    rcases k.up src with same | ⟨down, up⟩
    · rw [same]; exact h.up src
    · rcases h.up src with same | ⟨-, already⟩
      · exact .inr ⟨same ▸ down, up⟩
      · rw [down] at already; cases already
  engine := by
    have fault : t.nvs.settingsFault = s.nvs.settingsFault := by rw [h.nvs]
    rcases k.engine with ⟨same, ae⟩ | ⟨⟨src, changed⟩, requested⟩
    · rw [same, ae]; exact h.engine
    · rw [fault] at requested
      refine .inr ⟨⟨src, ?_⟩, ?_⟩
      · rcases k.up src with same | ⟨down, up⟩
        · exact absurd same changed
        · rcases h.up src with same | ⟨-, already⟩
          · rw [← same]; exact changed
          · rw [down] at already; cases already
      · rcases h.engine with ⟨-, ae⟩ | ⟨-, first⟩
        · rw [ae] at requested; exact requested
        · exact first.trans requested

theorem State.HeldAreWithdrawn.settle {s : State} (h : s.HeldAreWithdrawn) (src : Source) :
    s.Readmits (s.settle src) ∧ (s.settle src).HeldAreWithdrawn := by
  have monitors (o : Source) : (s.settle src).anyHold o = s.anyHold o := State.anyHold_congr (by simp) o
  rcases s.settle_cases src with ⟨-, stands⟩ | ⟨admitted, held, -⟩ | ⟨withdrawn, free, settled⟩
  · rw [stands]; exact ⟨.refl s, h⟩
  · rw [h src held] at admitted; cases admitted
  · have admission : (s.settle src).fs.admission = s.fs.admission.put src .admitted := by
      rw [settled]; simp [State.setAdmission]
    refine ⟨⟨?_, fun o => ?_, .inr ⟨⟨src, ?_⟩, ?_⟩⟩, fun o held => ?_⟩
    · rw [settled, State.requestRun_eq]; rfl
    · rw [admission, PerSource.get_put]
      split
      · next same => exact .inr ⟨same ▸ withdrawn, rfl⟩
      · exact .inl rfl
    · rw [admission, PerSource.get_put, if_pos rfl, withdrawn]; decide
    · rw [settled]; exact (s.setAdmission src .admitted).requestRun_requested
    · rw [monitors] at held
      rw [admission, PerSource.get_put, if_neg (by rintro rfl; rw [free] at held; cases held), h o held]

/-- Settling the sources of the monitors named readmits what no monitor holds any more. -/
theorem State.HeldAreWithdrawn.settleNamed {s : State} (h : s.HeldAreWithdrawn) (ms : List Monitor) :
    s.Readmits (s.settleNamed ms) := by
  have step {u : State} (k : u.HeldAreWithdrawn) (src : Source) (b : Bool) :
      u.Readmits (if b = true then u.settle src else u) ∧
      State.HeldAreWithdrawn (if b = true then u.settle src else u) := by
    cases b with
    | true => exact k.settle src
    | false => exact ⟨.refl u, k⟩
  obtain ⟨h1, k1⟩ := step h .cvg (ms.any fun m => actsOn m == .cvg)
  obtain ⟨h2, k2⟩ := step k1 .bfg (ms.any fun m => actsOn m == .bfg)
  obtain ⟨h3, -⟩ := step k2 .cog (ms.any fun m => actsOn m == .cog)
  exact (h1.trans h2).trans h3

/-- A clear drops holds and sets none. -/
theorem State.AdmissionFollowsHolds.cleared {s : State} (h : s.AdmissionFollowsHolds) (ms : List Monitor) :
    (ms.foldl State.clearMonitor s).HeldAreWithdrawn := by
  intro src held
  have admission : (ms.foldl State.clearMonitor s).fs.admission = s.fs.admission := by
    rw [State.clearMonitors_eq]
  rw [admission, h src]
  unfold State.anyHold at held ⊢
  obtain ⟨m, hm, hold⟩ := List.any_eq_true.1 held
  refine List.any_eq_true.2 ⟨m, hm, ?_⟩
  rw [State.clearMonitors_monitor, MonitorRecord.clear_eq] at hold
  split at hold
  · split at hold
    · exact hold
    · cases hold
  · exact hold

theorem State.settleNamed_all (s : State) : s.settleNamed Monitor.all = s.settleAll := rfl

theorem State.frameTaken_relatches (s : State) (m : Monitor) : s.frameTaken.relatches m = s.relatches m := by
  rw [State.frameTaken_eq]; rfl

theorem State.settleNamed_cl (s : State) (ms : List Monitor) : (s.settleNamed ms).cl = s.cl :=
  foldl_same State.cl (by intro t src; split <;> simp) _ _

/-- A frame of CLEAR FAULTS that names monitors. -/
theorem exec_clearFaults {s : State} (h : s.Serving) {p : List Byte} {ms : List Monitor}
    (named : namedMonitors p = .ok ms) :
    exec (.clearFaults p) s = .next { (ms.foldl State.clearMonitor s.frameTaken).settleNamed ms with
      cl := s.linkAfter ⟨.ok,
        beBytes 1 (Monitor.all.filter fun m => decide (m ∈ ms) && s.relatches m).length⟩ } := by
  have hown := clearFaultsCommand_of_named named s.frameTaken
  simp only [State.frameTaken_relatches] at hown
  refine congrArg Host.Outcome.next (State.takeFrame_gated_of_answer h hown ?_)
  rw [State.settleNamed_cl]
  simp

/-- Settles O40: the monitors named are cleared each by its own condition, and settling then only readmits. -/
theorem clearFaultsClearsWhatIsOver : Obligations.ClearFaultsClearsWhatIsOver := by
  refine ⟨fun s h => ?all, fun s p ms h follows named => ?named, fun s l h one few unknown => ?unknown⟩
  case all =>
    have hexec := exec_clearFaults h (p := [0xFF]) (ms := Monitor.all) rfl
    simp only [Monitor.mem_all, decide_true, Bool.true_and, State.settleNamed_all] at hexec
    have hmonitor := s.frameTaken.clearMonitors_monitor Monitor.all
    generalize hc : Monitor.all.foldl State.clearMonitor s.frameTaken = c at hexec hmonitor
    refine ⟨_, hexec, ?_, rfl, fun m => ?_, c.settleAll_follows⟩
    · apply State.ext_blocks <;> simp [← hc]
    · rw [State.monitor_congr (s := c) (by simp), hmonitor, if_pos (Monitor.mem_all m), MonitorRecord.clear_eq]
      simp
  case named =>
    have read : namedMonitors p = .ok ms := by
      rcases named with ⟨rfl, rfl⟩ | ⟨l, one, few, rfl, hms⟩
      · rfl
      · rw [namedMonitors_flatMap one few, hms]
    have hexec := exec_clearFaults h read
    have hmonitor := s.frameTaken.clearMonitors_monitor ms
    have halerts := s.frameTaken.clearMonitors_alerts ms
    have heq := s.frameTaken.clearMonitors_eq ms
    have readmits := ((follows.of_eq (by simp) (by simp) : s.frameTaken.AdmissionFollowsHolds).cleared ms).settleNamed ms
    have hfollows := State.settleNamed_follows (follows.of_eq (by simp) (by simp) : s.frameTaken.AdmissionFollowsHolds) ms
    rw [funext s.frameTaken_relatches] at halerts
    simp only [State.frameTaken_monitor, State.frameTaken_mode] at hmonitor
    intro n
    have count : (Monitor.all.filter fun m => decide (m ∈ ms) && s.relatches m).length = n := by
      simp only [State.relatches, ← Bool.and_assoc]
      rfl
    have none_ : n = 0 ↔ ms.any s.relatches = false := by
      rw [← count]
      simp [Monitor.mem_all]
    rw [count] at hexec
    clear_value n
    generalize ms.foldl State.clearMonitor s.frameTaken = c at *
    generalize c.settleNamed ms = t at *
    have hadmission : c.fs.admission = s.fs.admission := by rw [heq]; simp
    have hae : c.ae = s.ae := by rw [heq]; simp
    have hnvs : c.nvs = s.nvs := by rw [heq]; simp
    refine ⟨_, hexec, ?_, fun m => ?_, ?_, hfollows, fun same => ?_, fun ⟨src, changed⟩ => ?_⟩
    · rw [readmits.rest, heq, State.frameTaken_eq]; rfl
    · rw [State.monitor_congr (s := c) (by rw [readmits.rest]), hmonitor, MonitorRecord.clear_eq]
      simp only [ite_not]
    · have alerts : t.fs.alerts = c.fs.alerts := by rw [readmits.rest]
      refine alerts.trans (halerts.trans ?_)
      by_cases k : n = 0
      · rw [if_pos k, none_.1 k]; simp
      · rw [if_neg k, if_pos (by simpa using mt none_.2 k)]; simp [AlertFlag.bit, AlertFlag.index]
    · rcases readmits.engine with ⟨-, ae⟩ | ⟨⟨src, changed⟩, -⟩
      · exact ae.trans hae
      · exact absurd (same src) (by rw [← hadmission]; exact changed)
    · rcases readmits.engine with ⟨admission, -⟩ | ⟨-, requested⟩
      · exact absurd (by rw [← hadmission, ← admission]) changed
      · rw [hnvs, hae] at requested
        exact requested
  case unknown =>
    have read := namedMonitors_flatMap one few
    rw [unknown] at read
    refine congrArg _ (State.takeFrame_gated_of_reply h ?_)
    unfold clearFaultsCommand
    rw [read]
    rfl

end Sys2Proof.Machine
end

section
/-! PROOF. A good report at the end of an exchange (R97, R102 to R104): what the line keeps of it, and what
a gas report makes of its source (R3, R4, R78, R82, R87). -/

namespace Sys2Proof.Machine

/-! ## The end of an exchange (R97, R99) -/

/-- The exchange has ended and the record of the queried station is `r`. -/
def State.heard (s : State) (r : StationRecord) : State := s.beginGap.setStation s.flc.queried r

theorem State.setStation_eq (s : State) (a : Nat) (r : StationRecord) :
    s.setStation a r = { s with flc := { s.flc with stations := (s.setStation a r).flc.stations } } := by
  unfold State.setStation
  split <;> rfl

theorem State.heard_eq (s : State) (r : StationRecord) : s.heard r = { s with flc := (s.heard r).flc } := by
  unfold State.heard
  rw [State.setStation_eq]
  rfl

theorem State.station_congr {s t : State} (h : t.flc = s.flc) (a : Nat) : t.station a = s.station a := by
  unfold State.station
  rw [h]

theorem State.LineAfter.of_flc {s t : State} {r : StationRecord} (one : 1 ≤ s.flc.queried)
    (small : s.flc.queried ≤ 127) (h : t.flc = (s.heard r).flc) : t.LineAfter s r := by
  refine ⟨?_, ?_, fun a ha => ?_⟩
  · rw [h, State.heard, State.setStation_eq]
    rfl
  · rw [State.station_congr h]
    exact State.station_setStation_self s.beginGap r ⟨one, small⟩
  · rw [State.station_congr h]
    exact State.station_setStation_ne s.beginGap r (Ne.symm ha)

/-! ## The checks of a report (R102) -/

theorem State.judge_good {s : State} {a : Nat} {r : Report} (sum : r.sum = 0) (address : r.address = a)
    (bound : s.role a ≠ .unbound) (kind : (s.role a).kind = some r.reading.kind)
    (sound : r.status.getLsbD 0 = false) (range : r.reading.inRange = true) :
    s.judge a r = .good (s.role a) r.reading := by
  have status : ¬ r.status.toNat.testBit 0 = true := Bool.not_eq_true _ ▸ sound
  unfold State.judge
  rw [if_neg (not_not_intro sum), if_neg (not_not_intro address), if_neg bound, if_neg (not_not_intro kind),
    if_neg status, if_neg (by rw [range]; decide)]

/-- The exchange has ended with a good report of the queried station (R104). -/
def State.heardGood (s : State) : State := s.heard ((s.station s.flc.queried).answered .good s.now)

theorem State.heardGood_eq (s : State) : s.heardGood = { s with flc := s.heardGood.flc } := s.heard_eq _

@[simp] theorem State.heardGood_frame (s : State) :
    s.heardGood.pending = s.pending ∧ s.heardGood.now = s.now ∧ s.heardGood.picks = s.picks ∧
    s.heardGood.startingUp = s.startingUp ∧ s.heardGood.lockLine = s.lockLine ∧
    s.heardGood.settings = s.settings ∧ s.heardGood.sm = s.sm ∧ s.heardGood.ot = s.ot ∧
    s.heardGood.ae = s.ae ∧ s.heardGood.fs = s.fs ∧ s.heardGood.hau = s.hau ∧ s.heardGood.esu = s.esu ∧
    s.heardGood.cl = s.cl ∧ s.heardGood.nvs = s.nvs ∧ s.heardGood.store = s.store := by
  rw [State.heardGood_eq]
  simp

@[simp] theorem State.heardGood_monitor (s : State) (m : Monitor) : s.heardGood.monitor m = s.monitor m :=
  State.monitor_congr (by simp) m

@[simp] theorem State.heardGood_mode (s : State) (m : Monitor) : s.heardGood.mode m = s.mode m := by
  simp [State.mode]

theorem State.heardGood_follows {s : State} {src : Source} (h : s.Follows src) : s.heardGood.Follows src :=
  (State.SameSource.of_eq (by simp) (by simp)).follows h

/-- The line after a good report that nothing else of the line follows. -/
theorem State.heardGood_lineAfter {s t : State} (one : 1 ≤ s.flc.queried) (small : s.flc.queried ≤ 127)
    (h : t.flc = s.heardGood.flc) : t.LineAfter s { s.station s.flc.queried with
      state := .live, misses := 0, last := .good, lastGood := some s.now } := .of_flc one small h

/-- A good report in AWAIT is entered in the record of its station and delivered (R104). -/
theorem exec_reportComplete_good {s : State} {p : List Byte} {r : Report} {role : Role} {x : Reading}
    (await : s.flc.phase = some .await) (read : Report.read p = some r)
    (good : s.judge s.flc.queried r = .good role x) : exec (.reportComplete p) s =
    .next (s.heardGood.deliver s.flc.queried
      (decide ((s.station s.flc.queried).state ≠ .live)) role x) := by
  have taken : s.beginGap.takeReport s.flc.queried r = s.beginGap.enterGood s.flc.queried role x := by
    unfold State.takeReport
    rw [show s.beginGap.judge s.flc.queried r = s.judge s.flc.queried r from rfl, good]
  refine congrArg Host.Outcome.next ?_
  rw [await, read]
  exact taken

/-! ## A condition goes absent (R82, R84) -/

/-- An evaluation that finds its condition absent changes that monitor at most. -/
theorem State.evaluate_absent_eq (s : State) (m : Monitor) : s.evaluate m false =
    { s with fs := { s.fs with monitors := (s.evaluate m false).fs.monitors } } := by
  cases raw : (s.monitor m).raw with
  | false => rw [State.evaluate_of_stands raw]
  | true => rw [State.evaluate_of_goes raw]; rfl

theorem State.evaluate_absent_monitor (s : State) (m n : Monitor) : (s.evaluate m false).monitor n =
    if n = m ∧ (s.monitor n).raw = true then { s.monitor n with
      raw := false
      timer := if s.mode n = .retry ∧ (s.monitor n).hold = true then some s.retryExpiry
        else (s.monitor n).timer } else s.monitor n := by
  cases raw : (s.monitor m).raw with
  | false =>
    rw [State.evaluate_of_stands raw]
    exact (if_neg fun k => by rw [k.1, raw] at k; cases k.2).symm
  | true =>
    rw [State.evaluate_of_goes raw, State.monitor_setMonitor]
    by_cases same : m = n
    · subst same
      rw [if_pos rfl, if_pos ⟨rfl, raw⟩, MonitorRecord.disappear]
      dsimp only
      split <;> rfl
    · rw [if_neg same, if_neg fun k => same k.1.symm]

/-- The monitor of a station that returns to LIVE is evaluated with its condition absent (R80, R106). -/
def State.returning (s : State) (returned : Bool) (m : Monitor) : State :=
  if returned then s.evaluate m false else s

theorem State.returning_eq (s : State) (returned : Bool) (m : Monitor) : s.returning returned m =
    { s with fs := { s.fs with monitors := (s.returning returned m).fs.monitors } } := by
  cases returned with
  | true => exact s.evaluate_absent_eq m
  | false => rfl

theorem State.returning_monitor (s : State) (returned : Bool) (m n : Monitor) :
    (s.returning returned m).monitor n =
    if n = m ∧ returned = true ∧ (s.monitor n).raw = true then { s.monitor n with
      raw := false
      timer := if s.mode n = .retry ∧ (s.monitor n).hold = true then some s.retryExpiry
        else (s.monitor n).timer } else s.monitor n := by
  cases returned with
  | true =>
    simp only [true_and]
    exact s.evaluate_absent_monitor m n
  | false => simp [State.returning]

theorem State.returning_hold (s : State) (returned : Bool) (m n : Monitor) :
    ((s.returning returned m).monitor n).hold = (s.monitor n).hold := by
  rw [State.returning_monitor]
  split <;> rfl

/-- A source whose admission is as its holds say is settled already (R87). -/
theorem State.settle_of_follows {s : State} {src : Source} (h : s.Follows src) : s.settle src = s := by
  rcases s.settle_cases src with ⟨-, stands⟩ | ⟨admitted, held, -⟩ | ⟨withdrawn, free, -⟩
  · exact stands
  · rw [h.2 held] at admitted; cases admitted
  · rw [h.1 withdrawn] at free; cases free

/-- A station that returns leaves holds and admission as they were. -/
theorem State.Follows.returning {s : State} {src : Source} (h : s.Follows src) (returned : Bool) (m : Monitor) :
    (s.returning returned m).Follows src := by
  have admission : (s.returning returned m).fs.admission = s.fs.admission := by rw [State.returning_eq]
  unfold State.Follows
  rw [admission, State.anyHold_of_holds fun n _ => s.returning_hold returned m n]
  exact h

/-! ## A gas report (R3, R4, R78) -/

theorem State.takeGas_sm (s : State) (src : Source) (flow ncv : Nat) : (s.takeGas src flow ncv).sm = { s.sm with
    sources := s.sm.sources.put src ⟨(s.source src).address, .fresh, flow, ncv,
      (if src = .cvg then s.sm.holder.draw else flow) * ncv / 3600⟩ } := by
  cases src <;> rfl

/-- Within the limits, and with no condition present, the gas monitors stand (R78). -/
theorem State.evaluateGas_of_within {s : State} {src : Source}
    (low : (s.settings.limits.get src).ncvMin ≤ (s.sm.sources.get src).ncv)
    (high : (s.sm.sources.get src).ncv ≤ (s.settings.limits.get src).ncvMax)
    (flow : (s.sm.sources.get src).flow ≤ (s.settings.limits.get src).flowMax)
    (absent : ∀ k, k ≠ .stale → (s.monitor (.gas src k)).raw = false) : s.evaluateGas src = s := by
  unfold State.evaluateGas
  simp only [decide_eq_false (Nat.not_lt.2 low), decide_eq_false (Nat.not_lt.2 high),
    decide_eq_false (Nat.not_lt.2 flow)]
  rw [State.evaluate_of_stands (absent .ncvLow (by decide)), State.evaluate_of_stands (absent .ncvHigh (by decide)),
    State.evaluate_of_stands (absent .flowHigh (by decide))]

theorem State.deliver_gas (s : State) (a : Nat) (returned : Bool) (src : Source) (flow ncv : Nat) :
    s.deliver a returned (.gas src) (.gas flow ncv) =
      ((((s.takeGas src flow ncv).returning returned (.gas src .stale)).evaluateGas src).settle src) := rfl

/-- The checks a gas report passes. -/
theorem State.judge_gas {s : State} {a flow ncv : Nat} {src : Source} {st : Byte} (role : s.role a = .gas src)
    (sound : st.getLsbD 0 = false) (hflow : flow ≤ 999999) (hncv : ncv ≤ 40000) :
    s.judge a ⟨0, a, .gas flow ncv, st⟩ = .good (.gas src) (.gas flow ncv) := by
  have good := State.judge_good (s := s) (a := a) (r := ⟨0, a, .gas flow ncv, st⟩) rfl rfl (by rw [role]; simp)
    (by rw [role]; rfl) sound
    (by simp [Reading.inRange, Config.maxFlow, Config.maxNcv, hflow, hncv])
  rwa [role] at good

/-- What a gas report within the limits makes of the part (R3, R4, R104). -/
theorem State.deliver_gas_calm {s : State} {src : Source} {flow ncv : Nat} (a : Nat) (returned : Bool)
    (low : (s.settings.limits.get src).ncvMin ≤ ncv) (high : ncv ≤ (s.settings.limits.get src).ncvMax)
    (calm : flow ≤ (s.settings.limits.get src).flowMax)
    (absent : ∀ k, k ≠ .stale → (s.monitor (.gas src k)).raw = false) (follows : s.Follows src) :
    s.deliver a returned (.gas src) (.gas flow ncv) =
      (s.takeGas src flow ncv).returning returned (.gas src .stale) := by
  have taken : (s.takeGas src flow ncv).Follows src := follows
  have kept := State.returning_eq (s.takeGas src flow ncv) returned (.gas src .stale)
  have read : (((s.takeGas src flow ncv).returning returned (.gas src .stale)).sm.sources.get src).ncv = ncv ∧
      (((s.takeGas src flow ncv).returning returned (.gas src .stale)).sm.sources.get src).flow = flow := by
    rw [kept, State.takeGas_sm, PerSource.get_put_self]
    exact ⟨rfl, rfl⟩
  have settings : ((s.takeGas src flow ncv).returning returned (.gas src .stale)).settings = s.settings := by
    rw [kept]
    rfl
  rw [State.deliver_gas, State.evaluateGas_of_within, State.settle_of_follows (taken.returning _ _)]
  · rw [settings, read.1]; exact low
  · rw [settings, read.1]; exact high
  · rw [settings, read.2]; exact calm
  · intro k hk
    rw [State.returning_monitor, if_neg fun x => hk (by simpa using x.1)]
    exact absent k hk

/-- Settles O46: the source takes the reading, a STALE condition goes absent, and nothing else acts. -/
theorem gasReportSetsTheAvailability : Obligations.GasReportSetsTheAvailability := by
  intro s src p flow ncv st await one small role read sound hflow hncv low high calm absent follows rate
  have hexec := exec_reportComplete_good await read (State.judge_gas role sound hflow hncv)
  rw [State.deliver_gas_calm _ _ (by simpa using low) (by simpa using high) (by simpa using calm)
    (fun k hk => by simpa using absent k hk) (State.heardGood_follows follows)] at hexec
  have kept := State.returning_eq (s.heardGood.takeGas src flow ncv)
    (decide ((s.station s.flc.queried).state ≠ .live)) (.gas src .stale)
  have hmonitor := State.returning_monitor (s.heardGood.takeGas src flow ncv)
    (decide ((s.station s.flc.queried).state ≠ .live)) (.gas src .stale)
  have taken (m : Monitor) : (s.heardGood.takeGas src flow ncv).monitor m = s.monitor m :=
    State.monitor_congr (by simp) m
  have mode (m : Monitor) : (s.heardGood.takeGas src flow ncv).mode m = s.mode m := by simp [State.mode]
  refine ⟨_, hexec, ?_, ?_, fun m => ?_, State.heardGood_lineAfter one small ?_⟩
  · rw [kept]
    apply State.ext_blocks <;> simp
  · rw [kept]
    refine (State.takeGas_sm s.heardGood src flow ncv).trans ?_
    simp [State.source, rate]
  · rw [hmonitor, taken, mode]
    simp only [decide_eq_true_eq]
    simp [State.retryExpiry, after]
  · rw [kept]
    simp

/-! ## Lean gas (R72, R78, R82, R87) -/

@[simp] theorem State.monitor_raiseIf (s : State) (b : Bool) (f : AlertFlag) (m : Monitor) :
    (s.raiseIf b f).monitor m = s.monitor m := by
  cases b <;> rfl

theorem State.evaluate_monitor_of_ne (s : State) {m n : Monitor} (b : Bool) (h : m ≠ n) :
    (s.evaluate m b).monitor n = s.monitor n := by
  unfold State.evaluate
  dsimp only
  split
  · rw [State.monitor_raiseIf, State.monitor_setMonitor, if_neg h]
  · rw [State.monitor_setMonitor, if_neg h]
  · rfl

theorem State.alert_evaluate {s : State} {f : AlertFlag} (h : s.alert f = true) (m : Monitor) (b : Bool) :
    (s.evaluate m b).alert f = true := by
  unfold State.evaluate
  dsimp only
  split
  · rw [State.alert_raiseIf]
    exact Bool.or_eq_true_iff.2 (.inl h)
  · exact h
  · exact h

/-- A monitor holds its source, with the condition present, and SOURCE_FAULT tells of it. -/
def State.Holds (s : State) (m : Monitor) : Prop :=
  s.alert .sourceFault = true ∧ (s.monitor m).raw = true ∧ (s.monitor m).latched = true ∧
    (s.monitor m).hold = true ∧ (s.monitor m).timer = none

/-- A condition that appears under a mode that holds (R82). -/
theorem State.holds_evaluate {s : State} {m : Monitor} (absent : (s.monitor m).raw = false)
    (mode : s.mode m = .latch ∨ s.mode m = .retry) : (s.evaluate m true).Holds m := by
  have on : s.mode m ≠ .off := by rcases mode with k | k <;> rw [k] <;> decide
  have monitor : (s.evaluate m true).monitor m = (s.monitor m).appear (s.mode m) := by
    rw [State.evaluate_of_appears absent, State.monitor_raiseIf, State.monitor_setMonitor, if_pos rfl]
  refine ⟨?_, ?_⟩
  · rw [State.evaluate_of_appears absent, State.alert_raiseIf]
    simp [on]
  · rw [monitor]
    rcases mode with k | k <;> rw [k] <;> exact ⟨rfl, rfl, rfl, rfl⟩

theorem State.Holds.evaluate {s : State} {m n : Monitor} (h : s.Holds n) (b : Bool) (other : m ≠ n) :
    (s.evaluate m b).Holds n := by
  obtain ⟨alert, monitor⟩ := h
  refine ⟨State.alert_evaluate alert m b, ?_⟩
  rw [State.evaluate_monitor_of_ne s b other]
  exact monitor

/-- A reading of lean gas makes its monitor hold (R78, R82). -/
theorem State.evaluateGas_of_lean {s : State} {src : Source}
    (lean : (s.sm.sources.get src).ncv < (s.settings.limits.get src).ncvMin)
    (mode : s.mode (.gas src .ncvLow) = .latch ∨ s.mode (.gas src .ncvLow) = .retry)
    (absent : (s.monitor (.gas src .ncvLow)).raw = false) : (s.evaluateGas src).Holds (.gas src .ncvLow) := by
  unfold State.evaluateGas
  dsimp only
  rw [decide_eq_true lean]
  exact ((State.holds_evaluate absent mode).evaluate _ (by simp)).evaluate _ (by simp)

theorem State.poolsNow_get (s : State) (src : Source) : s.poolsNow.get src = s.pool src := by cases src <;> rfl

/-- What a withdrawal makes of the engine (R49, R72). -/
theorem State.withdrawalAtEngine_facts {s : State} (good : s.nvs.settingsFault = false) {src : Source}
    (withdrawn : s.fs.admission.get src = .withdrawn) :
    (s.ae.run.isSome = true → s.withdrawalAtEngine.alert .runAborted = true ∧
      s.withdrawalAtEngine.ae.rerunPending = false) ∧
    (∃ r, s.withdrawalAtEngine.ae.run = some r ∧ r.startPools.get src = 0) ∧
    s.withdrawalAtEngine.ae.surplus = s.ae.surplus ∧ s.withdrawalAtEngine.ae.lastCompleted = s.ae.lastCompleted ∧
    ∀ f, s.alert f = true → s.withdrawalAtEngine.alert f = true := by
  have empty {u : State} (h : u.fs.admission = s.fs.admission) : u.poolsNow.get src = 0 := by
    rw [State.poolsNow_get, State.pool, h, withdrawn]
  rcases s.withdrawalAtEngine_cases with ⟨fault, -⟩ | ⟨-, idle, h⟩ | ⟨-, running, h⟩
  · rw [fault] at good; cases good
  · rw [h]
    exact ⟨fun k => absurd k (by rw [idle]; decide), ⟨_, rfl, empty rfl⟩, rfl, rfl, fun f hf => hf⟩
  · rw [h]
    have alerts (f : AlertFlag) : s.abortRun.alert f = (s.alert f || decide (AlertFlag.runAborted = f)) := by
      rw [State.abortRun_eq]
      exact s.alert_raise .runAborted f
    refine ⟨fun _ => ⟨?_, rfl⟩, ⟨_, rfl, empty ?_⟩, ?_, ?_, fun f hf => ?_⟩
    · exact (alerts _).trans (by simp)
    · rw [State.abortRun_eq]
    · rw [State.abortRun_eq, State.integrateFlare_ae]; rfl
    · rw [State.abortRun_eq, State.integrateFlare_ae]; rfl
    · exact (alerts f).trans (by rw [hf]; rfl)

/-- A monitor that holds an admitted source withdraws it when the source is settled (R87). -/
theorem State.Holds.settle {s : State} {m : Monitor} (h : s.Holds m)
    (admitted : s.fs.admission.get (actsOn m) = .admitted) :
    s.settle (actsOn m) = (s.setAdmission (actsOn m) .withdrawn).withdrawalAtEngine := by
  have held : s.anyHold (actsOn m) = true := List.any_eq_true.2 ⟨m, mem_actingOn.2 rfl, h.2.2.2.1⟩
  rcases s.settle_cases (actsOn m) with ⟨follows, -⟩ | ⟨-, -, settled⟩ | ⟨-, free, -⟩
  · rw [follows.2 held] at admitted; cases admitted
  · exact settled
  · rw [free] at held; cases held

/-- Settles O47: the appearance holds the source, and settling withdraws it. -/
theorem leanGasWithdrawsTheSource : Obligations.LeanGasWithdrawsTheSource := by
  intro s src p flow ncv st await one small role read sound hflow hncv lean mode absent admitted good
  have hexec := exec_reportComplete_good await read (State.judge_gas role sound hflow hncv)
  rw [State.deliver_gas] at hexec
  have kept := State.returning_eq (s.heardGood.takeGas src flow ncv)
    (decide ((s.station s.flc.queried).state ≠ .live)) (.gas src .stale)
  have hmonitor := State.returning_monitor (s.heardGood.takeGas src flow ncv)
    (decide ((s.station s.flc.queried).state ≠ .live)) (.gas src .stale) (.gas src .ncvLow)
  generalize (s.heardGood.takeGas src flow ncv).returning _ _ = u at hexec kept hmonitor
  have settings : u.settings = s.settings := by rw [kept]; simp
  have low : (u.sm.sources.get src).ncv < (u.settings.limits.get src).ncvMin := by
    rw [settings, kept, State.takeGas_sm, PerSource.get_put_self]
    exact lean
  have raw : (u.monitor (.gas src .ncvLow)).raw = false := by
    rw [hmonitor, if_neg (by simp), State.monitor_congr (s := s) (by simp)]
    exact absent
  have holds := State.evaluateGas_of_lean low (by simpa only [State.mode, settings] using mode) raw
  have same : u.fs.admission = s.fs.admission ∧ u.ae = s.ae ∧ u.ot = s.ot ∧ u.nvs = s.nvs := by
    rw [kept]; simp
  obtain ⟨admission, ae, ot, nvs⟩ := same
  have settled : (u.evaluateGas src).settle src = ((u.evaluateGas src).setAdmission src .withdrawn).withdrawalAtEngine :=
    holds.settle (by simpa [actsOn, admission] using admitted)
  obtain ⟨alert, monitor⟩ := holds
  have facts := State.withdrawalAtEngine_facts (s := (u.evaluateGas src).setAdmission src .withdrawn) (src := src)
    (by simpa [nvs] using good) (by simp [State.setAdmission])
  have frame : ((u.evaluateGas src).setAdmission src .withdrawn).ae = s.ae := by simp [ae]
  rw [frame] at facts
  obtain ⟨running, run, surplus, completed, raised⟩ := facts
  have hmonitors : (((u.evaluateGas src).setAdmission src .withdrawn).withdrawalAtEngine).monitor (.gas src .ncvLow) =
      (u.evaluateGas src).monitor (.gas src .ncvLow) := State.monitor_congr (by simp) _
  rw [← hmonitors] at monitor
  obtain ⟨present, latched, hold, timer⟩ := monitor
  rw [settled] at hexec
  exact ⟨_, hexec, by simp [State.setAdmission], raised _ alert, present, latched, hold, timer, running, run, surplus,
    completed, by simp [ot]⟩

end Sys2Proof.Machine
end

section
/-! PROOF. A good holder report (R9 to R13). -/

namespace Sys2Proof.Machine

/-! ## The band (R10, R11) -/

/-- A report moves the band by one step at most (R10, R11). -/
theorem stepBand_steps (level : Nat) (c : HolderSettings) (room : c.lLo + c.hyst ≤ c.lHi - c.hyst)
    (fits : c.hyst ≤ c.lHi) :
    stepBand .unknown level c =
      (if level < c.lLo then .low else if level < c.lHi then .normal else .high) ∧
    (stepBand .low level c = .normal ↔ c.lLo + c.hyst ≤ level) ∧ stepBand .low level c ≠ .high ∧
    (stepBand .normal level c = .low ↔ level < c.lLo) ∧
    (stepBand .normal level c = .high ↔ c.lHi ≤ level) ∧
    (stepBand .high level c = .normal ↔ level < c.lHi - c.hyst) ∧ stepBand .high level c ≠ .low ∧
    (∀ b, b ≠ .unknown → stepBand b level c ≠ .unknown) := by
  refine ⟨rfl, ?_, ?_, ?_, ?_, ?_, ?_, fun b hb => ?_⟩
  · unfold stepBand; dsimp only; split <;> simp [*]
  · unfold stepBand; dsimp only; split <;> decide
  · unfold stepBand; dsimp only; split <;> [simp [*]; skip]; split <;> simp [*]
  · unfold stepBand; dsimp only; split
    · simp; omega
    · split <;> simp [*]
  · have same : level + c.hyst < c.lHi ↔ level < c.lHi - c.hyst := by omega
    rw [← same]
    unfold stepBand; dsimp only; split <;> simp <;> omega
  · unfold stepBand; dsimp only; split <;> decide
  · cases b with
    | unknown => exact absurd rfl hb
    | low => unfold stepBand; dsimp only; split <;> decide
    | normal => unfold stepBand; dsimp only; split <;> [decide; skip]; split <;> decide
    | high => unfold stepBand; dsimp only; split <;> decide

/-! ## The report -/

theorem State.judge_holder {s : State} {a level : Nat} {st : Byte} (role : s.role a = .holder)
    (sound : st.getLsbD 0 = false) (hlevel : level ≤ 1000) :
    s.judge a ⟨0, a, .holder level, st⟩ = .good .holder (.holder level) := by
  have good := State.judge_good (s := s) (a := a) (r := ⟨0, a, .holder level, st⟩) rfl rfl (by rw [role]; simp)
    (by rw [role]; rfl) sound (by simp [Reading.inRange, hlevel])
  rwa [role] at good

theorem State.deliver_holder (s : State) (a : Nat) (returned : Bool) (level : Nat) :
    s.deliver a returned .holder (.holder level) =
      ((s.takeHolder level).returning returned .holderStale).evaluateTrips.settle .cvg := rfl

/-- The holder record as a report with no trip condition leaves it, before a change of band. -/
def State.levelled (s : State) (level : Nat) : State := s.setHolder { s.sm.holder with
  reading := .fresh, level := level, belowTrip := false, aboveTrip := false }

theorem State.takeHolder_eq {s : State} {level : Nat} (low : s.settings.holder.tripLow ≤ level)
    (high : level ≤ s.settings.holder.tripHigh) : s.takeHolder level =
    if stepBand s.sm.holder.band level s.settings.holder = s.sm.holder.band then s.levelled level
    else (s.levelled level).changeBand (stepBand s.sm.holder.band level s.settings.holder) := by
  unfold State.takeHolder State.levelled
  dsimp only
  rw [decide_eq_false (Nat.not_lt.2 low), decide_eq_false (Nat.not_lt.2 high)]

/-- With no trip condition, before or now, the trip monitors stand (R79). -/
theorem State.evaluateTrips_of_calm {s : State} (below : s.sm.holder.belowTrip = false)
    (above : s.sm.holder.aboveTrip = false) (low : (s.monitor .levelLowTrip).raw = false)
    (high : (s.monitor .levelHighTrip).raw = false) : s.evaluateTrips = s := by
  unfold State.evaluateTrips
  rw [below, above, State.evaluate_of_stands low, State.evaluate_of_stands high]

theorem State.takeHolder_marks {s : State} {level : Nat} (low : s.settings.holder.tripLow ≤ level)
    (high : level ≤ s.settings.holder.tripHigh) : (s.takeHolder level).sm.holder.belowTrip = false ∧
    (s.takeHolder level).sm.holder.aboveTrip = false := by
  rw [State.takeHolder_eq low high]
  split
  · exact ⟨rfl, rfl⟩
  · unfold State.changeBand
    dsimp only
    rw [State.requestRun_eq]
    exact ⟨rfl, rfl⟩

/-- What a holder report whose trip conditions stay absent makes of the part (R9, R104). -/
theorem State.deliver_holder_calm {s : State} {level : Nat} (a : Nat) (returned : Bool)
    (low : s.settings.holder.tripLow ≤ level) (high : level ≤ s.settings.holder.tripHigh)
    (noLow : (s.monitor .levelLowTrip).raw = false) (noHigh : (s.monitor .levelHighTrip).raw = false)
    (follows : s.Follows .cvg) : s.deliver a returned .holder (.holder level) =
      (s.takeHolder level).returning returned .holderStale := by
  have monitor (m : Monitor) : (s.takeHolder level).monitor m = s.monitor m := State.monitor_congr (by simp) m
  have taken : (s.takeHolder level).Follows .cvg :=
    (State.SameSource.of_eq (s := s) (by simp) (by simp)).follows follows
  obtain ⟨below, above⟩ := State.takeHolder_marks low high
  have kept := State.returning_eq (s.takeHolder level) returned .holderStale
  rw [State.deliver_holder, State.evaluateTrips_of_calm, State.settle_of_follows (taken.returning _ _)]
  · rw [kept]; exact below
  · rw [kept]; exact above
  · rw [State.returning_monitor, if_neg (by simp), monitor]; exact noLow
  · rw [State.returning_monitor, if_neg (by simp), monitor]; exact noHigh

/-- The supply once a report moved the band, with draw and converter-gas availability following (R12, R13). -/
def State.rebanded (s : State) (level : Nat) (band : HolderBand) (draw : Nat) : State := { s with sm := { s.sm with
  holder := ⟨s.sm.holder.address, .fresh, level, band, false, false, draw⟩
  sources := s.sm.sources.put .cvg { s.sm.sources.cvg with
    availability := draw * s.sm.sources.cvg.ncv / 3600 } } }

theorem State.levelled_changeBand (s : State) (level : Nat) (band : HolderBand) :
    (s.levelled level).changeBand band =
      (s.rebanded level band (drawOf band s.settings.holder)).requestRun.raise .holderBand := rfl

/-- Settles O48: the holder record takes the level, and a change of band goes on to draw, availability
and engine. -/
theorem holderReportSetsTheDraw : Obligations.HolderReportSetsTheDraw := by
  refine ⟨stepBand_steps, ?_⟩
  intro s p level st await one small role read sound hlevel low high noLow noHigh follows band draw
  have hexec := exec_reportComplete_good await read (State.judge_holder role sound hlevel)
  rw [State.deliver_holder_calm _ _ (by simpa using low) (by simpa using high) (by simpa using noLow)
    (by simpa using noHigh) (State.heardGood_follows follows)] at hexec
  have kept := State.returning_eq (s.heardGood.takeHolder level)
    (decide ((s.station s.flc.queried).state ≠ .live)) .holderStale
  have hmonitor := State.returning_monitor (s.heardGood.takeHolder level)
    (decide ((s.station s.flc.queried).state ≠ .live)) .holderStale
  have taken (m : Monitor) : (s.heardGood.takeHolder level).monitor m = s.monitor m :=
    State.monitor_congr (by simp) m
  have mode (m : Monitor) : (s.heardGood.takeHolder level).mode m = s.mode m := by simp [State.mode]
  have htake := State.takeHolder_eq (s := s.heardGood) (level := level) (by simpa using low) (by simpa using high)
  simp only [State.heardGood_frame] at htake
  refine ⟨_, hexec, fun m => ?_, State.heardGood_lineAfter one small ?_, fun same => ?_, fun changed => ?_⟩
  · rw [hmonitor, taken, mode]
    simp only [decide_eq_true_eq]
    simp [State.retryExpiry, after]
  · rw [kept]
    simp
  · rw [if_pos same] at htake
    rw [kept, htake]
    refine ⟨?_, ?_⟩
    · apply State.ext_blocks <;> simp [State.levelled, State.setHolder]
    · simp [State.levelled, State.setHolder]
  · rw [if_neg changed] at htake
    have hdraw : draw = drawOf band s.settings.holder := rfl
    have requested : s.heardGood.takeHolder level =
        State.raise { s.heardGood.rebanded level band draw with
          ae := (s.heardGood.rebanded level band draw).requestRun.ae } .holderBand := by
      rw [htake, State.levelled_changeBand, ← State.requestRun_eq, hdraw]
      simp [band]
    obtain ⟨fault, running, -⟩ := (s.heardGood.rebanded level band draw).requestRun_requested
    have idle := State.requestRun_of_idle (s := s.heardGood.rebanded level band draw)
    have same : (s.heardGood.rebanded level band draw).ae = s.ae ∧
        (s.heardGood.rebanded level band draw).nvs = s.nvs := by simp [State.rebanded]
    rw [same.1, same.2] at fault running idle
    rw [kept, requested]
    refine ⟨?_, ?_, ?_, ?_, ?_, ?_, fault, running, fun good none_ => ?_⟩
    · apply State.ext_blocks <;> simp [State.rebanded]
    · simp [State.rebanded]
    · simp [State.rebanded, PerSource.put]
    · simp [State.rebanded, PerSource.put]
    · simp [State.rebanded, PerSource.put]
    · simp [State.rebanded, State.raise, AlertFlag.bit, AlertFlag.index]
    · refine ⟨(s.heardGood.rebanded level band draw).runPicture, ?_, ?_⟩
      · change (s.heardGood.rebanded level band draw).requestRun.ae.run = _
        rw [idle good none_]
        rfl
      · refine (State.pool_eq _ .cvg).trans ?_
        simp [State.rebanded, PerSource.put, PerSource.get]

end Sys2Proof.Machine
end

section
/-! PROOF. Misses, changes to STALE and what they reach, and the checks of a report in their order (R98 to
R106; O45). -/

namespace Sys2Proof.Machine

/-! ## A condition that is found present (R82, R87) -/

/-- The record of a monitor whose condition is found present (R82). -/
def MonitorRecord.raised (m : MonitorRecord) (mode : FaultMode) : MonitorRecord :=
  if m.raw = true then m else { m with
    raw := true
    counter := min 255 (m.counter + 1)
    latched := m.latched || mode != .off
    hold := m.hold || decide (mode = .latch ∨ mode = .retry)
    timer := if decide (mode = .latch ∨ mode = .retry) = true then none else m.timer }

theorem MonitorRecord.appear_eq_raised {m : MonitorRecord} (h : m.raw = false) (mode : FaultMode) :
    m.appear mode = m.raised mode := by
  unfold MonitorRecord.appear MonitorRecord.raised
  rw [if_neg (by rw [h]; decide)]
  cases mode <;> simp [bump]

theorem State.evaluate_present_monitor (s : State) (m : Monitor) :
    (s.evaluate m true).monitor m = (s.monitor m).raised (s.mode m) := by
  cases raw : (s.monitor m).raw with
  | true => rw [State.evaluate_of_stands raw, MonitorRecord.raised, if_pos raw]
  | false =>
    rw [State.evaluate_of_appears raw, State.monitor_raiseIf, State.monitor_setMonitor, if_pos rfl,
      MonitorRecord.appear_eq_raised raw]

/-- Settling takes no alert away. -/
theorem State.alert_settle {s : State} {f : AlertFlag} (h : s.alert f = true) (src : Source) :
    (s.settle src).alert f = true := by
  rcases s.settle_cases src with ⟨-, k⟩ | ⟨-, -, k⟩ | ⟨-, -, k⟩ <;> rw [k]
  · exact h
  · cases fault : s.nvs.settingsFault with
    | true =>
      have stands : (s.setAdmission src .withdrawn).withdrawalAtEngine = s.setAdmission src .withdrawn := if_pos fault
      rw [stands]; exact h
    | false =>
      exact (State.withdrawalAtEngine_facts (s := s.setAdmission src .withdrawn) (src := src) fault
        (by simp [State.setAdmission])).2.2.2.2 f h
  · rw [State.requestRun_eq]; exact h

/-- A condition found present and handed to the supervisor: its monitor is raised, no other changes, and a
hold withdraws the source (R80, R82, R87). -/
structure State.Reached (s t : State) (m : Monitor) : Prop where
  same : t.monitor m = (s.monitor m).raised (s.mode m)
  others : ∀ k, k ≠ m → t.monitor k = s.monitor k
  tells : (s.monitor m).raw = false → s.mode m ≠ .off → t.alert .sourceFault = true
  withdraws : ((s.monitor m).raised (s.mode m)).hold = true → t.fs.admission.get (actsOn m) = .withdrawn
  keeps : ∀ f, s.alert f = true → t.alert f = true

theorem State.evaluate_settle_reached (s : State) (m : Monitor) :
    s.Reached ((s.evaluate m true).settle (actsOn m)) m := by
  have monitor (k : Monitor) : ((s.evaluate m true).settle (actsOn m)).monitor k = (s.evaluate m true).monitor k :=
    State.monitor_congr (by simp) k
  have same : ((s.evaluate m true).settle (actsOn m)).monitor m = (s.monitor m).raised (s.mode m) := by
    rw [monitor, State.evaluate_present_monitor]
  refine ⟨same, fun k hk => ?_, fun absent on => ?_, fun hold => ?_, fun f hf => ?_⟩
  · rw [monitor, State.evaluate_monitor_of_ne s true (Ne.symm hk)]
  · refine State.alert_settle ?_ _
    rw [State.evaluate_of_appears absent, State.alert_raiseIf]
    simp [on]
  · refine (State.settle_follows _ _).2 (List.any_eq_true.2 ⟨m, mem_actingOn.2 rfl, ?_⟩)
    rw [same]; exact hold
  · exact State.alert_settle (State.alert_evaluate hf m true) _

/-- What is reached, told from a state with the same monitors and modes. -/
theorem State.Reached.from {s u t : State} {m : Monitor} (h : u.Reached t m) (monitors : u.fs.monitors = s.fs.monitors)
    (settings : u.settings = s.settings) :
    t.monitor m = (s.monitor m).raised (s.mode m) ∧ (∀ k, k ≠ m → t.monitor k = s.monitor k) ∧
    ((s.monitor m).raw = false → s.mode m ≠ .off → t.alert .sourceFault = true) ∧
    (((s.monitor m).raised (s.mode m)).hold = true → t.fs.admission.get (actsOn m) = .withdrawn) := by
  have monitor (k : Monitor) : u.monitor k = s.monitor k := State.monitor_congr monitors k
  have mode (k : Monitor) : u.mode k = s.mode k := by rw [State.mode, State.mode, settings]
  obtain ⟨same, others, tells, withdraws, -⟩ := h
  simp only [monitor, mode] at same others tells withdraws
  exact ⟨same, others, tells, withdraws⟩

/-! ## The record of a miss, and the change to STALE (R103, R106) -/

/-- The part once the queried station turned STALE, before the owners of its role hear of it. -/
def State.turned (s : State) (r : StationRecord) : State :=
  (s.heard { r with state := .stale }).raise .stationStale

theorem State.turned_eq (s : State) (r : StationRecord) : s.turned r = { s with
    flc := (s.heard { r with state := .stale }).flc
    fs := { s.fs with alerts := s.fs.alerts ||| AlertFlag.stationStale.bit } } := by
  unfold State.turned
  rw [State.heard_eq]
  rfl

theorem State.turned_role (s : State) (r : StationRecord) (a : Nat) : (s.turned r).role a = s.role a := by
  rw [State.turned_eq]; rfl

theorem State.turned_alert (s : State) (r : StationRecord) : (s.turned r).alert .stationStale = true :=
  (State.alert_raise _ _ _).trans (by simp)

/-- A miss at the end of an exchange (R103). -/
theorem State.enterMiss_beginGap (s : State) (v : LastEvent) :
    (((s.station s.flc.queried).state ≠ .stale ∧
        s.settings.staleThreshold ≤ bump 255 (s.station s.flc.queried).misses) ∧
      s.beginGap.enterMiss s.flc.queried v =
        ((s.turned ((s.station s.flc.queried).missed v)).handStale s.flc.queried).settleRole
          (s.role s.flc.queried)) ∨
    (¬ ((s.station s.flc.queried).state ≠ .stale ∧
        s.settings.staleThreshold ≤ bump 255 (s.station s.flc.queried).misses) ∧
      s.beginGap.enterMiss s.flc.queried v = s.heard ((s.station s.flc.queried).missed v)) :=
  s.beginGap.enterMiss_cases s.flc.queried v

theorem ReadingState.onStale_eq (x : ReadingState) : x.onStale = if x = .fresh then .held else x := by
  cases x <;> rfl

/-- An account of a station that turned STALE (R124). -/
theorem State.holdAccount_cases (s : State) (i : Fin 64) :
    (∃ a, s.account i = some a ∧ a.state = .opened ∧
      s.holdAccount i = s.writeAccount i (some { a with state := .holding })) ∨
    ((∀ a ∈ s.account i, a.state ≠ .opened) ∧ s.holdAccount i = s) := by
  unfold State.holdAccount
  cases account : s.account i with
  | none => exact .inr ⟨fun a ha => (Option.not_mem_none a ha).elim, rfl⟩
  | some a =>
    by_cases opened : a.state = .opened
    · exact .inl ⟨a, rfl, opened, if_pos opened⟩
    · exact .inr ⟨fun b hb => Option.some.inj hb ▸ opened, if_neg opened⟩

theorem State.enterMiss_misses {s : State} (one : 1 ≤ s.flc.queried) (small : s.flc.queried ≤ 127) (v : LastEvent) :
    (s.beginGap.enterMiss s.flc.queried v).Misses s v := by
  unfold State.Misses
  rcases s.enterMiss_beginGap v with ⟨turns, h⟩ | ⟨stays, h⟩
  case inr =>
    rw [h]
    intro r n stale held raised reaches
    have no : stale = false := decide_eq_false stays
    rw [no]
    refine ⟨?_, .of_flc one small rfl, fun _ => s.heard_eq _, nofun⟩
    rw [State.heard_eq]
  case inl =>
    rw [h]
    have heq := s.turned_eq ((s.station s.flc.queried).missed v)
    have hrole := s.turned_role ((s.station s.flc.queried).missed v) s.flc.queried
    have halert := s.turned_alert ((s.station s.flc.queried).missed v)
    generalize s.turned ((s.station s.flc.queried).missed v) = u at *
    have flc : u.flc = (s.heard { (s.station s.flc.queried).missed v with state := .stale }).flc := by rw [heq]
    have line {t : State} (h : t.flc = u.flc) := State.LineAfter.of_flc (t := t) one small (h.trans flc)
    unfold State.handStale
    rw [hrole]
    generalize s.role s.flc.queried = role
    intro r n stale held raised reaches
    have yes : stale = true := decide_eq_true turns
    rw [yes]
    cases role with
    | gas src =>
      have reached := (u.holdSource src).evaluate_settle_reached (.gas src .stale)
      have frame : (((u.holdSource src).evaluate (.gas src .stale) true).settle src).hau = u.hau ∧
          (((u.holdSource src).evaluate (.gas src .stale) true).settle src).esu = u.esu ∧
          (((u.holdSource src).evaluate (.gas src .stale) true).settle src).sm = (u.holdSource src).sm := by
        simp
      obtain ⟨hau, esu, sm⟩ := frame
      have told := reached.from (s := s) (by rw [heq]; rfl) (by rw [heq]; rfl)
      refine ⟨?_, line (by simp [State.settleRole]), nofun, fun _ => ⟨reached.keeps _ halert,
        told, hau.trans (by rw [heq]), esu.trans (by rw [heq]),
        sm.trans ?_⟩⟩
      · apply State.ext_blocks <;> simp [State.settleRole] <;> rw [heq]
      · rw [heq]
        simp only [State.holdSource, State.setSource, State.source, ReadingState.onStale_eq]
        rfl
    | holder =>
      have reached := u.holdHolder.evaluate_settle_reached .holderStale
      have frame : ((u.holdHolder.evaluate .holderStale true).settle .cvg).hau = u.hau ∧
          ((u.holdHolder.evaluate .holderStale true).settle .cvg).esu = u.esu ∧
          ((u.holdHolder.evaluate .holderStale true).settle .cvg).sm = u.holdHolder.sm := by
        simp
      obtain ⟨hau, esu, sm⟩ := frame
      have told := reached.from (s := s) (by rw [heq]; rfl) (by rw [heq]; rfl)
      refine ⟨?_, line (by simp [State.settleRole]), nofun, fun _ => ⟨reached.keeps _ halert,
        told, hau.trans (by rw [heq]), esu.trans (by rw [heq]),
        sm.trans ?_⟩⟩
      · apply State.ext_blocks <;> simp [State.settleRole] <;> rw [heq]
      · rw [heq]
        simp only [State.holdHolder, State.setHolder, ReadingState.onStale_eq]
        rfl
    | export_ =>
      refine ⟨?_, line rfl, nofun, fun _ => ⟨halert, ?_⟩⟩
      · rw [heq]; rfl
      · rw [heq]; rfl
    | unbound =>
      refine ⟨?_, line rfl, nofun, fun _ => ⟨halert, ?_⟩⟩
      · rw [heq]; rfl
      · rw [heq]; rfl
    | heat i =>
      have account (j : Fin 64) : u.account j = s.account j := by rw [heq]; rfl
      have store : u.store = s.store := by rw [heq]
      rcases u.holdAccount_cases i with ⟨a, here, opened, k⟩ | ⟨closed, k⟩
      · rw [account] at here
        dsimp only
        rw [k]
        refine ⟨by rw [heq]; rfl, line rfl, nofun, fun _ => ⟨halert, by rw [heq]; rfl, fun b hb => ?_, fun j hj => ?_⟩⟩
        · obtain rfl : a = b := Option.some.inj (here.symm.trans hb)
          refine ⟨fun _ => ⟨?_, ?_⟩, fun other => absurd opened other⟩
          · exact (State.account_writeAccount _ _ _ _).trans (if_pos rfl)
          · refine (State.accountRecord_writeAccount _ i i _).trans ((if_pos rfl).trans ?_)
            congr 2
            exact ((State.account_writeAccount _ _ _ _).trans (if_pos rfl)).symm
        · refine ⟨((State.account_writeAccount _ _ _ _).trans (if_neg (Ne.symm hj))).trans (account j), ?_⟩
          refine (State.accountRecord_writeAccount _ i j _).trans ((if_neg (Ne.symm hj)).trans ?_)
          rw [State.accountRecord, store]
      · dsimp only
        rw [k]
        refine ⟨by rw [heq]; rfl, line rfl, nofun, fun _ => ⟨halert, by rw [heq]; rfl, fun b hb => ?_, fun j hj => ?_⟩⟩
        · exact ⟨fun opened => absurd opened (closed b (by rw [account]; exact hb)), fun _ => by rw [heq]; exact ⟨rfl, rfl⟩⟩
        · exact ⟨account j, by rw [← store]; rfl⟩

/-! ## The outcome of a report (R102, R105) -/

/-- The checks of a report, in their order. -/
theorem State.judge_order (s : State) (a : Nat) (r : Report) :
    (r.sum ≠ 0 → s.judge a r = .miss .check) ∧
    (r.sum = 0 → r.address ≠ a → s.judge a r = .miss .address) ∧
    (r.sum = 0 → r.address = a → s.role a = .unbound → s.judge a r = .unbound) ∧
    (r.sum = 0 → r.address = a → s.role a ≠ .unbound → (s.role a).kind ≠ some r.reading.kind →
      s.judge a r = .miss .kind) ∧
    (r.sum = 0 → r.address = a → (s.role a).kind = some r.reading.kind →
      r.status.getLsbD 0 = true → s.judge a r = .miss .stationFault) ∧
    (r.sum = 0 → r.address = a → (s.role a).kind = some r.reading.kind →
      r.status.getLsbD 0 = false → r.reading.inRange = false → s.judge a r = .miss .range) ∧
    (r.sum = 0 → r.address = a → (s.role a).kind = some r.reading.kind →
      r.status.getLsbD 0 = false → r.reading.inRange = true →
      s.judge a r = .good (s.role a) r.reading) := by
  have bound (kind : (s.role a).kind = some r.reading.kind) : s.role a ≠ .unbound := fun k => by
    rw [k] at kind; cases kind
  have status : r.status.toNat.testBit 0 = r.status.getLsbD 0 := rfl
  refine ⟨fun sum => if_pos sum, fun sum address => ?_, fun sum address role => ?_, fun sum address role kind => ?_,
    fun sum address kind fault => ?_, fun sum address kind sound range => ?_,
    fun sum address kind sound range => State.judge_good sum address (bound kind) kind sound range⟩ <;>
    unfold State.judge <;> rw [if_neg (not_not_intro sum)]
  · exact if_pos address
  · rw [if_neg (not_not_intro address), if_pos role]
  · rw [if_neg (not_not_intro address), if_neg role, if_pos kind]
  · rw [if_neg (not_not_intro address), if_neg (bound kind), if_neg (not_not_intro kind), status, fault, if_pos rfl]
  · rw [if_neg (not_not_intro address), if_neg (bound kind), if_neg (not_not_intro kind), status, sound,
      if_neg (by decide), if_pos range]

/-- A complete report in AWAIT is taken at the end of the exchange. -/
theorem exec_reportComplete {s : State} {p : List Byte} {r : Report} (await : s.flc.phase = some .await)
    (read : Report.read p = some r) :
    exec (.reportComplete p) s = .next (s.beginGap.takeReport s.flc.queried r) := by
  refine congrArg Host.Outcome.next ?_
  rw [await, read]

/-- Settles O45: a miss is entered alike from a timer and from a report, and the checks follow their order. -/
theorem missesAndTheOrderOfChecks : Obligations.MissesAndTheOrderOfChecks := by
  refine ⟨fun s arrived e await timer one small => ?_, fun s p r v await one small read miss => ?_,
    State.judge_order, fun s p r await one small read sum address role => ?_⟩
  · have queried : (s.atExpiry e).flc.queried = s.flc.queried := by simp
    have misses := State.enterMiss_misses (s := s.atExpiry e) (queried ▸ one) (queried ▸ small)
      (if undelimited arrived then .check else .timeout)
    rw [queried] at misses
    refine ⟨_, congrArg Host.Outcome.next ?_, misses⟩
    rw [await, timer]
  · have taken : s.beginGap.takeReport s.flc.queried r = s.beginGap.enterMiss s.flc.queried v := by
      unfold State.takeReport
      rw [show s.beginGap.judge s.flc.queried r = s.judge s.flc.queried r from rfl, miss]
    exact ⟨_, (exec_reportComplete await read).trans (congrArg _ taken), State.enterMiss_misses one small v⟩
  · have taken : s.beginGap.takeReport s.flc.queried r = s.beginGap.enterUnbound s.flc.queried := by
      have unbound := (s.judge_order s.flc.queried r).2.2.1 sum address role
      unfold State.takeReport
      rw [show s.beginGap.judge s.flc.queried r = s.judge s.flc.queried r from rfl, unbound]
    refine ⟨_, (exec_reportComplete await read).trans (congrArg _ taken), s.heard_eq _, .of_flc one small rfl⟩

end Sys2Proof.Machine
end

section
/-! PROOF. READ STATION and SET POLL LIST (R108 to R111): the record read, the stations delisted, and the walk
over the new list. -/

namespace Sys2Proof.Machine

/-! ## READ STATION (R111) -/

theorem readStationCommand_of_address {s : State} {a : Byte} (one : 1 ≤ a.toNat) (small : a.toNat ≤ 127) :
    readStationCommand [a] s =
      (s.setStation a.toNat { s.station a.toNat with errors := 0 }).ok (s.encodeStation a.toNat) := by
  unfold readStationCommand
  rw [splitFields_byte]
  exact if_neg (by omega)

theorem State.frameTaken_encodeStation (s : State) (a : Nat) : s.frameTaken.encodeStation a = s.encodeStation a := by
  rw [State.frameTaken_eq]; rfl

/-! ## The stations a new list delists (R109, step 2) -/

theorem mem_addresses {a : Nat} : a ∈ addresses ↔ 1 ≤ a ∧ a ≤ 127 := by
  unfold addresses
  simp only [List.mem_map, List.mem_range]
  constructor
  · rintro ⟨b, hb, rfl⟩; omega
  · rintro ⟨one, small⟩; exact ⟨a - 1, by omega, by omega⟩

theorem State.turnStale_flc (s : State) (a : Nat) (r : StationRecord) :
    (s.turnStale a r).flc = (s.setStation a { r with state := .stale }).flc := by
  simp [State.turnStale]

theorem State.delist_flc (s : State) (a : Nat) :
    (s.delist a).flc = { s.flc with stations := (s.delist a).flc.stations } := by
  unfold State.delist
  split
  · rw [State.turnStale_flc, State.setStation_eq]
  · rfl

theorem State.delist_station (s : State) {a : Nat} (h : 1 ≤ a ∧ a ≤ 127) (b : Nat) : (s.delist a).station b =
    if b = a ∧ (s.station b).state = .live then { s.station b with state := .stale } else s.station b := by
  unfold State.delist
  by_cases live : (s.station a).state = .live
  · rw [if_pos live, State.station_congr (State.turnStale_flc s a _)]
    by_cases same : b = a
    · subst same
      rw [if_pos ⟨rfl, live⟩, State.station_setStation_self s _ h]
    · rw [if_neg fun k => same k.1, State.station_setStation_ne s _ (Ne.symm same)]
  · rw [if_neg live, if_neg]
    rintro ⟨rfl, k⟩
    exact live k

theorem State.delists_station (s : State) {l : List Nat} (h : ∀ a ∈ l, 1 ≤ a ∧ a ≤ 127) (b : Nat) :
    (l.foldl State.delist s).station b =
    if b ∈ l ∧ (s.station b).state = .live then { s.station b with state := .stale } else s.station b := by
  induction l generalizing s with
  | nil => simp
  | cons a l ih =>
    obtain ⟨ha, hl⟩ := List.forall_mem_cons.1 h
    rw [List.foldl_cons, ih (s.delist a) hl, State.delist_station s ha]
    by_cases same : b = a
    · subst same
      by_cases live : (s.station b).state = .live
      · simp [live]
      · simp [live]
    · simp [same]

theorem State.delists_flc (s : State) (l : List Nat) :
    (l.foldl State.delist s).flc = { s.flc with stations := (l.foldl State.delist s).flc.stations } := by
  induction l generalizing s with
  | nil => rfl
  | cons a l ih => rw [List.foldl_cons, ih, State.delist_flc]

/-- The stations that the new list no longer holds turn STALE where they were LIVE (R109, step 2). -/
theorem State.delistGone_station (s : State) (old : List Nat) {a : Nat} (h : 1 ≤ a ∧ a ≤ 127) :
    (s.delistGone old).station a =
    if (old.contains a && !s.settings.pollList.contains a && (s.station a).state == .live) = true
      then { s.station a with state := .stale } else s.station a := by
  have inside : ∀ b ∈ addresses.filter (fun a => old.contains a && !s.settings.pollList.contains a), 1 ≤ b ∧ b ≤ 127 :=
    fun b hb => mem_addresses.1 (List.mem_of_mem_filter hb)
  refine (s.delists_station inside a).trans ?_
  simp only [List.mem_filter, mem_addresses, h, true_and, and_self, Bool.and_eq_true, beq_iff_eq]

theorem State.delistGone_flc (s : State) (old : List Nat) :
    (s.delistGone old).flc = { s.flc with stations := (s.delistGone old).flc.stations } := s.delists_flc _

/-! ## The list in force and the walk over it (R109) -/

theorem State.settleAll_flc (s : State) : s.settleAll.flc = s.flc := by simp

/-- The part with the new list, before the walk starts again. -/
def State.listed (s : State) (l : List Nat) : State :=
  (State.delistGone { s with
    settings := { s.settings with pollList := l }
    flc := { s.flc with staged := none }
    nvs := { s.nvs with unsaved := true } } s.settings.pollList).settleAll

theorem State.listed_station (s : State) (l : List Nat) {a : Nat} (h : 1 ≤ a ∧ a ≤ 127) : (s.listed l).station a =
    if (s.settings.pollList.contains a && !l.contains a && (s.station a).state == .live) = true
      then { s.station a with state := .stale } else s.station a := by
  unfold State.listed
  rw [State.station_congr (State.settleAll_flc _), State.delistGone_station _ _ h]
  rfl

theorem State.listed_flc (s : State) (l : List Nat) :
    (s.listed l).flc = { s.flc with staged := none, stations := (s.listed l).flc.stations } := by
  unfold State.listed
  rw [State.settleAll_flc, State.delistGone_flc]

theorem State.listed_frame (s : State) (l : List Nat) : (s.listed l).cl = s.cl ∧
    (s.listed l).settings = { s.settings with pollList := l } ∧
    (s.listed l).nvs = { s.nvs with unsaved := true } ∧ (s.listed l).ot = s.ot := by
  simp [State.listed]

theorem State.walkTo_flc (s : State) (n : Nat) :
    (s.walkTo n).flc = { (s.walkTo n).flc with stations := s.flc.stations, staged := s.flc.staged } := by
  unfold State.walkTo
  split <;> rfl

theorem State.restartWalk_flc (s : State) : s.restartWalk.flc.stations = s.flc.stations ∧
    s.restartWalk.flc.staged = s.flc.staged := by
  unfold State.restartWalk
  split
  · exact ⟨rfl, rfl⟩
  · rw [State.walkTo_flc]; exact ⟨rfl, rfl⟩
  · exact ⟨rfl, rfl⟩
  · exact ⟨rfl, rfl⟩

theorem State.putListInForce_eq (s : State) (l : List Nat) : s.putListInForce l = (s.listed l).restartWalk := rfl

/-- SET POLL LIST with a part that passes its checks (R108). -/
theorem setPollListCommand_of_part {s : State} {l : List Byte} {first final : Bool} (idle : s.nvs.saving = none)
    (range : ∀ a ∈ l, 1 ≤ a.toNat ∧ a.toNat ≤ 127) (begun : first = false → s.flc.staged.isSome = true) {list : List Nat}
    (whole : (if first then [] else s.flc.staged.getD []) ++ l.map BitVec.toNat = list) (room : list.length ≤ 96) :
    setPollListCommand (((if first then 0x01 else 0x02) + (if final then 0x80 else 0)) :: l) s =
      if final = true then (s.putListInForce list).ok (beBytes 1 list.length)
      else State.ok { s with flc := { s.flc with staged := some list } } (beBytes 1 list.length) := by
  have control : pollControl ((if first then 0x01 else 0x02) + (if final then 0x80 else 0)) = some (first, final) := by
    cases first <;> cases final <;> rfl
  have inside : (l.map BitVec.toNat).any (fun a => a == 0 || decide (127 < a)) = false := by
    rw [List.any_eq_false]
    intro a ha
    obtain ⟨b, hb, rfl⟩ := List.mem_map.1 ha
    have := range b hb
    simp; omega
  have staged : ¬ (first = false ∧ s.flc.staged = none) := by
    rintro ⟨later, none_⟩
    have := begun later
    rw [none_] at this; cases this
  unfold setPollListCommand
  simp only [idle, control, inside, whole, if_neg staged, if_neg (Nat.not_lt.2 room), Option.isSome_none,
    Bool.false_eq_true, if_false]

theorem State.restartWalk_of_stopped {s : State} (h : s.flc.polling = .stopped) : s.restartWalk = s := by
  unfold State.restartWalk
  rw [h]

theorem State.restartWalk_of_empty {s : State} (h : s.flc.polling = .empty) : s.restartWalk = s.walkTo 0 := by
  unfold State.restartWalk
  rw [h]

theorem State.restartWalk_of_gap {s : State} (running : s.flc.polling = .running) (gap : s.flc.phase = some .gap) :
    s.restartWalk = { s with flc := { s.flc with position := s.settings.pollList.length - 1 } } := by
  unfold State.restartWalk
  rw [running, gap]

theorem State.restartWalk_of_busy {s : State} (running : s.flc.polling = .running)
    (busy : s.flc.phase = some .query ∨ s.flc.phase = some .await) :
    s.restartWalk = { s with flc := { s.flc with replacementWaiting := true } } := by
  unfold State.restartWalk
  rcases busy with k | k <;> rw [running, k]

/-- The walk once a new list is in force, by how polling stood (R109, step 4). -/
theorem State.listed_walk (s : State) (l : List Nat) :
    (s.flc.polling = .running → s.flc.phase = some .query ∨ s.flc.phase = some .await →
      (s.listed l).restartWalk.flc.replacementWaiting = true ∧
      (s.listed l).restartWalk.flc.queried = s.flc.queried) ∧
    (s.flc.polling = .running → s.flc.phase = some .gap → (s.listed l).restartWalk.flc = { s.flc with
      staged := none, position := l.length - 1, stations := (s.listed l).restartWalk.flc.stations }) ∧
    (s.flc.polling = .stopped → (s.listed l).restartWalk.flc = { s.flc with
      staged := none, stations := (s.listed l).restartWalk.flc.stations }) ∧
    (s.flc.polling = .empty → l = [] → (s.listed l).restartWalk.flc = { s.flc with
      staged := none, stations := (s.listed l).restartWalk.flc.stations, position := 0, phase := none
      replyTimer := none, gapTimer := none }) ∧
    (s.flc.polling = .empty → l ≠ [] →
      (s.listed l).restartWalk.flc.polling = .running ∧ (s.listed l).restartWalk.flc.position = 0 ∧
      (s.listed l).restartWalk.flc.phase = some .query ∧ some (s.listed l).restartWalk.flc.queried = l[0]?) := by
  have flc := s.listed_flc l
  obtain ⟨-, settings, -, -⟩ := s.listed_frame l
  generalize s.listed l = u at flc settings
  have list : u.settings.pollList = l := by rw [settings]
  have polling : u.flc.polling = s.flc.polling := by rw [flc]
  have phase : u.flc.phase = s.flc.phase := by rw [flc]
  refine ⟨fun running busy => ?_, fun running gap => ?_, fun stopped => ?_, fun empty none_ => ?_, fun empty some_ => ?_⟩
  · rw [State.restartWalk_of_busy (polling.trans running) (by rw [phase]; exact busy)]
    exact ⟨rfl, by rw [flc]⟩
  · rw [State.restartWalk_of_gap (polling.trans running) (phase.trans gap), list, flc]
  · rw [State.restartWalk_of_stopped (polling.trans stopped), flc]
  · rw [State.restartWalk_of_empty (polling.trans empty), State.walkTo_of_empty (list.trans none_), State.enterEmpty, flc]
    rw [← empty]
  · rw [State.restartWalk_of_empty (polling.trans empty), State.walkTo_of_list (by rwa [list])]
    refine ⟨rfl, rfl, rfl, ?_⟩
    rw [State.sendQuery, list]
    cases l with
    | nil => exact absurd rfl some_
    | cons a l => rfl

theorem State.station_of_stations {s t : State} (h : t.flc.stations = s.flc.stations) (a : Nat) :
    t.station a = s.station a := by
  unfold State.station
  rw [h]

/-- Settles O49: the station read, and the list's parts by their control byte. -/
theorem stationAndPollListCommands : Obligations.StationAndPollListCommands := by
  refine fun s => ⟨fun a taking one small => ?_, fun l first final h idle range begun => ?_⟩
  · have hown := readStationCommand_of_address (s := s.frameTaken) one small
    rw [State.frameTaken_encodeStation] at hown
    refine ⟨_, congrArg Host.Outcome.next (State.takeFrame_of_answer taking hown (by simp)), ?_, ?_, fun b hb => ?_⟩
    · rw [State.setStation_eq, State.frameTaken_eq]; rfl
    · refine (State.station_setStation_self s.frameTaken _ ⟨one, small⟩).trans ?_
      rw [State.frameTaken_station]
    · exact (State.station_setStation_ne s.frameTaken _ (Ne.symm hb)).trans (s.frameTaken_station b)
  · intro list control room
    have hown := setPollListCommand_of_part (s := s.frameTaken) (l := l) (first := first) (final := final) (list := list)
      (by simpa using idle) range (by simpa using begun) (by simp [list]) room
    have staging : s.frameTaken.flc.staged = s.flc.staged := by simp
    refine ⟨fun part => ?_, fun last => ?_⟩
    · subst part
      refine (congrArg _ (State.takeFrame_gated_of_answer h hown (by simp))).trans ?_
      rw [State.frameTaken_eq]
      rfl
    · subst last
      rw [if_pos rfl, State.putListInForce_eq] at hown
      have walk := s.frameTaken.listed_walk list
      obtain ⟨cl, settings, nvs, ot⟩ := s.frameTaken.listed_frame list
      have stations {a : Nat} (ha : 1 ≤ a ∧ a ≤ 127) := s.frameTaken.listed_station list ha
      have staged : (s.frameTaken.listed list).flc.staged = none := by rw [State.listed_flc]
      generalize s.frameTaken.listed list = u at *
      simp only [State.frameTaken_frame, State.frameTaken_station] at walk settings stations
      refine ⟨_, congrArg Host.Outcome.next (State.takeFrame_gated_of_answer h hown (by simp [cl])), rfl,
        by simp [settings], (State.restartWalk_flc u).2.trans staged, by simp [nvs], by simp [ot], fun a one small => ?_, walk⟩
      refine Eq.trans ?_ (stations ⟨one, small⟩)
      exact State.station_of_stations (State.restartWalk_flc u).1 a

end Sys2Proof.Machine
end

section
/-! PROOF. Commands to the account table (R116, R117, R126 to R131) and the billing of a reading (R118 to
R125). -/

namespace Sys2Proof.Machine

/-! ## One account written by a command -/

/-- The part after a command that wrote one account and answered `r`. -/
def State.accountAnswered (s : State) (i : Fin 64) (x : Option Account) (r : Reply) : State := { s with
  cl := s.linkAfter r
  hau := { s.hau with accounts := setAt s.hau.accounts i x }
  store := { s.store with accounts := setAt s.store.accounts i ⟨storedAccount x, true⟩ } }

theorem State.writeAccount_frameTaken (s : State) (i : Fin 64) (x : Option Account) (r : Reply) :
    ({ s.frameTaken.writeAccount i x with cl := s.linkAfter r } : State) = s.accountAnswered i x r := by
  rw [State.frameTaken_eq]
  rfl

/-- A frame whose owner writes one account. -/
theorem State.takeFrame_of_writeAccount {s : State} (h : s.Serving) {own : State → Answer} {i : Fin 64}
    {x : Option Account} {payload : List Byte}
    (k : own s.frameTaken = (s.frameTaken.writeAccount i x).ok payload) :
    s.takeFrame (gated own) = s.accountAnswered i x ⟨.ok, payload⟩ :=
  (State.takeFrame_gated_of_answer h k (by simp)).trans (s.writeAccount_frameTaken i x _)

/-- A command that names an account that stands. -/
theorem namedAccount_of_found {s : State} {n : Nat} (hn : n < 4294967296) {i : Fin 64} {a : Account}
    (found : s.findAccount n = some (i, a)) (act : State → Fin 64 → Account → Answer) :
    namedAccount (beBytes 4 n) s.frameTaken (act s.frameTaken) = act s.frameTaken i a := by
  rw [namedAccount_eq _ hn, State.frameTaken_findAccount, found]

/-! ## OPEN ACCOUNT (R116, R117) -/

theorem splitFields_openAccount {n a limit : Nat} (z : Zone) (hn : n < 4294967296) (ha : a ≤ 127)
    (hlimit : limit < 16777216) :
    splitFields [4, 1, 1, 3] (beBytes 4 n ++ beBytes 1 a ++ beBytes 1 z.number ++ beBytes 3 limit) =
      some [n, a, z.number, limit] := by
  have hz : z.number < 256 := by cases z <;> decide
  have ha' : a < 256 := by omega
  simp only [List.append_assoc, splitFields_join, splitFields_single, Option.map_some, Nat.reducePow,
    Nat.mod_eq_of_lt, *]

/-- An account that passes the checks of OPEN ACCOUNT takes the lowest FREE slot (R116). -/
theorem openAccountCommand_of_fits {s : State} {p : List Byte} {n a limit : Nat} {z : Zone} {i : Fin 64}
    (read : splitFields [4, 1, 1, 3] p = some [n, a, z.number, limit]) (number : n ≠ 0) (one : 1 ≤ a) (small : a ≤ 127)
    (fresh : s.findAccount n = none) (unbound : s.isBound a = false) (noRole : s.settings.roles.holds a = false)
    (free : s.account i = none) (lower : ∀ j < i, (s.account j).isSome = true) :
    openAccountCommand p s =
      (s.writeAccount i (some (Account.fresh n a z (min 2000000 limit) (s.isStale a)))).ok (beBytes 1 i.val) := by
  have lowest : (slots64.find? fun i => (s.account i).isNone) = some i :=
    find_finRange_some.2 ⟨by rw [free]; rfl, fun j hj => by
      obtain ⟨x, hx⟩ := Option.isSome_iff_exists.1 (lower j hj)
      rw [hx]; rfl⟩
  have range : ¬ (n = 0 ∨ a = 0 ∨ 127 < a) := by omega
  unfold openAccountCommand
  simp only [read, Zone.ofNumber_number, fresh, unbound, noRole, lowest, if_neg range, Option.isSome_none,
    Bool.or_self, Bool.false_eq_true, if_false]

/-! ## Marks and collection (R126, R128, R131) -/

theorem clearMarksCommand_of_found {s : State} {n bits : Nat} (hn : n < 4294967296) (hbits : bits < 256) {i : Fin 64}
    {a : Account} (found : s.findAccount n = some (i, a)) :
    clearMarksCommand (beBytes 4 n ++ beBytes 1 bits) s = (s.writeAccount i (some (a.clearMarks bits))).ok
      ([a.marks.toByte] ++ beBytes 1 a.gaps ++ beBytes 1 a.implausibles ++ beBytes 1 a.reverses) := by
  have split : splitFields [4, 1] (beBytes 4 n ++ beBytes 1 bits) = some [n, bits] := by
    simp only [splitFields_join, splitFields_single, Option.map_some, Nat.reducePow, Nat.mod_eq_of_lt, *]
  unfold clearMarksCommand
  simp only [split, found]

/-- COLLECT ACCOUNT of a closed copy (R128). -/
theorem collectEntry_of_copy (s : State) (i : Fin 64) {a : Account} (live : a.state = .opened ∨ a.state = .holding)
    (whole : a.damaged = false) (copy : a.closed.isSome = true) :
    collectEntry s i a = (s.writeAccount i (some { a with
      closed := none, marks := { a.marks with uncollected := false } })).ok
      (Account.encodeCollected { a with final := none }) := by
  have ready : ¬ (a.damaged || a.closed.isNone) = true := by
    rw [whole, Option.isNone_eq_false_iff.2 copy]; decide
  unfold collectEntry
  rcases live with k | k <;> rw [k] <;> exact if_neg ready

theorem collectEntry_refused (s : State) (i : Fin 64) {a : Account}
    (h : a.state = .closing ∨ (a.state ≠ .final ∧ (a.damaged = true ∨ a.closed = none))) :
    collectEntry s i a = s.refuse .wrongState := by
  have unfit (k : a.damaged = true ∨ a.closed = none) : (a.damaged || a.closed.isNone) = true := by
    rcases k with k | k <;> simp [k]
  unfold collectEntry
  rcases h with closing | ⟨other, k⟩
  · rw [closing]
  · cases state : a.state with
    | final => exact absurd state other
    | closing => rfl
    | opened => exact if_pos (unfit k)
    | holding => exact if_pos (unfit k)

/-- Settles O50: each command passes its checks and writes the one account. -/
theorem accountsAreOpenedAndEnded : Obligations.AccountsAreOpenedAndEnded := by
  refine ⟨?opens, ?ends⟩
  case opens =>
    intro s n a limit z i h one hn hone hsmall hlimit apart noRole free lower x
    have found : s.findAccount n = none :=
      (State.findAccount_none_iff (Nat.ne_of_gt one)).2 fun j y hy => (apart j y hy).1
    have unbound : s.isBound a = false := by
      rw [Bool.eq_false_iff]
      intro bound
      obtain ⟨-, j, y, hy, station⟩ := State.isBound_iff.1 bound
      exact (apart j y hy).2 station
    have stale : s.isStale a = decide ((s.station a).state = .stale) := by
      have : a ≠ 0 := by omega
      cases k : (s.station a).state <;> simp [State.isStale, this, k]
    have hown := openAccountCommand_of_fits (s := s.frameTaken) (splitFields_openAccount z hn hsmall hlimit)
      (Nat.ne_of_gt one) hone hsmall (by simpa using found) (by simpa using unbound) (by simpa using noRole)
      (by simpa using free) (by simpa using lower)
    refine (congrArg _ (State.takeFrame_of_writeAccount h hown)).trans ?_
    have same : Account.fresh n a z (min 2000000 limit) (s.frameTaken.isStale a) = x := by
      rw [State.frameTaken_isStale, stale]
      unfold Account.fresh
      simp only [decide_eq_true_eq]
      rfl
    rw [same]
    rfl
  case ends =>
    intro s n i a h hn found after_
    have named {act : State → Fin 64 → Account → Answer} {x : Option Account} {payload : List Byte}
        (k : act s.frameTaken i a = (s.frameTaken.writeAccount i x).ok payload) :
        s.takeFrame (gated fun t => namedAccount (beBytes 4 n) t (act t)) = after_ payload x :=
      State.takeFrame_of_writeAccount h ((namedAccount_of_found hn found act).trans k)
    refine ⟨fun live => ?_, fun closing => ?_, fun bits hbits => ?_, fun final => ?_, fun live whole copy => ?_,
      fun unfit => ?_⟩
    · exact congrArg _ (named (act := closeEntry) (if_pos live))
    · have k : forceEntry s.frameTaken i a = ((s.frameTaken.writeAccount i (some a.finish)).raise .accountEvent).ok [] :=
        if_pos closing
      refine (congrArg _ (State.takeFrame_gated_of_answer h
        ((namedAccount_of_found hn found forceEntry).trans k) (by simp))).trans ?_
      rw [State.frameTaken_eq]
      rfl
    · exact congrArg _ (State.takeFrame_of_writeAccount h (clearMarksCommand_of_found hn hbits (by simpa using found)))
    · exact congrArg _ (named (act := collectEntry) (by unfold collectEntry; rw [final]))
    · exact ⟨_, congrArg _ (named (act := collectEntry) (collectEntry_of_copy _ i live whole copy))⟩
    · exact congrArg _ (State.takeFrame_gated_of_reply h
        ((namedAccount_of_found hn found collectEntry).trans (collectEntry_refused _ i unfit)))

/-! ## The billing close (R127) -/

theorem nextCloseNumber_eq (n : Nat) : nextCloseNumber n = if n < 4294967295 then n + 1 else 1 := by
  simp only [nextCloseNumber, Config.maxNumber, ← Nat.not_lt, ite_not]

theorem Account.closes_iff {a : Account} :
    a.closes = true ↔ a.damaged = false ∧ (a.state = .opened ∨ a.state = .holding) := by
  simp [Account.closes]

theorem State.closeSlot_eq (n : Nat) (s : State) (i : Fin 64) : State.closeSlot n s i = { s with
    hau := { s.hau with accounts := (State.closeSlot n s i).hau.accounts }
    store := { s.store with accounts := (State.closeSlot n s i).store.accounts }
    fs := { s.fs with alerts := (State.closeSlot n s i).fs.alerts } } := by
  unfold State.closeSlot
  split
  · split
    · next a _ _ => cases a.closed.isSome <;> rfl
    · rfl
  · rfl

theorem State.closeSlots_eq (n : Nat) (s : State) (is : List (Fin 64)) : is.foldl (State.closeSlot n) s = { s with
    hau := { s.hau with accounts := (is.foldl (State.closeSlot n) s).hau.accounts }
    store := { s.store with accounts := (is.foldl (State.closeSlot n) s).store.accounts }
    fs := { s.fs with alerts := (is.foldl (State.closeSlot n) s).fs.alerts } } := by
  induction is generalizing s with
  | nil => rfl
  | cons i is ih => rw [List.foldl_cons, ih, State.closeSlot_eq]

theorem State.alert_closeSlot {s : State} {f : AlertFlag} (h : s.alert f = true) (n : Nat) (i : Fin 64) :
    (State.closeSlot n s i).alert f = true := by
  unfold State.closeSlot
  split
  · split
    · rw [State.alert_raiseIf]; exact Bool.or_eq_true_iff.2 (.inl h)
    · exact h
  · exact h

theorem State.alert_closeSlots {s : State} {f : AlertFlag} (h : s.alert f = true) (n : Nat) (is : List (Fin 64)) :
    (is.foldl (State.closeSlot n) s).alert f = true := by
  induction is generalizing s with
  | nil => exact h
  | cons i is ih => exact ih (State.alert_closeSlot h n i)

/-- An account that keeps its copy is told of by ACCOUNT_EVENT (R127). -/
theorem State.closeSlots_tell (n : Nat) {is : List (Fin 64)} (distinct : is.Nodup) {s : State} {i : Fin 64} {a : Account}
    (mem : i ∈ is) (account : s.account i = some a) (acts : a.closes = true) (copy : a.closed.isSome = true) :
    (is.foldl (State.closeSlot n) s).alert .accountEvent = true := by
  induction is generalizing s with
  | nil => cases mem
  | cons j is ih =>
    obtain ⟨hj, distinct⟩ := List.nodup_cons.1 distinct
    rw [List.foldl_cons]
    rcases List.mem_cons.1 mem with rfl | later
    · refine State.alert_closeSlots ?_ n is
      unfold State.closeSlot
      rw [account]
      dsimp only
      rw [if_pos acts, copy]
      exact (State.alert_raise _ _ _).trans (by simp)
    · have other : j ≠ i := by rintro rfl; exact hj later
      refine ih distinct later ?_
      rw [(State.closeSlot_account n s j i).1, if_neg other, account]

/-- The part once the close took its number, before it comes to the accounts. -/
def State.numbered (s : State) (n : Nat) : State := { s with
  hau := { s.hau with closeNumber := n }
  store := { s.store with closeNumber := ⟨n, true⟩ } }

theorem closeBillingCommand_eq (s : State) : closeBillingCommand s =
    ⟨⟨if s.countClosing (fun a => a.closed.isSome) = 0 then .ok else .uncollected,
      beBytes 4 (nextCloseNumber s.hau.closeNumber) ++ beBytes 1 (s.countClosing fun a => a.closed.isNone) ++
        beBytes 1 (s.countClosing fun a => a.closed.isSome)⟩,
      slots64.foldl (State.closeSlot (nextCloseNumber s.hau.closeNumber))
        (s.numbered (nextCloseNumber s.hau.closeNumber))⟩ := by
  unfold closeBillingCommand State.numbered
  rfl

/-- Settles O51: slot by slot, each account the close acts on is closed or marked. -/
theorem billingCloseNeverOverwritesACopy : Obligations.BillingCloseNeverOverwritesACopy := by
  intro s h number acts count closed skipped
  have same (p : Account → Bool) (copy : Bool) (hp : ∀ a, p a = (a.closed.isSome == copy)) :
      s.frameTaken.countClosing p = count copy := by
    refine congrArg List.length (List.filter_congr fun i _ => ?_)
    rw [State.frameTaken_account]
    cases s.account i with
    | none => rfl
    | some a =>
      have closes : a.closes = decide (acts a) := Bool.eq_iff_iff.2 (Account.closes_iff.trans decide_eq_true_iff.symm)
      simp only [Option.any_some, closes, hp]
  have hclosed : s.frameTaken.countClosing (fun a => a.closed.isNone) = closed :=
    same _ false fun a => by cases a.closed <;> rfl
  have hskipped : s.frameTaken.countClosing (fun a => a.closed.isSome) = skipped :=
    same _ true fun a => by cases a.closed <;> rfl
  have hnumber : nextCloseNumber s.frameTaken.hau.closeNumber = number := by
    rw [nextCloseNumber_eq]; simp [number]
  have hown := closeBillingCommand_eq s.frameTaken
  rw [hclosed, hskipped, hnumber] at hown
  have slot := closeBillingCommand_account s.frameTaken
  rw [hown, hnumber] at slot
  have tell {i : Fin 64} {a : Account} (account : s.account i = some a) (closes : a.closes = true)
      (copy : a.closed.isSome = true) :
      (slots64.foldl (State.closeSlot number) (s.frameTaken.numbered number)).alert .accountEvent = true := by
    refine State.closeSlots_tell number (List.nodup_finRange 64) (List.mem_finRange i) ?_ closes copy
    rw [← State.frameTaken_account] at account
    exact account
  have heq := State.closeSlots_eq number (s.frameTaken.numbered number) slots64
  generalize slots64.foldl (State.closeSlot number) (s.frameTaken.numbered number) = t at *
  simp only [State.frameTaken_account] at slot
  have became {i : Fin 64} {a : Account} (ha : s.account i = some a) : t.account i = some (a.closedBy number) := by
    rw [(slot i).1, ha]; rfl
  refine ⟨_, congrArg Host.Outcome.next (State.takeFrame_gated_bare_nil_of_answer h hown
    (by rw [heq]; simp [State.numbered])), ?_, rfl, ?_, ?_, fun i a ha => ⟨fun does none_ => ?_, fun does copy => ?_,
    fun idle => ?_, fun does => ?_⟩, fun i free => ?_, ?_⟩
  · rw [heq]
    apply State.ext_blocks <;> simp [State.numbered]
  · rw [heq]; rfl
  · rw [heq]; rfl
  · refine (became ha).trans ?_
    rw [Account.closedBy, if_pos (Account.closes_iff.2 does), Account.atClose, if_neg (by rw [none_]; decide)]
  · refine ⟨(became ha).trans ?_, tell ha (Account.closes_iff.2 does) copy⟩
    rw [Account.closedBy, if_pos (Account.closes_iff.2 does), Account.atClose, if_pos copy]
  · refine (became ha).trans ?_
    rw [Account.closedBy, if_neg fun k => idle (Account.closes_iff.1 k)]
  · exact (slot i).2.trans (if_pos ⟨a, ha, Account.closes_iff.2 does⟩)
  · exact (slot i).1.trans (by rw [free]; rfl)
  · constructor
    · intro zero i a ha does
      have out := List.filter_eq_nil_iff.1 (List.length_eq_zero_iff.1 zero) i (List.mem_finRange i)
      rw [Option.mem_def.1 ha, Option.any_some, decide_eq_true does, Bool.true_and] at out
      cases copy : a.closed with
      | none => rfl
      | some k => rw [copy] at out; exact absurd rfl out
    · intro none_
      refine List.length_eq_zero_iff.2 (List.filter_eq_nil_iff.2 fun i _ => ?_)
      cases ha : s.account i with
      | none => decide
      | some a =>
        intro found
        rw [Option.any_some, Bool.and_eq_true, decide_eq_true_iff] at found
        rw [none_ i a ha found.1] at found
        exact absurd found.2 (by decide)

end Sys2Proof.Machine
end

section
/-! PROOF. The billing of a reading, exact to the watt-hour (R118 to R125), and the heat report that brings it. -/

namespace Sys2Proof.Machine

/-! ## Energy and bands (R120 to R122) -/

theorem EnergyBand.content_bandOf (wh : Nat) : EnergyBand.content (bandOf wh) = wh := Nat.div_add_mod' wh 1000

theorem EnergyBand.content_bandAdd (b : EnergyBand) (wh : Nat) :
    EnergyBand.content (bandAdd b wh) = min 999999999999 (EnergyBand.content b + wh) :=
  EnergyBand.content_bandOf _

theorem bandAdd_wh_lt (b : EnergyBand) (wh : Nat) : (bandAdd b wh).wh < 1000 := Nat.mod_lt _ (by decide)

/-- The share that goes to RECOVERED is no more than the whole (R121). -/
theorem recoveredShare_le (wh : Nat) {c : Nat} (h : c ≤ 1000) : recoveredShare wh c ≤ wh :=
  Nat.div_le_of_le_mul (by rw [Nat.mul_comm]; exact Nat.mul_le_mul_right wh h)

/-- Settles O52: the energy divides exactly, and each band takes its share up to its greatest value. -/
theorem everyWattHourIsBilledOnce : Obligations.EveryWattHourIsBilledOnce := by
  intro a r base c hc _ hrecovered hfired dv dt x wh b
  have recovered : EnergyBand.content b.recovered =
      min 999999999999 (EnergyBand.content a.recovered + wh * c / 1000) := EnergyBand.content_bandAdd _ _
  have fired : EnergyBand.content b.fired =
      min 999999999999 (EnergyBand.content a.fired + (wh - wh * c / 1000)) := EnergyBand.content_bandAdd _ _
  have share : wh * c / 1000 ≤ wh := recoveredShare_le wh hc
  refine ⟨Nat.div_add_mod' x 100000, Nat.mod_lt _ (by decide), recovered, fired, bandAdd_wh_lt _ _, bandAdd_wh_lt _ _,
    fun roomRecovered roomFired => ?_, rfl, rfl, ?_⟩
  · rw [recovered, fired]
    clear_value wh
    generalize wh * c / 1000 = part at *
    omega
  · simp [b, Account.billed, HeatReading.reversed, bump]

/-! ## What a reading makes of an account (R118, R119, R123, R125, R129) -/

theorem Account.gapCounted_eq (a : Account) : a.gapCounted =
    if a.state = .holding ∨ a.lastReading = none then { a with gaps := min 255 (a.gaps + 1) } else a := by
  have counts : a.countsGap = true ↔ a.state = .holding ∨ a.lastReading = none := by
    simp [Account.countsGap]
  unfold Account.gapCounted
  simp only [counts]
  rfl

theorem Account.gapCounted_state (a : Account) : a.gapCounted.state = a.state := by
  unfold Account.gapCounted; split <;> rfl

theorem Account.returned_eq {a : Account} (h : a.state = .opened ∨ a.state = .holding) :
    a.returned = { a with state := .opened } := by
  unfold Account.returned
  rcases h with opened | holding
  · rw [if_neg (by rw [opened]; decide)]
    cases a; cases opened; rfl
  · exact if_pos holding

theorem Account.plausible_iff (a : Account) (r : HeatReading) (base : Baseline) : a.plausible r base = true ↔
    ∀ at_ ∈ a.lastReading, (r.volume + 100000000 - base.volume) % 100000000 ≤
      a.flowLimit * (r.time - at_).toNat / 3600000 + 1000 := by
  unfold Account.plausible
  cases a.lastReading with
  | none => simp
  | some t => exact decide_eq_true_iff.trans ⟨fun k x hx => Option.some.inj hx ▸ k, fun k => k t rfl⟩

/-- A FINAL or damaged account ignores a reading (R118). -/
theorem Account.takeReading_ignored {a : Account} (h : a.damaged = true ∨ a.state = .final) (r : HeatReading) (c : Nat) :
    a.takeReading r c = none := by
  unfold Account.takeReading
  rcases h with damaged | final
  · exact if_pos damaged
  · rw [final]; exact ite_self none

/-- What a reading makes of a CLOSING account (R119, R129). -/
def Account.closedWith (a : Account) (r : HeatReading) (c : Nat) : Account :=
  match a.baseline with
  | none => a.finish
  | some base => if a.plausible r base then (a.gapCounted.billed r base c).finish else a.gapCounted.rejected

/-- What a reading makes of an OPEN or HOLDING account, and whether it sets a mark (R118 to R123, R125). -/
def Account.readWith (a : Account) (r : HeatReading) (c : Nat) : Account × Bool :=
  match a.baseline with
  | none => ({ a with baseline := some r.baseline, lastReading := some r.time, state := .opened }, false)
  | some base =>
    if a.plausible r base then ({ a.gapCounted.billed r base c with state := .opened }, a.billMarks r base c)
    else ({ a.gapCounted.rejected with state := .opened }, true)

section
variable {a : Account} (whole : a.damaged = false) (r : HeatReading) (c : Nat)
include whole

theorem Account.takeReading_whole : a.takeReading r c = match a.state, a.baseline with
    | .final, _ => none
    | .closing, none => some (a.finish, true)
    | .closing, some base =>
      if a.plausible r base then some (((a.gapCounted.billed r base c).finish), true)
      else some (a.gapCounted.rejected, true)
    | _, none =>
      some ({ a with baseline := some r.baseline, lastReading := some r.time, state := .opened }, false)
    | _, some base =>
      if a.plausible r base then
        some ((a.gapCounted.billed r base c).returned, a.billMarks r base c)
      else some (a.gapCounted.rejected.returned, true) :=
  if_neg (by rw [whole]; decide)

/-- A reading of a CLOSING account sets a mark (R129). -/
theorem Account.takeReading_closing (closing : a.state = .closing) :
    a.takeReading r c = some (a.closedWith r c, true) := by
  rw [Account.takeReading_whole whole, closing]
  unfold Account.closedWith
  cases a.baseline with
  | none => rfl
  | some base => dsimp only; split <;> rfl

/-- A reading of an OPEN or HOLDING account returns it to OPEN (R118, R125). -/
theorem Account.takeReading_live (live : a.state = .opened ∨ a.state = .holding) :
    a.takeReading r c = some (a.readWith r c) := by
  have billed (base : Baseline) : (a.gapCounted.billed r base c).returned =
      { a.gapCounted.billed r base c with state := .opened } :=
    Account.returned_eq (by change a.gapCounted.state = _ ∨ a.gapCounted.state = _; rwa [Account.gapCounted_state])
  have rejected : a.gapCounted.rejected.returned = { a.gapCounted.rejected with state := .opened } :=
    Account.returned_eq (by change a.gapCounted.state = _ ∨ a.gapCounted.state = _; rwa [Account.gapCounted_state])
  rw [Account.takeReading_whole whole]
  unfold Account.readWith
  rcases live with k | k <;> rw [k] <;> cases a.baseline with
  | none => rfl
  | some base => dsimp only; rw [billed, rejected]; split <;> rfl

end

section
variable {a : Account} {r : HeatReading} {base : Baseline} (c : Nat)

theorem Account.closedWith_first (h : a.baseline = none) : a.closedWith r c = a.finish := by
  unfold Account.closedWith; rw [h]

theorem Account.closedWith_plausible (h : base ∈ a.baseline) (k : a.plausible r base = true) :
    a.closedWith r c = (a.gapCounted.billed r base c).finish := by
  unfold Account.closedWith; rw [Option.mem_def.1 h]; exact if_pos k

theorem Account.closedWith_implausible (h : base ∈ a.baseline) (k : ¬ a.plausible r base = true) :
    a.closedWith r c = a.gapCounted.rejected := by
  unfold Account.closedWith; rw [Option.mem_def.1 h]; exact if_neg k

theorem Account.readWith_first (h : a.baseline = none) : a.readWith r c =
    ({ a with baseline := some r.baseline, lastReading := some r.time, state := .opened }, false) := by
  unfold Account.readWith; rw [h]

theorem Account.readWith_plausible (h : base ∈ a.baseline) (k : a.plausible r base = true) : a.readWith r c =
    ({ a.gapCounted.billed r base c with state := .opened }, a.billMarks r base c) := by
  unfold Account.readWith; rw [Option.mem_def.1 h]; exact if_pos k

theorem Account.readWith_implausible (h : base ∈ a.baseline) (k : ¬ a.plausible r base = true) :
    a.readWith r c = ({ a.gapCounted.rejected with state := .opened }, true) := by
  unfold Account.readWith; rw [Option.mem_def.1 h]; exact if_neg k

end

/-! ## The heat report -/

theorem State.judge_heat {s : State} {a v rate : Nat} {tf tr : Int} {i : Fin 64} {st : Byte} (role : s.role a = .heat i)
    (sound : st.getLsbD 0 = false) (hv : v < 100000000) (hrate : rate ≤ 2000000) (lowFlow : -2000 ≤ tf)
    (highFlow : tf ≤ 15000) (lowReturn : -2000 ≤ tr) (highReturn : tr ≤ 15000) :
    s.judge a ⟨0, a, .heat v rate tf tr, st⟩ = .good (.heat i) (.heat v rate tf tr) := by
  have good := State.judge_good (s := s) (a := a) (r := ⟨0, a, .heat v rate tf tr, st⟩) rfl rfl (by rw [role]; simp)
    (by rw [role]; rfl) sound
    (by simp [Reading.inRange, tempInRange, Config.volumeModulus, *])
  rwa [role] at good

theorem State.deliver_heat (s : State) (a : Nat) (returned : Bool) (i : Fin 64) (v rate : Nat) (tf tr : Int) :
    s.deliver a returned (.heat i) (.heat v rate tf tr) = s.takeHeat i ⟨v, tf, tr, s.now⟩ := rfl

theorem State.takeHeat_of_ignored {s : State} {i : Fin 64} {a : Account} {r : HeatReading} (account : s.account i = some a)
    (h : a.takeReading r (s.ae.coverage.get a.zone) = none) : s.takeHeat i r = s := by
  unfold State.takeHeat
  simp only [account, h]

theorem State.takeHeat_of_taken {s : State} {i : Fin 64} {a b : Account} {r : HeatReading} {marked : Bool}
    (account : s.account i = some a) (h : a.takeReading r (s.ae.coverage.get a.zone) = some (b, marked)) :
    s.takeHeat i r = (s.writeAccount i (some b)).raiseIf marked .accountEvent := by
  unfold State.takeHeat
  simp only [account, h]

/-- What a heat report makes of the part, once it is known what it makes of the account. -/
structure State.Metered (s t : State) (i : Fin 64) (b : Account) (marked : Bool) : Prop where
  rest : t = { s with
    flc := t.flc
    hau := { s.hau with accounts := t.hau.accounts }
    store := { s.store with accounts := t.store.accounts }
    fs := { s.fs with alerts := t.fs.alerts } }
  line : t.flc = s.heardGood.flc
  others : ∀ j, j ≠ i → t.account j = s.account j ∧ t.store.accounts[j] = s.store.accounts[j]
  account : t.account i = some b
  record : t.store.accounts[i] = ⟨storedAccount (t.account i), true⟩
  alerts : t.fs.alerts = if marked = true then s.fs.alerts ||| 0x040#12 else s.fs.alerts
  quiet : marked = false → t.fs = s.fs

theorem State.heardGood_account (s : State) (i : Fin 64) : s.heardGood.account i = s.account i :=
  State.account_of_accounts (by simp) i

theorem State.metered (s : State) (i : Fin 64) (b : Account) (marked : Bool) :
    s.Metered ((s.heardGood.writeAccount i (some b)).raiseIf marked .accountEvent) i b marked := by
  have raised (j : Fin 64) : ((s.heardGood.writeAccount i (some b)).raiseIf marked .accountEvent).account j =
      if i = j then some b else s.account j := by
    rw [State.account_of_accounts (s := s.heardGood.writeAccount i (some b)) (by simp), State.account_writeAccount,
      State.heardGood_account]
  have records (j : Fin 64) :
      ((s.heardGood.writeAccount i (some b)).raiseIf marked .accountEvent).accountRecord j =
      if i = j then ⟨storedAccount (some b), true⟩ else s.accountRecord j := by
    rw [State.accountRecord_congr (s := s.heardGood.writeAccount i (some b)) (by simp),
      State.accountRecord_writeAccount, State.accountRecord_congr (s := s) (by simp)]
  refine ⟨?_, by simp, fun j hj => ⟨(raised j).trans (if_neg (Ne.symm hj)), (records j).trans (if_neg (Ne.symm hj))⟩,
    (raised i).trans (if_pos rfl), ?_, ?_, fun quiet => ?_⟩
  · rw [State.heardGood_eq]
    cases marked <;> rfl
  · rw [(raised i).trans (if_pos rfl)]
    exact (records i).trans (if_pos rfl)
  · rw [State.heardGood_eq]
    cases marked <;> rfl
  · rw [State.heardGood_eq, quiet]
    rfl

theorem EnergyBand.overflows_iff (b : EnergyBand) (wh : Nat) :
    bandOverflows b wh = true ↔ 999999999999 < EnergyBand.content b + wh := decide_eq_true_iff

/-- Billing sets a mark when the flow is colder than the return or a band withholds something (R120, R122). -/
theorem Account.billMarks_iff (a : Account) (r : HeatReading) (base : Baseline) (c : Nat) :
    a.billMarks r base c = true ↔ r.flowTemp < r.returnTemp ∨
      999999999999 < EnergyBand.content a.recovered + a.energy r base / 100000 * c / 1000 ∨
      999999999999 < EnergyBand.content a.fired + (a.energy r base / 100000 - a.energy r base / 100000 * c / 1000) := by
  unfold Account.billMarks
  dsimp only
  rw [Bool.or_eq_true, Bool.or_eq_true, EnergyBand.overflows_iff, EnergyBand.overflows_iff, HeatReading.reversed,
    decide_eq_true_iff, or_assoc]
  rfl

/-- An account that counts a GAP is rejected as the others are (R119). -/
theorem Account.rejected_gapCounted (a : Account) : a.gapCounted.rejected = { a.gapCounted with
    implausibles := min 255 (a.implausibles + 1), marks := { a.marks with implausible := true } } := by
  unfold Account.rejected Account.gapCounted
  split <;> rfl

/-- Settles O53: by whether the account ignores the reading, is CLOSING, or lives. -/
theorem heatReportIsBilled : Obligations.HeatReportIsBilled := by
  intro s p v rate tf tr st i a await one small role account read sound hv hrate lowFlow highFlow lowReturn highReturn
  have hexec := exec_reportComplete_good await read
    (State.judge_heat role sound hv hrate lowFlow highFlow lowReturn highReturn)
  rw [State.deliver_heat, show s.heardGood.now = s.now by simp] at hexec
  have haccount : s.heardGood.account i = some a := (s.heardGood_account i).trans account
  have hcoverage : s.heardGood.ae.coverage.get a.zone = s.ae.coverage.get a.zone := by simp
  by_cases ignored : a.damaged = true ∨ a.state = .final
  case pos =>
    have no {P : Prop} (whole : a.damaged = false) (going : a.state ≠ .final) : P :=
      absurd ignored (by rw [whole]; simp [going])
    rw [State.takeHeat_of_ignored haccount (a.takeReading_ignored ignored _ _)] at hexec
    refine ⟨_, hexec, ?_, State.heardGood_lineAfter one small rfl, fun j _ => ⟨s.heardGood_account j, by simp⟩,
      fun whole closing => no whole (by rw [closing]; decide), fun _ => ⟨haccount, by simp, by simp⟩,
      fun whole going => no whole going, fun whole going => no whole going, fun whole going => no whole going,
      fun _ _ whole going => no whole going⟩
    rw [State.heardGood_eq]
  case neg =>
    obtain ⟨whole, going⟩ := not_or.1 ignored
    rw [Bool.not_eq_true] at whole
    by_cases closing : a.state = .closing
    case pos =>
      have taken := Account.takeReading_closing whole ⟨v, tf, tr, s.now⟩ (s.ae.coverage.get a.zone) closing
      rw [State.takeHeat_of_taken haccount (by rw [hcoverage]; exact taken)] at hexec
      obtain ⟨rest, line, others, became, record, alerts, -⟩ :=
        s.metered i (a.closedWith ⟨v, tf, tr, s.now⟩ (s.ae.coverage.get a.zone)) true
      refine ⟨_, hexec, rest, State.heardGood_lineAfter one small line, others, fun _ _ => alerts,
        fun k => absurd k ignored, fun _ _ => record, fun _ _ k => absurd closing k, fun _ _ none_ => ?_,
        fun base hbase _ _ => ⟨fun plausible _ => ?_, fun _ k => absurd closing k, fun implausible => ⟨?_, alerts⟩⟩⟩
      · refine became.trans ?_
        rw [Account.closedWith_first _ none_, if_pos closing]
      · refine became.trans ?_
        rw [Account.closedWith_plausible _ hbase ((a.plausible_iff _ base).2 plausible), Account.gapCounted_eq]
      · refine became.trans ?_
        rw [Account.closedWith_implausible _ hbase fun k => implausible ((a.plausible_iff _ base).1 k), if_pos closing,
          Account.rejected_gapCounted, ← Account.gapCounted_eq, ← closing, ← a.gapCounted_state]
    case neg =>
      have live : a.state = .opened ∨ a.state = .holding := by
        cases k : a.state with
        | opened => exact .inl rfl
        | holding => exact .inr rfl
        | closing => exact absurd k closing
        | final => exact absurd k going
      have taken := Account.takeReading_live whole ⟨v, tf, tr, s.now⟩ (s.ae.coverage.get a.zone) live
      rw [State.takeHeat_of_taken haccount (by rw [hcoverage]; exact taken)] at hexec
      obtain ⟨rest, line, others, became, record, alerts, quiet⟩ := s.metered i
        (a.readWith ⟨v, tf, tr, s.now⟩ (s.ae.coverage.get a.zone)).1
        (a.readWith ⟨v, tf, tr, s.now⟩ (s.ae.coverage.get a.zone)).2
      refine ⟨_, hexec, rest, State.heardGood_lineAfter one small line, others, fun _ k => absurd k closing,
        fun k => absurd k ignored, fun _ _ => record, fun _ _ _ none_ => quiet ?_, fun _ _ none_ => ?_,
        fun base hbase _ _ => ⟨fun _ k => absurd k closing, fun plausible _ => ⟨?_, ?_⟩, fun implausible => ⟨?_, ?_⟩⟩⟩
      · rw [Account.readWith_first _ none_]
      · refine became.trans ?_
        rw [Account.readWith_first _ none_, if_neg closing]
        rfl
      · refine became.trans ?_
        rw [Account.readWith_plausible _ hbase ((a.plausible_iff _ base).2 plausible), Account.gapCounted_eq]
      · refine alerts.trans ?_
        rw [Account.readWith_plausible _ hbase ((a.plausible_iff _ base).2 plausible)]
        exact if_congr (Account.billMarks_iff _ _ _ _) rfl rfl
      · refine became.trans ?_
        rw [Account.readWith_implausible _ hbase fun k => implausible ((a.plausible_iff _ base).1 k), if_neg closing,
          Account.rejected_gapCounted, Account.gapCounted_eq]
      · refine alerts.trans ?_
        rw [Account.readWith_implausible _ hbase fun k => implausible ((a.plausible_iff _ base).1 k)]
        exact if_pos rfl

end Sys2Proof.Machine
end

section
/-! PROOF. The settlement commands (R140 to R142) and the meter report (R143 to R145). -/

namespace Sys2Proof.Machine

/-! ## START SETTLEMENT, DECLARE and STOP SETTLEMENT -/

theorem State.meterIsSilent_eq (s : State) : s.meterIsSilent =
    decide (s.settings.roles.export_ = 0 ∨ (s.station s.settings.roles.export_).state = .stale) := by
  unfold State.meterIsSilent State.isStale
  by_cases none_ : s.settings.roles.export_ = 0
  · simp [none_]
  · cases (s.station s.settings.roles.export_).state <;> simp [none_]

/-- START SETTLEMENT that passes its checks opens the period of its declaration (R140). -/
theorem startSettlementCommand_of_ready {s : State} (linked : s.cl.standalone = false) {n d o : Nat} (hn : n < 4294967296)
    (hd : d ≤ 2000000) (ho : o < s.settings.periodLength) (short : o < 65536) (idle : s.esu.current = none) :
    startSettlementCommand (beBytes 4 n ++ beBytes 3 d ++ beBytes 2 o) s =
      State.ok { s with esu := { s.esu with
        baseline := none
        silent := s.meterIsSilent
        current := some (Period.opening n d (s.now - BitVec.ofNat 32 (o * 1000)) s.settings.periodLength
          s.meterIsSilent false)
        timer := some (Period.opening n d (s.now - BitVec.ofNat 32 (o * 1000)) s.settings.periodLength
          s.meterIsSilent false).ends } } [] := by
  have range : ¬ (2000000 < d ∨ s.settings.periodLength ≤ o) := by omega
  have split : splitFields [4, 3, 2] (beBytes 4 n ++ beBytes 3 d ++ beBytes 2 o) = some [n, d, o] := by
    rw [splitFields_startSettlement, Nat.mod_eq_of_lt hn, Nat.mod_eq_of_lt (by omega : d < 16777216), Nat.mod_eq_of_lt short]
  unfold startSettlementCommand
  simp only [split, if_neg range, idle, linked, Option.isSome_none, Bool.false_eq_true, if_false]

theorem declareCommand_eq {s : State} {n d : Nat} (hn : n < 4294967296) (hd : d ≤ 2000000) :
    declareCommand (beBytes 4 n ++ beBytes 3 d) s = if s.esu.current.isNone = true then s.refuse .wrongState
      else State.ok { s with esu := { s.esu with next := some ⟨n, d⟩ } } [] := by
  have hd' : d < 16777216 := by omega
  have split : splitFields [4, 3] (beBytes 4 n ++ beBytes 3 d) = some [n, d] := by
    simp only [splitFields_join, splitFields_single, Option.map_some, Nat.reducePow, Nat.mod_eq_of_lt, *]
  unfold declareCommand
  simp only [split, if_neg (Nat.not_lt.2 hd)]

/-- The part in IDLE, before the boosts are zeroed (R142). -/
def State.unsettled (s : State) : State :=
  { s with esu := { s.esu with baseline := none, current := none, timer := none, next := none } }

theorem stopSettlementCommand_eq (s : State) : stopSettlementCommand s =
    if s.esu.current.isNone = true then s.ok [] else s.unsettled.zeroBoosts.ok [] := rfl

theorem State.zeroBoosts_eq (s : State) :
    s.zeroBoosts = { s with ot := { s.ot with entries := s.zeroBoosts.ot.entries } } := rfl

/-- Settles O56: each command passes its checks by the current period. -/
theorem settlementCommands : Obligations.SettlementCommands := by
  intro s n d o h hn hd short
  have running (k : s.esu.current.isSome = true) : ¬ s.frameTaken.esu.current.isNone = true := by
    obtain ⟨p, hp⟩ := Option.isSome_iff_exists.1 k
    simp [hp]
  have idle (k : s.esu.current = none) : s.frameTaken.esu.current.isNone = true := by simp [k]
  refine ⟨fun none_ ho => ?_, fun some_ => ?_, fun none_ => ?_, fun some_ boosts => ?_, fun none_ => ?_⟩
  · intro silent start
    have hown := startSettlementCommand_of_ready (s := s.frameTaken) (by simpa using h.2) hn hd (by simpa using ho) short
      (by simpa using none_)
    have hsilent : s.frameTaken.meterIsSilent = silent := by
      rw [State.frameTaken_meterIsSilent, State.meterIsSilent_eq]
    rw [hsilent] at hown
    refine (congrArg _ (State.takeFrame_of_answer h.1 hown (by simp))).trans ?_
    rw [State.frameTaken_eq]
    rfl
  · have hown := declareCommand_eq (s := s.frameTaken) hn hd
    rw [if_neg (running some_)] at hown
    refine (congrArg _ (State.takeFrame_gated_of_answer h hown (by simp))).trans ?_
    rw [State.frameTaken_eq]
    rfl
  · have hown := declareCommand_eq (s := s.frameTaken) hn hd
    rw [if_pos (idle none_)] at hown
    exact congrArg _ (State.takeFrame_gated_of_reply h hown)
  · have hown := stopSettlementCommand_eq s.frameTaken
    rw [if_neg (running some_)] at hown
    have entry (i : Fin 48) : s.frameTaken.unsettled.entry i = s.entry i := s.frameTaken_entry i
    have range : s.frameTaken.unsettled.BoostsInRange := fun i e he => by
      have settings : s.frameTaken.unsettled.settings = s.settings := by simp [State.unsettled]
      rw [settings]
      exact boosts i e (entry i ▸ he)
    refine ⟨_, congrArg Host.Outcome.next (State.takeFrame_gated_bare_nil_of_answer h hown ?_), ?_,
      fun i => (range.zeroed i).trans (by rw [entry])⟩
    · rw [State.zeroBoosts_eq]
      exact s.frameTaken_cl
    · rw [State.zeroBoosts_eq, State.frameTaken_eq]
      rfl
  · have hown := stopSettlementCommand_eq s.frameTaken
    rw [if_pos (idle none_)] at hown
    exact congrArg _ (State.takeFrame_gated_of_reply h (own := bare [] stopSettlementCommand) hown)

/-! ## The meter report (R143 to R145) -/

theorem State.judge_export {s : State} {a register : Nat} {st : Byte} (role : s.role a = .export_)
    (sound : st.getLsbD 0 = false) (range : register < 1000000000) :
    s.judge a ⟨0, a, .export_ register, st⟩ = .good .export_ (.export_ register) := by
  have good := State.judge_good (s := s) (a := a) (r := ⟨0, a, .export_ register, st⟩) rfl rfl (by rw [role]; simp)
    (by rw [role]; rfl) sound (by simp [Reading.inRange, Config.registerModulus, range])
  rwa [role] at good

theorem State.deliver_export (s : State) (a : Nat) (returned : Bool) (register : Nat) :
    s.deliver a returned .export_ (.export_ register) = s.takeExport a register := rfl

/-- The meter gives a reading, so it is not silent (R143). -/
def State.metering (s : State) : State := { s with esu := { s.esu with silent := false } }

theorem State.takeExport_idle {s : State} (h : s.esu.current = none) (a register : Nat) :
    s.takeExport a register = s.metering := by
  unfold State.takeExport State.metering
  dsimp only
  rw [h]

theorem State.takeExport_first {s : State} (running : s.esu.current.isSome = true) (h : s.esu.baseline = none)
    (a register : Nat) : s.takeExport a register = { s with esu := { s.esu with
      silent := false, baseline := some ⟨register, s.now⟩ } } := by
  obtain ⟨p, hp⟩ := Option.isSome_iff_exists.1 running
  unfold State.takeExport
  dsimp only
  rw [hp, h]

section
variable {s : State} {p : Period} {b : MeterBaseline} (hp : p ∈ s.esu.current) (hb : b ∈ s.esu.baseline)
  (a register : Nat)
include hp hb

theorem State.takeExport_of_baseline : s.takeExport a register =
    if meterLimit s.settings.exportLimit (elapsedMs s.now b.time) < meterDelta register b.register
    then s.metering.rejectReport a
    else State.projectPeriod { s with esu := { s.esu with silent := false, baseline := some ⟨register, s.now⟩ } }
      { p with delivered := min Config.maxDelivered (p.delivered + meterDelta register b.register) } := by
  unfold State.takeExport State.metering
  dsimp only
  rw [Option.mem_def.1 hp, Option.mem_def.1 hb]

end

theorem State.projectPeriod_eq (s : State) (p : Period) : s.projectPeriod p = { s with
    esu := { s.esu with current := some { p with projection := some (p.projected s.ae.exportEstimate s.now) } }
    ot := { s.ot with entries := (s.projectPeriod p).ot.entries } } := by
  unfold State.projectPeriod
  dsimp only
  split <;> rfl

/-- The boost an entry has after a projection: stepped by the shortfall, not in standalone operation (R145). -/
def State.steppedBoost (s : State) (p : Period) (x : Offtake) : Nat :=
  if s.cl.standalone = false ∧ x.use.isPower = true ∧ x.takesPart = true
  then boostStep (declaredWh p.declared - p.projected s.ae.exportEstimate s.now)
    (toleranceWh p.declared s.settings.tolerance) s.settings.boostStep s.settings.boostMax x.boost
  else x.boost

theorem State.projectPeriod_entry (s : State) (p : Period) (i : Fin 48) :
    (s.projectPeriod p).entry i = (s.entry i).map fun x => { x with boost := s.steppedBoost p x } := by
  unfold State.projectPeriod State.steppedBoost
  dsimp only
  cases alone : s.cl.standalone with
  | true =>
    rw [if_pos rfl]
    simp [State.entry]
  | false =>
    rw [if_neg (by decide), State.mapBoosts_entry]
    refine congrArg (Option.map · (s.entry i)) (funext fun x => ?_)
    unfold Offtake.boosted
    simp only [Bool.and_eq_true, true_and]
    split <;> rfl

theorem State.setStation_setStation (s : State) (a : Nat) (r r' : StationRecord) :
    (s.setStation a r).setStation a r' = s.setStation a r' := by
  unfold State.setStation
  split <;> simp [setAt]

theorem State.setStation_flc_congr {s t : State} (h : t.flc = s.flc) (a : Nat) (r : StationRecord) :
    (t.setStation a r).flc = (s.setStation a r).flc := by
  unfold State.setStation
  split
  · rw [h]
  · exact h

theorem State.heardGood_station {s : State} (one : 1 ≤ s.flc.queried) (small : s.flc.queried ≤ 127) :
    s.heardGood.station s.flc.queried = (s.station s.flc.queried).answered .good s.now :=
  State.station_setStation_self s.beginGap _ ⟨one, small⟩

/-- A report rejected by its meter is an error of the station (R144). -/
theorem State.rejectReport_flc {s : State} (one : 1 ≤ s.flc.queried) (small : s.flc.queried ≤ 127) :
    (s.heardGood.metering.rejectReport s.flc.queried).flc = (s.heard { s.station s.flc.queried with
      state := .live, misses := 0, last := .good, lastGood := some s.now
      errors := min 255 ((s.station s.flc.queried).errors + 1) }).flc := by
  have station : s.heardGood.metering.station s.flc.queried = (s.station s.flc.queried).answered .good s.now :=
    State.heardGood_station one small
  unfold State.rejectReport
  rw [station]
  refine (State.setStation_flc_congr (s := s.heardGood) (t := s.heardGood.metering) rfl _ _).trans ?_
  exact congrArg State.flc (State.setStation_setStation s.beginGap s.flc.queried _ _)

theorem State.rejectReport_eq (s : State) (a : Nat) :
    s.rejectReport a = { s with flc := (s.rejectReport a).flc } := by
  unfold State.rejectReport
  rw [State.setStation_eq]

/-- Settles O58: by the current period and the baseline. -/
theorem exportReportIsCredited : Obligations.ExportReportIsCredited := by
  intro s p register st await one small role read sound range good
  have hexec := exec_reportComplete_good await read (State.judge_export role sound range)
  rw [State.deliver_export] at hexec
  have esu : s.heardGood.esu = s.esu := by simp
  cases hcurrent : s.esu.current with
  | none =>
    rw [State.takeExport_idle (esu ▸ hcurrent)] at hexec
    refine ⟨_, hexec, ?_, fun _ => State.heardGood_lineAfter one small rfl, fun _ => ⟨by rw [State.metering, esu], ?_⟩,
      nofun, nofun⟩
    · rw [State.heardGood_eq]; rfl
    · rw [State.heardGood_eq]; rfl
  | some c =>
    cases hbase : s.esu.baseline with
    | none =>
      rw [State.takeExport_first (by rw [esu, hcurrent]; rfl) (esu ▸ hbase)] at hexec
      refine ⟨_, hexec, ?_, fun _ => State.heardGood_lineAfter one small rfl, nofun, fun _ _ => ⟨?_, ?_⟩, fun _ _ => nofun⟩
      · rw [State.heardGood_eq]
      · rw [State.heardGood_eq]
      · rw [State.heardGood_eq]
    | some b =>
      have taken := State.takeExport_of_baseline (s := s.heardGood) (esu ▸ hcurrent : c ∈ s.heardGood.esu.current)
        (esu ▸ hbase : b ∈ s.heardGood.esu.baseline) s.flc.queried register
      have same : s.heardGood.settings = s.settings ∧ s.heardGood.now = s.now := by simp
      rw [same.1, same.2] at taken
      by_cases far : meterLimit s.settings.exportLimit (elapsedMs s.now b.time) < meterDelta register b.register
      · rw [if_pos far] at taken
        rw [taken] at hexec
        refine ⟨_, hexec, ?_, ?_, nofun, fun _ => nofun, fun c' hc b' hb => ?_⟩
        · rw [State.rejectReport_eq, State.heardGood_eq]; rfl
        · rintro (k | k) <;> cases k
        · obtain rfl : c = c' := Option.some.inj hc
          obtain rfl : b = b' := Option.some.inj hb
          refine ⟨fun _ => ⟨?_, ?_, .of_flc one small (State.rejectReport_flc one small)⟩,
            fun near => absurd far (Nat.not_lt.2 near)⟩
          · rw [State.rejectReport_eq, State.heardGood_eq]; rfl
          · rw [State.rejectReport_eq, State.heardGood_eq]; rfl
      · rw [if_neg far] at taken
        rw [taken] at hexec
        refine ⟨_, hexec, ?_, ?_, nofun, fun _ => nofun, fun c' hc b' hb => ?_⟩
        · rw [State.projectPeriod_eq, State.heardGood_eq]
        · rintro (k | k) <;> cases k
        · obtain rfl : c = c' := Option.some.inj hc
          obtain rfl : b = b' := Option.some.inj hb
          refine ⟨fun beyond => absurd beyond far, fun _ => ⟨State.heardGood_lineAfter one small ?_, ?_, fun i => ?_⟩⟩
          · rw [State.projectPeriod_eq]
          · rw [State.projectPeriod_eq, State.heardGood_eq]; rfl
          · rw [State.projectPeriod_entry, State.heardGood_eq]; rfl

end Sys2Proof.Machine
end

section
/-! PROOF. Start-up: what it loads from the store, and what it leaves live (R34, R46, R47, R70, R132, R137,
R171). -/

namespace Sys2Proof.Machine

/-! ## The loads after the accounts, and the end of start-up -/

/-- The last loads and the end of start-up, over the state in which both tables are loaded. -/
def State.concluded (u : State) : State := u.loadCloseNumber.loadFlare.placeRoles.startTimers

theorem State.loaded_eq (s : State) : s.loaded = s.accountsLoaded.concluded := rfl

theorem State.concluded_frame (u : State) :
    u.concluded.now = u.now ∧ u.concluded.settings = u.settings ∧ u.concluded.ot = u.ot ∧
    u.concluded.flc = u.flc ∧ u.concluded.nvs = u.nvs ∧
    u.concluded.hau.accounts = u.hau.accounts ∧ u.concluded.cl.resetCause = u.cl.resetCause ∧
    u.concluded.store.offtakes = u.store.offtakes ∧ u.concluded.store.accounts = u.store.accounts ∧
    u.concluded.store.counter = u.store.counter := by
  have closed : u.loadCloseNumber.hau.accounts = u.hau.accounts := by
    unfold State.loadCloseNumber; dsimp only; split <;> rfl
  unfold State.concluded
  simp [State.placeRoles, State.startTimers, closed]

/-- Start-up ends with the loads; polling alone follows. -/
theorem State.startUp_concluded (s : State) :
    s.startUp.now = s.accountsLoaded.concluded.now ∧
    s.startUp.settings = s.accountsLoaded.concluded.settings ∧ s.startUp.sm = s.accountsLoaded.concluded.sm ∧
    s.startUp.ot = s.accountsLoaded.concluded.ot ∧ s.startUp.ae = s.accountsLoaded.concluded.ae ∧
    s.startUp.fs = s.accountsLoaded.concluded.fs ∧ s.startUp.hau = s.accountsLoaded.concluded.hau ∧
    s.startUp.esu = s.accountsLoaded.concluded.esu ∧ s.startUp.cl = s.accountsLoaded.concluded.cl ∧
    s.startUp.nvs = s.accountsLoaded.concluded.nvs ∧ s.startUp.store = s.accountsLoaded.concluded.store := by
  rw [State.startUp_eq, State.loaded_eq]
  generalize s.accountsLoaded.concluded = u
  split <;> simp

/-- Under start-up the command that ends it loads the store. -/
theorem exec_startUpComplete {s t : State} (up : s.startingUp = true) (h : exec .startUpComplete s = .next t) :
    t = s.startUp := by
  have runs : exec .startUpComplete s = .next (if s.startingUp then s.startUp else s) := rfl
  rw [runs, if_pos up] at h
  exact (Host.Outcome.next.inj h).symm

theorem State.loadCloseNumber_number (u : State) :
    u.loadCloseNumber.hau.closeNumber =
      (if u.store.closeNumber.good = true then u.store.closeNumber.value else 0) ∧
    (u.store.closeNumber.good = false → u.loadCloseNumber.store.closeNumber = ⟨0, true⟩ ∧
      u.loadCloseNumber.alert .recordDamaged = true) := by
  unfold State.loadCloseNumber
  cases good : u.store.closeNumber.good with
  | true => simp [good]
  | false => simp [good, State.alert_raise]

theorem State.loadFlare_totals (u : State) :
    u.loadFlare.ae.flareTotal = (if u.store.flare.good = true then u.store.flare.value.total else ⟨0, 0⟩) ∧
    u.loadFlare.ae.flareResidue =
      (if u.store.flare.good = true then u.store.flare.value.residue else ⟨0, 0⟩) ∧
    (u.store.flare.good = false → u.loadFlare.store.flare = ⟨⟨⟨0, 0⟩, ⟨0, 0⟩⟩, true⟩ ∧
      u.loadFlare.alert .recordDamaged = true) := by
  unfold State.loadFlare
  cases good : u.store.flare.good with
  | true => simp [good]
  | false => simp [good, State.alert_raise]

theorem State.loadFlare_alert (u : State) (f : AlertFlag) :
    u.loadFlare.alert f = (u.alert f || (!u.store.flare.good && decide (.recordDamaged = f))) := by
  unfold State.loadFlare
  cases good : u.store.flare.good with
  | true => simp [good, State.alert]
  | false =>
    simp only [good, Bool.false_eq_true, if_false, Bool.not_false, Bool.true_and]
    exact State.alert_raise _ _ _

theorem State.loadCloseNumber_alert (u : State) (f : AlertFlag) :
    u.loadCloseNumber.alert f = (u.alert f || (!u.store.closeNumber.good && decide (.recordDamaged = f))) := by
  unfold State.loadCloseNumber
  cases good : u.store.closeNumber.good with
  | true => simp [good, State.alert]
  | false =>
    simp only [good, Bool.false_eq_true, if_false, Bool.not_false, Bool.true_and]
    exact State.alert_raise _ _ _

/-! ## The offtake table -/

theorem State.loadFailingOfftakes_slot_of_good (is : List (Fin 48)) {s : State} {i : Fin 48}
    (good : (s.record i).good = true) : (is.foldl State.loadFailingOfftake s).entry i = s.entry i ∧
      (is.foldl State.loadFailingOfftake s).record i = s.record i := by
  induction is generalizing s with
  | nil => exact ⟨rfl, rfl⟩
  | cons k is ih =>
    have other : ¬ (k = i ∧ (s.record k).good = false) := by
      rintro ⟨rfl, bad⟩
      rw [good] at bad; cases bad
    have entry : (s.loadFailingOfftake k).entry i = s.entry i :=
      (s.entry_loadFailingOfftake k i).trans (if_neg other)
    have record : (s.loadFailingOfftake k).record i = s.record i :=
      (s.record_loadFailingOfftake k i).trans (if_neg other)
    rw [List.foldl_cons, (ih (record ▸ good)).1, (ih (record ▸ good)).2]
    exact ⟨entry, record⟩

/-- A slot whose record is good holds after the loads what the record gives; one stored ACTIVE is written
back as it loads (R47). -/
theorem State.loadOfftakes_slot_of_good {s : State} {i : Fin 48} (good : (s.record i).good = true) :
    s.loadOfftakes.entry i = StoredOfftake.reloaded (s.record i).value ∧
    s.loadOfftakes.record i = if (s.record i).value.state = 2
      then ⟨storedOfftake (StoredOfftake.reloaded (s.record i).value), true⟩ else s.record i := by
  obtain ⟨entry, record⟩ := State.loadGoodOfftakes_slot (List.nodup_finRange 48) s i
  have mem : i ∈ List.finRange 48 := List.mem_finRange i
  simp only [mem, good, true_and, if_true] at entry record
  have good' : ((slots48.foldl State.loadGoodOfftake s).record i).good = true := by
    refine (congrArg Checked.good record).trans ?_
    split
    · rfl
    · exact good
  have after := State.loadFailingOfftakes_slot_of_good slots48 good'
  unfold State.loadOfftakes
  rw [State.loadCounter_entry, State.loadCounter_record]
  exact ⟨after.1.trans entry, after.2.trans record⟩

theorem StoredOfftake.use_stored {e : Offtake} (legal : Use.legal e.use) : StoredOfftake.use e.stored = e.use := by
  unfold StoredOfftake.use Offtake.stored
  cases use : e.use with
  | works => rfl
  | steam => rfl
  | townHeat z => cases z <;> rfl
  | power y =>
    obtain ⟨low, high⟩ : 200 ≤ y ∧ y ≤ 500 := by rw [use] at legal; exact legal
    have kept : saturate 200 500 y = y := by unfold saturate; omega
    simp [Use.cls, OfftakeClass.code, OfftakeClass.ofCode, Use.yieldValue, kept]

theorem StoredOfftake.entry_stored {e : Offtake} (legal : e.legal) (st : OfftakeState) (d : Bool) :
    StoredOfftake.entry e.stored st d = { e with
      demand := e.fallback, boost := 0, grant := Grant.zero, state := st, damaged := d } := by
  obtain ⟨⟨n1, n2⟩, use, priority, accepted, floor, ceiling, fallback, s1, s2⟩ := legal
  unfold StoredOfftake.entry
  rw [StoredOfftake.use_stored use]
  have number : saturate 1 65535 e.number = e.number := by unfold saturate; omega
  have sequence : saturate 1 (Config.counterEnd - 1) e.sequence = e.sequence := by
    unfold saturate Config.counterEnd; omega
  have ceil : maxSat e.ceiling = e.ceiling := min_eq_right ceiling
  have fall : maxSat e.fallback = e.fallback := min_eq_right fallback
  have floor' : min e.ceiling (maxSat e.floor) = e.floor := by
    rw [show maxSat e.floor = e.floor from min_eq_right (floor.trans ceiling)]
    exact min_eq_right floor
  simp [Offtake.stored, number, sequence, ceil, fall, floor', accepted, priority]

/-- A legal entry comes back with its demand at its fallback, no boost and no grant, ACTIVE as PENDING
(R47). -/
theorem StoredOfftake.reloaded_stored {e : Offtake} (legal : e.legal) : StoredOfftake.reloaded e.stored = some { e with
    demand := e.fallback, boost := 0, grant := Grant.zero
    state := if e.state = .active then .pending else e.state } := by
  unfold StoredOfftake.reloaded
  simp only [StoredOfftake.entry_stored legal]
  unfold Offtake.stored
  cases e.state <;> rfl

/-! ## The account table -/

theorem State.loadFailingAccounts_slot_of_good (is : List (Fin 64)) {s : State} {i : Fin 64}
    (good : (s.accountRecord i).good = true) : (is.foldl State.loadFailingAccount s).account i = s.account i ∧
      (is.foldl State.loadFailingAccount s).accountRecord i = s.accountRecord i := by
  induction is generalizing s with
  | nil => exact ⟨rfl, rfl⟩
  | cons k is ih =>
    have other : ¬ (k = i ∧ (s.accountRecord k).good = false) := by
      rintro ⟨rfl, bad⟩
      rw [good] at bad; cases bad
    obtain ⟨account, record⟩ := s.account_loadFailingAccount k i
    rw [if_neg other] at account record
    rw [List.foldl_cons, (ih (record ▸ good)).1, (ih (record ▸ good)).2]
    exact ⟨account, record⟩

/-- The accounts of the good records, with the roles that yield to them (R132). -/
def State.goodAccounts (s : State) : State :=
  (slots64.foldl State.loadGoodAccount s.settled.loadOfftakes).yieldRoles

theorem State.accountsLoaded_eq (s : State) :
    s.accountsLoaded = slots64.foldl State.loadFailingAccount s.goodAccounts := rfl

theorem State.goodAccounts_slot (s : State) (i : Fin 64) :
    s.goodAccounts.account i = (if (s.accountRecord i).good = true
      then StoredAccount.reloaded (s.accountRecord i).value else s.account i) ∧
    s.goodAccounts.accountRecord i = s.accountRecord i := by
  have source : s.settled.loadOfftakes.accountRecord i = s.accountRecord i :=
    State.accountRecord_congr (by simp) i
  have before : s.settled.loadOfftakes.account i = s.account i := State.account_congr (by simp) i
  have slot := State.loadGoodAccounts_slot slots64 s.settled.loadOfftakes i
  rw [source, before] at slot
  unfold State.goodAccounts
  obtain ⟨hau, store, -⟩ := (slots64.foldl State.loadGoodAccount s.settled.loadOfftakes).yieldRoles_frame'
  refine ⟨(State.account_congr hau i).trans (slot.trans ?_), (State.accountRecord_congr ?_ i).trans source⟩
  · simp [slots64]
  · exact (congrArg Store.accounts store).trans
      (foldl_same (fun t : State => t.store.accounts) (by simp) _ _)

theorem State.startUp_account (s : State) (i : Fin 64) : s.startUp.account i = s.accountsLoaded.account i ∧
    s.startUp.accountRecord i = s.accountsLoaded.accountRecord i := by
  obtain ⟨accounts, records, -⟩ := s.startUp_accounts
  exact ⟨State.account_of_accounts accounts i, State.accountRecord_congr records i⟩

theorem State.startUp_account_of_good {s : State} {i : Fin 64} (good : (s.accountRecord i).good = true) :
    s.startUp.account i = StoredAccount.reloaded (s.accountRecord i).value := by
  obtain ⟨account, record⟩ := s.goodAccounts_slot i
  rw [if_pos good] at account
  rw [(s.startUp_account i).1, State.accountsLoaded_eq]
  generalize s.goodAccounts = u at account record
  have good' : (u.accountRecord i).good = true := (congrArg Checked.good record).trans good
  rw [(State.loadFailingAccounts_slot_of_good slots64 good').1, account]

/-- An account comes back whole but for its last reading time (R137). -/
theorem StoredAccount.reloaded_stored (a : Account) :
    StoredAccount.reloaded a.stored = some { a with lastReading := none } := by
  have state : AccountState.ofCode a.stored.state = some a.state := by
    unfold Account.stored; cases a.state <;> rfl
  have zone : (Zone.ofNumber a.stored.zone).getD .z1 = a.zone := by
    unfold Account.stored; cases a.zone <;> rfl
  unfold StoredAccount.reloaded
  rw [state, Option.map_some, StoredAccount.account, zone]
  rfl

/-! ## The close number and the flare record -/

theorem State.goodAccounts_stored (s : State) : s.goodAccounts.store.closeNumber = s.store.closeNumber ∧
    s.goodAccounts.store.flare = s.store.flare := by
  unfold State.goodAccounts
  rw [(State.yieldRoles_frame' _).2.1]
  exact ⟨(foldl_same (fun t : State => t.store.closeNumber) (by simp) _ _).trans (by simp),
    (foldl_same (fun t : State => t.store.flare) (by simp) _ _).trans (by simp)⟩

theorem State.accountsLoaded_stored (s : State) : s.accountsLoaded.store.closeNumber = s.store.closeNumber ∧
    s.accountsLoaded.store.flare = s.store.flare := by
  rw [State.accountsLoaded_eq]
  simp [s.goodAccounts_stored]

theorem State.startUp_closeNumber (s : State) :
    s.startUp.hau.closeNumber = (if s.store.closeNumber.good = true then s.store.closeNumber.value else 0) ∧
    (s.store.closeNumber.good = false → s.startUp.store.closeNumber = ⟨0, true⟩ ∧
      s.startUp.alert .recordDamaged = true) := by
  obtain ⟨-, -, -, -, -, fs, hau, -, -, -, store⟩ := s.startUp_concluded
  have item := s.accountsLoaded_stored.1
  have number := s.accountsLoaded.loadCloseNumber_number
  rw [item] at number
  generalize s.accountsLoaded = u at fs hau store number
  have late : u.concluded.hau = u.loadCloseNumber.hau ∧
      u.concluded.store.closeNumber = u.loadCloseNumber.store.closeNumber ∧
      u.concluded.fs.alerts = u.loadCloseNumber.loadFlare.fs.alerts := by
    unfold State.concluded
    simp [State.placeRoles, State.startTimers]
  refine ⟨?_, fun bad => ⟨?_, ?_⟩⟩
  · rw [hau, late.1]; exact number.1
  · rw [store, late.2.1]; exact (number.2 bad).1
  · rw [State.alert_of_alerts ((congrArg Supervisor.alerts fs).trans late.2.2)]
    rw [State.loadFlare_alert, (number.2 bad).2, Bool.true_or]

theorem State.startUp_flare (s : State) :
    s.startUp.ae.flareTotal = (if s.store.flare.good = true then s.store.flare.value.total else ⟨0, 0⟩) ∧
    s.startUp.ae.flareResidue = (if s.store.flare.good = true then s.store.flare.value.residue else ⟨0, 0⟩) ∧
    (s.store.flare.good = false → s.startUp.store.flare = ⟨⟨⟨0, 0⟩, ⟨0, 0⟩⟩, true⟩ ∧
      s.startUp.alert .recordDamaged = true) := by
  obtain ⟨-, -, -, -, ae, fs, -, -, -, -, store⟩ := s.startUp_concluded
  have item : s.accountsLoaded.loadCloseNumber.store.flare = s.store.flare := by
    simp [s.accountsLoaded_stored.2]
  have totals := s.accountsLoaded.loadCloseNumber.loadFlare_totals
  rw [item] at totals
  generalize s.accountsLoaded = u at ae fs store totals
  have late : u.concluded.ae.flareTotal = u.loadCloseNumber.loadFlare.ae.flareTotal ∧
      u.concluded.ae.flareResidue = u.loadCloseNumber.loadFlare.ae.flareResidue ∧
      u.concluded.store.flare = u.loadCloseNumber.loadFlare.store.flare ∧
      u.concluded.fs.alerts = u.loadCloseNumber.loadFlare.fs.alerts := ⟨rfl, rfl, rfl, rfl⟩
  obtain ⟨total, residue, failing⟩ := totals
  refine ⟨?_, ?_, fun bad => ⟨?_, ?_⟩⟩
  · rw [ae, late.1]; exact total
  · rw [ae, late.2.1]; exact residue
  · rw [store, late.2.2.1]; exact (failing bad).1
  · rw [State.alert_of_alerts ((congrArg Supervisor.alerts fs).trans late.2.2.2)]
    exact (failing bad).2

/-! ## Good records -/

theorem State.settled_record (s : State) (i : Fin 48) : s.settled.record i = s.record i :=
  State.record_congr (by simp) i

theorem State.startUp_offtake_of_good {s : State} {i : Fin 48} (good : (s.record i).good = true) :
    s.startUp.entry i = StoredOfftake.reloaded (s.record i).value ∧
    s.startUp.record i = if (s.record i).value.state = 2
      then ⟨storedOfftake (StoredOfftake.reloaded (s.record i).value), true⟩ else s.record i := by
  rw [State.startUp_entry, State.startUp_record]
  have slot := State.loadOfftakes_slot_of_good (s := s.settled) (i := i) (s.settled_record i ▸ good)
  rw [s.settled_record] at slot
  exact slot

/-- The record of a legal entry after start-up is the entry's own. -/
theorem State.startUp_record_of_legal {s : State} {i : Fin 48} {e : Offtake} (legal : e.legal)
    (stored : s.record i = ⟨e.stored, true⟩) :
    s.startUp.record i = ⟨storedOfftake (s.startUp.entry i), true⟩ := by
  obtain ⟨entry, record⟩ := State.startUp_offtake_of_good (i := i) (s := s) (by rw [stored])
  rw [record, entry, stored]
  split
  · rfl
  · next other =>
    have idle : e.state ≠ .active := fun h => other (congrArg OfftakeState.code h)
    rw [StoredOfftake.reloaded_stored legal, if_neg idle]
    rfl

/-- Settles O7: a good record is loaded once, and the loads of the failing ones leave its slot alone. -/
theorem goodRecordsReload : Obligations.GoodRecordsReload := by
  intro s t up h
  rw [exec_startUpComplete up h]
  have offtake (i : Fin 48) (r : StoredOfftake) (stored : s.store.offtakes[i] = ⟨r, true⟩) :
      s.startUp.entry i = StoredOfftake.reloaded r := by
    have record : s.record i = ⟨r, true⟩ := stored
    have slot := (State.startUp_offtake_of_good (s := s) (i := i) (by rw [record])).1
    rwa [record] at slot
  have account (i : Fin 64) (r : StoredAccount) (stored : s.store.accounts[i] = ⟨r, true⟩) :
      s.startUp.account i = StoredAccount.reloaded r := by
    have record : s.accountRecord i = ⟨r, true⟩ := stored
    have slot := State.startUp_account_of_good (s := s) (i := i) (by rw [record])
    rwa [record] at slot
  refine ⟨fun i e stored legal => ⟨?_, State.startUp_record_of_legal legal stored⟩, ?_, ?_, ?_, ?_, ?_⟩
  · exact (offtake i _ stored).trans (StoredOfftake.reloaded_stored legal)
  · exact fun i free => (offtake i _ free).trans (StoredOfftake.reloaded_eq_none.2 rfl)
  · exact fun i a stored => (account i _ stored).trans (StoredAccount.reloaded_stored a)
  · exact fun i free => account i _ free
  · exact fun good => s.startUp_closeNumber.1.trans (if_pos good)
  · exact fun good => ⟨s.startUp_flare.1.trans (if_pos good), s.startUp_flare.2.1.trans (if_pos good)⟩

end Sys2Proof.Machine
end

section
/-! PROOF. What start-up makes of a failing record (R34, R46, R70, R132). -/

namespace Sys2Proof.Machine

/-! ## Alerts of the loads -/

theorem State.loadFailingOfftake_alert (s : State) (i : Fin 48) (f : AlertFlag) :
    (s.loadFailingOfftake i).alert f = (s.alert f || (!(s.record i).good && decide (.recordDamaged = f))) := by
  rw [State.loadFailingOfftake_eq]
  cases good : (s.record i).good with
  | true => simp
  | false =>
    simp only [Bool.false_eq_true, if_false, Bool.not_false, Bool.true_and]
    exact State.alert_raise _ _ _

theorem State.loadFailingAccount_alert (s : State) (i : Fin 64) (f : AlertFlag) :
    (s.loadFailingAccount i).alert f = (s.alert f || (!(s.accountRecord i).good &&
      ((decide ((s.accountRecord i).value.state ≠ 0) && decide (.recordDamaged = f)) ||
        ((s.damagedAccount (s.accountRecord i).value).isSome && decide (.accountEvent = f))))) := by
  rw [State.loadFailingAccount_eq]
  cases good : (s.accountRecord i).good with
  | true => simp
  | false =>
    simp only [Bool.false_eq_true, if_false, Bool.not_false, Bool.true_and]
    rw [State.alert_raiseIf, State.alert_raiseIf, Bool.or_assoc]
    exact congrArg (· || _) (State.alert_of_alerts rfl f)

theorem State.loadCounter_alert (s : State) (f : AlertFlag) :
    s.loadCounter.alert f = (s.alert f || (!s.store.counter.good && decide (.recordDamaged = f))) := by
  unfold State.loadCounter
  cases good : s.store.counter.good with
  | true =>
    simp only [good, if_true, Bool.not_true, Bool.false_and, Bool.or_false]
    split <;> exact State.alert_of_alerts rfl f
  | false =>
    simp only [good, Bool.false_eq_true, if_false, Bool.not_false, Bool.true_and]
    exact State.alert_raise _ _ _

theorem State.concluded_alert (u : State) (f : AlertFlag) : u.concluded.alert f = (u.alert f ||
    ((!u.store.closeNumber.good || !u.store.flare.good) && decide (.recordDamaged = f))) := by
  have late : u.concluded.fs.alerts = u.loadCloseNumber.loadFlare.fs.alerts := rfl
  rw [State.alert_of_alerts late, State.loadFlare_alert, State.loadCloseNumber_alert, Bool.or_assoc,
    Bool.and_or_distrib_right]
  simp

theorem State.startUp_alert (s : State) (f : AlertFlag) : s.startUp.alert f = (s.accountsLoaded.alert f ||
    ((!s.store.closeNumber.good || !s.store.flare.good) && decide (.recordDamaged = f))) := by
  obtain ⟨-, -, -, -, -, fs, -⟩ := s.startUp_concluded
  rw [State.alert_of_alerts (congrArg Supervisor.alerts fs), State.concluded_alert]
  rw [s.accountsLoaded_stored.1, s.accountsLoaded_stored.2]

theorem State.goodAccounts_alert (s : State) (f : AlertFlag) :
    s.goodAccounts.alert f = s.settled.loadOfftakes.alert f :=
  State.alert_of_alerts (by unfold State.goodAccounts; simp) f

/-- A flag set by the time the offtakes are loaded stays set. -/
theorem State.startUp_alert_of_offtakes {s : State} {f : AlertFlag} (h : s.settled.loadOfftakes.alert f = true) :
    s.startUp.alert f = true := by
  rw [State.startUp_alert, State.accountsLoaded_eq]
  rw [← s.goodAccounts_alert] at h
  have kept := List.foldlRecOn (motive := fun u : State => u.alert f = true) slots64
    State.loadFailingAccount h fun u hu i _ => by rw [State.loadFailingAccount_alert, hu, Bool.true_or]
  rw [kept, Bool.true_or]

/-! ## The one failing offtake record -/

theorem State.loadFailingOfftakes_of_good {is : List (Fin 48)} {s : State}
    (good : ∀ i ∈ is, (s.record i).good = true) : is.foldl State.loadFailingOfftake s = s := by
  induction is with
  | nil => rfl
  | cons i is ih =>
    rw [List.foldl_cons, State.loadFailingOfftake_of_good (good i List.mem_cons_self)]
    exact ih fun j hj => good j (List.mem_cons_of_mem _ hj)

theorem State.loadFailingOfftakes_single {is : List (Fin 48)} (unique : is.Nodup) {s : State} {i : Fin 48}
    (mem : i ∈ is) (others : ∀ j, j ≠ i → (s.record j).good = true) :
    is.foldl State.loadFailingOfftake s = s.loadFailingOfftake i := by
  induction is with
  | nil => cases mem
  | cons k is ih =>
    obtain ⟨fresh, unique⟩ := List.nodup_cons.1 unique
    rw [List.foldl_cons]
    by_cases here : k = i
    · subst here
      refine State.loadFailingOfftakes_of_good fun j hj => ?_
      have other : j ≠ k := fun h => fresh (h ▸ hj)
      rw [State.record_loadFailingOfftake, if_neg fun h => other h.1.symm]
      exact others j other
    · rw [State.loadFailingOfftake_of_good (others k here)]
      exact ih unique ((List.mem_cons.1 mem).resolve_left (Ne.symm here))

/-- With a table that is FREE otherwise, the offtakes loaded are those of the failing record. -/
theorem State.loadOfftakes_single {s : State} {i : Fin 48} {r : StoredOfftake} (blank : ∀ j, s.entry j = none)
    (failing : s.record i = ⟨r, false⟩) (others : ∀ j, j ≠ i → s.record j = ⟨StoredOfftake.free, true⟩) :
    ∃ g : State, s.loadOfftakes = (g.loadFailingOfftake i).loadCounter ∧ (∀ j, g.entry j = none) ∧
      g.record i = ⟨r, false⟩ := by
  have slot := State.loadGoodOfftakes_slot (List.nodup_finRange 48) s
  have entry (j : Fin 48) : (slots48.foldl State.loadGoodOfftake s).entry j = none := by
    refine (slot j).1.trans ?_
    by_cases here : j = i
    · rw [here, failing, blank]; simp
    · rw [others j here, blank]; simp [StoredOfftake.reloaded_eq_none.2 (show StoredOfftake.free.state = 0 from rfl)]
  have record (j : Fin 48) : (slots48.foldl State.loadGoodOfftake s).record j = s.record j := by
    refine (slot j).2.trans (if_neg fun h => ?_)
    by_cases here : j = i
    · rw [here, failing] at h; cases h.2.1
    · rw [others j here] at h; cases h.2.2
  refine ⟨_, ?_, entry, (record i).trans failing⟩
  unfold State.loadOfftakes
  rw [State.loadFailingOfftakes_single (is := slots48) (List.nodup_finRange 48) (List.mem_finRange i)]
  intro j other
  rw [record, others j other]

theorem State.damagedOfftake_of_blank {s : State} (blank : ∀ j, s.entry j = none) (r : StoredOfftake) :
    s.damagedOfftake r = if r.state = 0 ∨ r.number = 0 then none
      else some (StoredOfftake.entry r .suspended true) := by
  have unknown (n : Nat) : s.findOfftake n = none :=
    State.findOfftake_none.2 (.inr fun j e he => by rw [blank] at he; cases he)
  unfold State.damagedOfftake
  simp only [unknown]
  simp

theorem StoredOfftake.entry_sequence_lt (r : StoredOfftake) (st : OfftakeState) (d : Bool) :
    (StoredOfftake.entry r st d).sequence < Config.counterEnd := by
  unfold StoredOfftake.entry saturate Config.counterEnd
  dsimp only
  omega

/-- The use of a failing record, by its class code (R34). -/
theorem StoredOfftake.use_eq (r : StoredOfftake) : StoredOfftake.use r = match r.cls with
    | 0 => .works
    | 1 => .steam
    | 2 => .townHeat (if r.zone ≤ 1 then .z1 else if r.zone = 2 then .z2
        else if r.zone = 3 then .z3 else .z4)
    | _ => .power (max 200 (min 500 r.yield)) := by
  unfold StoredOfftake.use
  rcases r.cls with _ | _ | _ | _ | n
  · rfl
  · rfl
  · have zone : (Zone.ofNumber (saturate 1 4 r.zone)).getD .z4 =
        if r.zone ≤ 1 then .z1 else if r.zone = 2 then .z2 else if r.zone = 3 then .z3 else .z4 := by
      rcases r.zone with _ | _ | _ | _ | n
      · rfl
      · rfl
      · rfl
      · rfl
      · rw [show saturate 1 4 (n + 4) = 4 by unfold saturate; omega, if_neg (by omega), if_neg (by omega),
          if_neg (by omega)]
        rfl
    exact congrArg Use.townHeat zone
  · rfl
  · rfl

theorem State.settled_entry (s : State) (i : Fin 48) : s.settled.entry i = s.entry i := by simp [State.entry]

/-- The one failing record of a table that is FREE otherwise, as it loads (R34). -/
theorem State.startUp_offtake_single {s : State} {i : Fin 48} {r : StoredOfftake} (blank : ∀ j, s.entry j = none)
    (failing : s.record i = ⟨r, false⟩) (others : ∀ j, j ≠ i → s.record j = ⟨StoredOfftake.free, true⟩) :
    s.startUp.entry i = (if r.state = 0 ∨ r.number = 0 then none
      else some (StoredOfftake.entry r .suspended true)) ∧
    s.startUp.record i = ⟨storedOfftake (s.startUp.entry i), true⟩ ∧
    s.startUp.alert .recordDamaged = true := by
  obtain ⟨g, loaded, free, record⟩ := State.loadOfftakes_single (s := s.settled)
    (fun j => (s.settled_entry j).trans (blank j)) ((s.settled_record i).trans failing)
    fun j other => (s.settled_record j).trans (others j other)
  have bad : (g.record i).good = false := by rw [record]
  have entry : s.startUp.entry i = g.damagedOfftake r := by
    rw [State.startUp_entry, loaded, State.loadCounter_entry, State.entry_loadFailingOfftake,
      if_pos ⟨rfl, bad⟩, record]
  refine ⟨entry.trans (State.damagedOfftake_of_blank free r), ?_, State.startUp_alert_of_offtakes ?_⟩
  · rw [entry, State.startUp_record, loaded, State.loadCounter_record, State.record_loadFailingOfftake,
      if_pos ⟨rfl, bad⟩, record]
  · rw [loaded, State.loadCounter_alert, State.loadFailingOfftake_alert, bad]
    simp

/-! ## The sequence counter -/

/-- Every entry numbered below the counter's end. -/
def State.SequencesBelow (s : State) : Prop := ∀ i, ∀ e ∈ s.entry i, e.sequence < Config.counterEnd

theorem State.SequencesBelow.loadGood {s : State} (h : s.SequencesBelow) (i : Fin 48) :
    (s.loadGoodOfftake i).SequencesBelow := by
  intro j e he
  rw [State.entry_loadGoodOfftake] at he
  split at he
  · obtain ⟨st, -, rfl⟩ := Option.map_eq_some_iff.1 he
    exact StoredOfftake.entry_sequence_lt _ _ _
  · exact h j e he

theorem State.SequencesBelow.loadFailing {s : State} (h : s.SequencesBelow) (i : Fin 48) :
    (s.loadFailingOfftake i).SequencesBelow := by
  intro j e he
  rw [State.entry_loadFailingOfftake] at he
  split at he
  · rw [(State.damagedOfftake_some he).1]
    exact StoredOfftake.entry_sequence_lt _ _ _
  · exact h j e he

/-- The counter raised past the entry of one slot. -/
def State.raisedAt (s : State) (c : Nat) (i : Fin 48) : Nat := (s.entry i).elim c fun e => raisePast c e.sequence

theorem State.counterPast_eq (s : State) (c : Nat) : s.counterPast c = slots48.foldl s.raisedAt c := by
  unfold State.counterPast
  congr 1
  funext c i
  unfold State.raisedAt
  cases s.entry i <;> rfl

/-- A raise goes past the entry, and no further than needed. -/
theorem raisePast_eq {c n : Nat} (below : n < Config.counterEnd) :
    raisePast c n = if c ≤ n then n + 1 else c := by
  unfold raisePast
  split
  · exact min_eq_right below
  · rfl

/-- The counter raised past the entries of `is` is past each of them, at `c` or above, and no further than
needed (R34). -/
theorem State.raisedAt_foldl {s : State} (below : s.SequencesBelow) (is : List (Fin 48)) (c : Nat) :
    c ≤ is.foldl s.raisedAt c ∧ (∀ i ∈ is, ∀ e ∈ s.entry i, e.sequence < is.foldl s.raisedAt c) ∧
      (is.foldl s.raisedAt c = c ∨ ∃ i, ∃ e ∈ s.entry i, is.foldl s.raisedAt c = e.sequence + 1) := by
  induction is generalizing c with
  | nil => exact ⟨le_rfl, by simp, .inl rfl⟩
  | cons i is ih =>
    rw [List.foldl_cons]
    obtain ⟨above, past, origin⟩ := ih (s.raisedAt c i)
    generalize is.foldl s.raisedAt (s.raisedAt c i) = n at above past origin
    cases entry : s.entry i with
    | none =>
      have same : s.raisedAt c i = c := by unfold State.raisedAt; rw [entry]; exact rfl
      rw [same] at above origin
      refine ⟨above, fun j hj e he => ?_, origin⟩
      rcases List.mem_cons.1 hj with rfl | hj
      · rw [entry] at he; cases he
      · exact past j hj e he
    | some e =>
      have raised : s.raisedAt c i = if c ≤ e.sequence then e.sequence + 1 else c := by
        rw [← raisePast_eq (below i e entry)]; unfold State.raisedAt; rw [entry]; exact rfl
      rw [raised] at above origin
      refine ⟨?_, fun j hj f hf => ?_, ?_⟩
      · split at above <;> omega
      · rcases List.mem_cons.1 hj with rfl | hj
        · obtain rfl : e = f := Option.some.inj (entry.symm.trans hf)
          split at above <;> omega
        · exact past j hj f hf
      · rcases origin with same | other
        · split at same
          · exact .inr ⟨i, e, entry, same⟩
          · exact .inl same
        · exact .inr other

/-- The counter that the last load leaves, live and stored (R34, R46). -/
theorem State.loadCounter_counter (s : State) :
    s.loadCounter.ot.counter = s.counterPast (if s.store.counter.good then s.store.counter.value else 1) ∧
    s.loadCounter.store.counter = ⟨s.loadCounter.ot.counter, true⟩ := by
  unfold State.loadCounter
  rcases item : s.store.counter with ⟨v, good⟩
  cases good with
  | true =>
    simp only [if_true]
    split
    · next same => exact ⟨same.symm ▸ rfl, item.trans (by rw [same])⟩
    · exact ⟨rfl, rfl⟩
  | false => exact ⟨rfl, rfl⟩

theorem State.goodAccounts_counter (s : State) :
    s.goodAccounts.store.counter = s.settled.loadOfftakes.store.counter := by
  unfold State.goodAccounts
  rw [(State.yieldRoles_frame' _).2.1]
  exact foldl_same (fun t : State => t.store.counter) (by simp) _ _

theorem State.startUp_counter (s : State) : s.startUp.ot.counter = s.settled.loadOfftakes.ot.counter ∧
    s.startUp.store.counter = s.settled.loadOfftakes.store.counter := by
  obtain ⟨-, -, -, ot, -, -, -, -, -, -, store⟩ := s.startUp_concluded
  obtain ⟨-, -, ot', -, -, -, -, -, -, counter⟩ := s.accountsLoaded.concluded_frame
  rw [ot, ot', store, counter, State.accountsLoaded_eq, (State.loadFailingAccounts_stored _ _).2.2.1,
    s.goodAccounts_counter]
  exact ⟨by unfold State.goodAccounts; simp, rfl⟩

theorem State.SequencesBelow.loadOfftakes {s : State} (h : s.SequencesBelow) : s.loadOfftakes.SequencesBelow := by
  have loaded := List.foldlRecOn (motive := State.SequencesBelow) slots48 State.loadFailingOfftake
    (List.foldlRecOn (motive := State.SequencesBelow) slots48 State.loadGoodOfftake h fun u hu i _ => hu.loadGood i)
    fun u hu i _ => hu.loadFailing i
  intro i e he
  unfold State.loadOfftakes at he
  rw [State.loadCounter_entry] at he
  exact loaded i e he

/-- After start-up from a blank table the counter is past every entry, at its item's value or above, live and
stored (R34, R46). -/
theorem State.startUp_counter_past {s : State} (blank : ∀ i, s.entry i = none) :
    s.startUp.store.counter = ⟨s.startUp.ot.counter, true⟩ ∧
    (if s.store.counter.good = true then s.store.counter.value else 1) ≤ s.startUp.ot.counter ∧
    (∀ i, ∀ e ∈ s.startUp.entry i, e.sequence < s.startUp.ot.counter) ∧
    (s.startUp.ot.counter = (if s.store.counter.good = true then s.store.counter.value else 1) ∨
      ∃ i, ∃ e ∈ s.startUp.entry i, s.startUp.ot.counter = e.sequence + 1) ∧
    (s.store.counter.good = false → s.startUp.alert .recordDamaged = true) := by
  simp only [s.startUp_counter.1, s.startUp_counter.2, s.startUp_entry]
  have blank' : s.settled.SequencesBelow := fun i e he => by rw [s.settled_entry, blank] at he; cases he
  obtain ⟨u, loaded, below, item⟩ : ∃ u : State, s.settled.loadOfftakes = u.loadCounter ∧ u.SequencesBelow ∧
      u.store.counter = s.store.counter :=
    ⟨_, rfl, fun i e he => blank'.loadOfftakes i e ((State.loadCounter_entry _ i).trans he), by simp⟩
  have alert : s.store.counter.good = false → u.loadCounter.alert .recordDamaged = true := fun bad => by
    rw [State.loadCounter_alert, item, bad]; simp
  obtain ⟨live, stored⟩ := u.loadCounter_counter
  obtain ⟨above, past, origin⟩ := State.raisedAt_foldl below slots48
    (if s.store.counter.good then s.store.counter.value else 1)
  rw [item, State.counterPast_eq] at live
  rw [← live] at above past origin
  refine ⟨?_, ?_, ?_, ?_, fun bad => State.startUp_alert_of_offtakes (loaded ▸ alert bad)⟩
  · rw [loaded]; exact stored
  · rw [loaded]; exact above
  · rw [loaded]
    intro i e he
    exact past i (List.mem_finRange i) e ((u.loadCounter_entry i).symm.trans he)
  · rw [loaded]
    exact origin.imp id fun ⟨i, e, he, next⟩ => ⟨i, e, (u.loadCounter_entry i).trans he, next⟩

/-! ## The one failing account record -/

theorem State.loadFailingAccount_of_good {s : State} {i : Fin 64} (good : (s.accountRecord i).good = true) :
    s.loadFailingAccount i = s := by rw [State.loadFailingAccount_eq, if_pos good]

theorem State.loadFailingAccounts_of_good {is : List (Fin 64)} {s : State}
    (good : ∀ i ∈ is, (s.accountRecord i).good = true) : is.foldl State.loadFailingAccount s = s := by
  induction is with
  | nil => rfl
  | cons i is ih =>
    rw [List.foldl_cons, State.loadFailingAccount_of_good (good i List.mem_cons_self)]
    exact ih fun j hj => good j (List.mem_cons_of_mem _ hj)

theorem State.loadFailingAccounts_single {is : List (Fin 64)} (unique : is.Nodup) {s : State} {i : Fin 64}
    (mem : i ∈ is) (others : ∀ j, j ≠ i → (s.accountRecord j).good = true) :
    is.foldl State.loadFailingAccount s = s.loadFailingAccount i := by
  induction is with
  | nil => cases mem
  | cons k is ih =>
    obtain ⟨fresh, unique⟩ := List.nodup_cons.1 unique
    rw [List.foldl_cons]
    by_cases here : k = i
    · subst here
      refine State.loadFailingAccounts_of_good fun j hj => ?_
      have other : j ≠ k := fun h => fresh (h ▸ hj)
      rw [(s.account_loadFailingAccount k j).2, if_neg fun h => other h.1.symm]
      exact others j other
    · rw [State.loadFailingAccount_of_good (others k here)]
      exact ih unique ((List.mem_cons.1 mem).resolve_left (Ne.symm here))

theorem State.findAccount_of_blank {s : State} (blank : ∀ j, s.account j = none) (n : Nat) :
    s.findAccount n = none := by
  cases found : s.findAccount n with
  | none => rfl
  | some p => exact absurd ((blank p.1).symm.trans (State.findAccount_some found).2.1) nofun

theorem State.isBound_of_blank {s : State} (blank : ∀ j, s.account j = none) (n : Nat) : s.isBound n = false := by
  rw [Bool.eq_false_iff]
  intro bound
  obtain ⟨-, i, a, ha, -⟩ := State.isBound_iff.1 bound
  exact absurd ((blank i).symm.trans ha) nofun

/-- Among no accounts a failing record loses its station only where that is no address or holds a role (R132). -/
theorem State.salvagedStation_of_blank {s : State} (blank : ∀ j, s.account j = none) (n : Nat) :
    s.salvagedStation n = if 127 < n ∨ n ∈ s.settings.roles.list then 0 else n := by
  unfold State.salvagedStation
  rw [State.isBound_of_blank blank]
  by_cases zero : n = 0
  · subst zero; simp
  · have holds : s.settings.roles.holds n = decide (n ∈ s.settings.roles.list) := by
      rw [Bool.eq_iff_iff, RoleAddresses.holds_iff, decide_eq_true_iff]
      exact and_iff_right zero
    simp [holds]

theorem State.damagedAccount_of_blank {s : State} (blank : ∀ j, s.account j = none) (r : StoredAccount) :
    s.damagedAccount r = if r.state = 0 ∨ r.number = 0 then none
      else some (StoredAccount.salvaged r (if 127 < r.station ∨ r.station ∈ s.settings.roles.list
        then 0 else r.station)) := by
  unfold State.damagedAccount
  rw [State.findAccount_of_blank blank, State.salvagedStation_of_blank blank]
  simp

theorem State.startUp_roles (s : State) : s.startUp.settings.roles = s.goodAccounts.settings.roles := by
  rw [s.startUp_accounts.2.2, State.accountsLoaded_eq]
  generalize s.goodAccounts = u
  simp

/-- The one failing account record of a table that is FREE otherwise, as it loads (R132). -/
theorem State.startUp_account_single {s : State} {i : Fin 64} {r : StoredAccount} (blank : ∀ j, s.account j = none)
    (failing : s.accountRecord i = ⟨r, false⟩)
    (others : ∀ j, j ≠ i → s.accountRecord j = ⟨StoredAccount.free, true⟩) :
    (∀ j, j ≠ i → s.startUp.account j = none) ∧
    s.startUp.account i = (if r.state = 0 ∨ r.number = 0 then none
      else some (StoredAccount.salvaged r (if 127 < r.station ∨ r.station ∈ s.startUp.settings.roles.list
        then 0 else r.station))) ∧
    s.startUp.accountRecord i = ⟨storedAccount (s.startUp.account i), true⟩ ∧
    (r.state ≠ 0 → s.startUp.alert .recordDamaged = true) ∧
    (r.state ≠ 0 → r.number ≠ 0 → s.startUp.alert .accountEvent = true) := by
  have account (j : Fin 64) : s.goodAccounts.account j = none := by
    rw [(s.goodAccounts_slot j).1, blank]
    by_cases here : j = i
    · rw [here, failing]; rfl
    · rw [others j here]; rfl
  have record : s.goodAccounts.accountRecord i = ⟨r, false⟩ := (s.goodAccounts_slot i).2.trans failing
  have single : s.accountsLoaded = s.goodAccounts.loadFailingAccount i := by
    rw [State.accountsLoaded_eq]
    refine State.loadFailingAccounts_single (List.nodup_finRange 64) (List.mem_finRange i) fun j other => ?_
    rw [(s.goodAccounts_slot j).2, others j other]
  have alert := s.startUp_alert
  rw [single] at alert
  have slot (j : Fin 64) := s.startUp_account j
  rw [single] at slot
  rw [s.startUp_roles]
  generalize s.startUp = t at alert slot ⊢
  generalize s.goodAccounts = g at account record alert slot ⊢
  have bad : (g.accountRecord i).good = false := by rw [record]
  have here : t.account i = g.damagedAccount r := by
    rw [(slot i).1, (g.account_loadFailingAccount i i).1, if_pos ⟨rfl, bad⟩, record]
  have loaded := State.damagedAccount_of_blank account r
  refine ⟨fun j other => ?_, here.trans loaded, ?_, fun inUse => ?_, fun inUse numbered => ?_⟩
  · rw [(slot j).1, (g.account_loadFailingAccount i j).1, if_neg fun h => other h.1.symm, account]
  · rw [here, (slot i).2, (g.account_loadFailingAccount i i).2, if_pos ⟨rfl, bad⟩, record]
  · rw [alert, State.loadFailingAccount_alert, record]
    simp [inUse]
  · rw [alert, State.loadFailingAccount_alert, record, loaded]
    simp [inUse, numbered]

theorem StoredOfftake.entry_of_failing (r : StoredOfftake) (numbered : r.number ≠ 0) :
    let e := StoredOfftake.entry r .suspended true
    e.number = min 65535 r.number ∧
    e.accepted = (if r.accepted.isEmpty = true then ⟨true, true, true⟩ else r.accepted) ∧
    e.ceiling = min 2000000 r.ceiling ∧ e.floor = min e.ceiling (min 2000000 r.floor) ∧
    e.fallback = min 2000000 r.fallback ∧ e.sequence = max 1 (min 4294967294 r.sequence) := by
  refine ⟨?_, rfl, rfl, rfl, rfl, rfl⟩
  unfold StoredOfftake.entry saturate
  dsimp only
  omega

/-- The zone of a failing account record, by its number (R132). -/
theorem zone_of_failing (n : Nat) : (Zone.ofNumber n).getD .z1 = match n with
    | 2 => .z2
    | 3 => .z3
    | 4 => .z4
    | _ => .z1 := by
  rcases n with _ | _ | _ | _ | _ | n <;> rfl

/-- Settles O8: the single failing record of each table, and each single item, followed through the loads. -/
theorem failingOfftakeRecordLoadsDamaged : Obligations.FailingOfftakeRecordLoadsDamaged := by
  refine ⟨fun s t i r up blank failing others h => ?_, fun s t i r up blank failing others h => ?_,
    fun s t up h => ?_⟩
  · have free (j : Fin 48) : s.entry j = none := State.entry_of_blank blank j
    obtain ⟨entry, record, alert⟩ := State.startUp_offtake_single free failing others
    obtain ⟨-, -, past, -⟩ := State.startUp_counter_past free
    rw [exec_startUpComplete up h]
    generalize s.startUp = t at entry record alert past ⊢
    refine ⟨alert, record, fun none_ => entry.trans (if_pos none_), fun inUse numbered => ?_⟩
    rw [if_neg (by simp [inUse, numbered])] at entry
    obtain ⟨number, accepted, ceiling, floor, fallback, sequence⟩ := StoredOfftake.entry_of_failing r numbered
    exact ⟨_, entry, rfl, rfl, number, rfl, StoredOfftake.use_eq r, accepted, ceiling, floor, fallback, rfl, rfl, rfl, sequence,
      past i _ entry⟩
  · obtain ⟨free, account, record, damaged, event⟩ := State.startUp_account_single blank failing others
    rw [exec_startUpComplete up h]
    generalize s.startUp = t at free account record damaged event ⊢
    refine ⟨free, record, fun none_ => account.trans (if_pos none_), damaged, fun inUse numbered =>
      ⟨event inUse numbered, ?_⟩⟩
    rw [if_neg (by simp [inUse, numbered])] at account
    refine account.trans (congrArg some ?_)
    unfold StoredAccount.salvaged
    rw [zone_of_failing]
    rfl
  · have closed := s.startUp_closeNumber
    have flare := s.startUp_flare
    have counter (blank : s.ot = OfftakeTable.blank) :=
      State.startUp_counter_past (s := s) (State.entry_of_blank blank)
    rw [exec_startUpComplete up h]
    generalize s.startUp = t at closed flare counter ⊢
    refine ⟨fun blank bad => ?_, fun blank good => ?_, fun bad => ?_, fun bad => ?_⟩
    · obtain ⟨stored, -, past, origin, alert⟩ := counter blank
      rw [if_neg (by simp [bad])] at origin
      exact ⟨alert bad, stored, past, origin⟩
    · obtain ⟨stored, above, past, origin, -⟩ := counter blank
      rw [if_pos good] at above origin
      exact ⟨stored, above, past, origin⟩
    · obtain ⟨number, failing⟩ := closed
      rw [if_neg (by simp [bad])] at number
      exact ⟨number, failing bad⟩
    · obtain ⟨total, residue, failing⟩ := flare
      rw [if_neg (by simp [bad])] at total residue
      exact ⟨total, residue, failing bad⟩

end Sys2Proof.Machine
end

section
/-! PROOF. Start-up: the settings, the timers and polling (R17, R40, R75, R112, R132, R150, R157, R171). -/

namespace Sys2Proof.Machine

/-- The settings that a store holds, or the defaults where its record fails (R171). -/
def Store.loadedSettings (d : Store) : Settings := if d.settings.good = true then d.settings.value else Settings.defaults

theorem State.loadSettings_facts (s : State) :
    s.loadSettings.settings = s.store.loadedSettings ∧
    s.loadSettings.nvs.settingsFault = (!s.store.settings.good) ∧
    s.loadSettings.nvs.unsaved = (!s.store.settings.good) ∧
    s.loadSettings.alert .settingsFault = (s.alert .settingsFault || !s.store.settings.good) := by
  unfold State.loadSettings Store.loadedSettings
  cases good : s.store.settings.good with
  | true =>
    simp only [if_true, Bool.not_true, Bool.or_false, true_and]
    exact State.alert_of_alerts rfl _
  | false =>
    simp [State.alert_raise]

/-- The band that a permanent lock holds takes the place of the one loaded (R40). -/
theorem State.holdBand_facts (s : State) :
    s.holdBand.settings = { s.settings with
      bandSide := if s.store.lock.mark = true then s.store.lock.side else s.settings.bandSide
      bandSize := if s.store.lock.mark = true then s.store.lock.size else s.settings.bandSize } ∧
    s.holdBand.nvs.settingsFault = s.nvs.settingsFault ∧
    s.holdBand.nvs.unsaved = (s.nvs.unsaved || decide (s.holdBand.settings ≠ s.settings)) := by
  unfold State.holdBand
  rcases s.store.lock with ⟨mark, side, size⟩
  cases mark with
  | false => simp
  | true =>
    by_cases same : s.settings.bandSide = side ∧ s.settings.bandSize = size
    · simp [← same.1, ← same.2]
    · have differs : { s.settings with bandSide := side, bandSize := size } ≠ s.settings :=
        fun h => same ⟨(congrArg Settings.bandSide h).symm, (congrArg Settings.bandSize h).symm⟩
      have moved : (true && !(s.settings.bandSide == side && s.settings.bandSize == size)) = true := by
        simpa [not_and_or, -not_and] using same
      simp only [moved, if_true]
      simp [State.setUnsaved, differs]

/-- The lock and the settings, as step 2 of start-up leaves them (R40, R171). -/
theorem State.settled_facts (s : State) :
    s.settled.settings = { s.store.loadedSettings with
      bandSide := if s.store.lock.mark = true then s.store.lock.side else s.store.loadedSettings.bandSide
      bandSize := if s.store.lock.mark = true then s.store.lock.size else s.store.loadedSettings.bandSize } ∧
    s.settled.nvs.settingsFault = (!s.store.settings.good) ∧
    s.settled.nvs.unsaved =
      (!s.store.settings.good || decide (s.settled.settings ≠ s.store.loadedSettings)) ∧
    s.settled.alert .settingsFault = (s.alert .settingsFault || !s.store.settings.good) ∧
    s.settled.ot.permanentLock = s.store.lock.mark := by
  have store : s.loadLock.store = s.store := rfl
  have kept : s.loadLock.loadSettings.store = s.store := (State.loadSettings_frame _).2.2.2.2.2.2.2.2.2.2.2.2
  obtain ⟨settings, fault, unsaved, alert⟩ := s.loadLock.loadSettings_facts
  obtain ⟨settings', fault', unsaved'⟩ := s.loadLock.loadSettings.holdBand_facts
  have alert' : s.settled.alert .settingsFault = s.loadLock.loadSettings.alert .settingsFault :=
    State.alert_of_alerts (by unfold State.settled; simp) _
  rw [store] at settings fault unsaved alert
  rw [kept, settings] at settings'
  rw [settings, unsaved] at unsaved'
  exact ⟨settings', fault'.trans fault, unsaved',
    alert'.trans (alert.trans (congrArg (· || _) (State.alert_of_alerts rfl _))),
    by unfold State.settled; simp [State.loadLock]⟩

theorem State.settled_frame (s : State) : s.settled.now = s.now ∧ s.settled.flc = s.flc ∧ s.settled.cl = s.cl := by
  simp [State.settled, State.loadLock]

theorem State.yieldRoles_facts (s : State) :
    s.yieldRoles.settings = { s.settings with roles := s.freeRoles s.settings.roles } ∧
    s.yieldRoles.nvs.settingsFault = s.nvs.settingsFault ∧
    s.yieldRoles.nvs.unsaved =
      (s.nvs.unsaved || decide ({ s.settings with roles := s.freeRoles s.settings.roles } ≠ s.settings)) := by
  unfold State.yieldRoles
  dsimp only
  split
  · next same => rw [same]; simp
  · next other =>
    have differs : { s.settings with roles := s.freeRoles s.settings.roles } ≠ s.settings :=
      fun h => other (congrArg Settings.roles h)
    rw [decide_eq_true differs]
    simp [State.setUnsaved]

/-- The account table of the good records alone, before the roles yield to it. -/
def State.reloadedAccounts (s : State) : State := slots64.foldl State.loadGoodAccount s.settled.loadOfftakes

theorem State.goodAccounts_eq (s : State) : s.goodAccounts = s.reloadedAccounts.yieldRoles := rfl

theorem State.reloadedAccounts_frame (s : State) : s.reloadedAccounts.settings = s.settled.settings ∧
    s.reloadedAccounts.nvs = s.settled.nvs ∧ s.reloadedAccounts.flc = s.flc ∧ s.reloadedAccounts.now = s.now ∧
    s.reloadedAccounts.cl = s.cl := by
  unfold State.reloadedAccounts
  simp [s.settled_frame]

theorem State.reloadedAccounts_account (s : State) (i : Fin 64) :
    s.reloadedAccounts.account i = s.goodAccounts.account i :=
  (State.account_congr (State.yieldRoles_frame' _).1 i).symm

/-- Among no accounts of its own, the state binds the stations of the good account records (R132). -/
theorem State.reloadedAccounts_isBound {s : State} (blank : ∀ i, s.account i = none) {a : Nat} :
    s.reloadedAccounts.isBound a = true ↔ a ≠ 0 ∧ ∃ i : Fin 64, (s.accountRecord i).good = true ∧
      1 ≤ (s.accountRecord i).value.state ∧ (s.accountRecord i).value.state ≤ 4 ∧
      (s.accountRecord i).value.station = a := by
  have account (i : Fin 64) : s.reloadedAccounts.account i = if (s.accountRecord i).good = true
      then StoredAccount.reloaded (s.accountRecord i).value else none := by
    rw [s.reloadedAccounts_account, (s.goodAccounts_slot i).1, blank]
  rw [State.isBound_iff]
  refine and_congr_right fun _ => exists_congr fun i => ?_
  rw [account]
  constructor
  · rintro ⟨b, hb, station⟩
    split at hb
    · next good =>
      obtain ⟨low, high⟩ := StoredAccount.reloaded_isSome.1 (Option.isSome_of_mem hb)
      exact ⟨good, low, high, (StoredAccount.reloaded_name hb).2.symm.trans station⟩
    · cases hb
  · rintro ⟨good, low, high, station⟩
    obtain ⟨b, hb⟩ := Option.isSome_iff_exists.1 (StoredAccount.reloaded_isSome.2 ⟨low, high⟩)
    exact ⟨b, (if_pos good).trans hb, (StoredAccount.reloaded_name hb).2.trans station⟩

theorem State.reloadedAccounts_freeRole {s : State} (blank : ∀ i, s.account i = none) (a : Nat) :
    s.reloadedAccounts.freeRole a = if ∃ i : Fin 64, (s.accountRecord i).good = true ∧
      1 ≤ (s.accountRecord i).value.state ∧ (s.accountRecord i).value.state ≤ 4 ∧
      (s.accountRecord i).value.station = a then 0 else a := by
  unfold State.freeRole
  by_cases zero : a = 0
  · simp [zero]
  · have bound := State.reloadedAccounts_isBound blank (a := a)
    rw [and_iff_right zero] at bound
    simp only [bound]

theorem State.freeRoles_list (s : State) (r : RoleAddresses) : (s.freeRoles r).list = r.list.map s.freeRole := rfl

theorem State.loadOfftakes_permanentLock (s : State) : s.loadOfftakes.ot.permanentLock = s.ot.permanentLock := by
  have good (u : State) (i : Fin 48) : (u.loadGoodOfftake i).ot.permanentLock = u.ot.permanentLock := by
    unfold State.loadGoodOfftake; dsimp only; (repeat' split) <;> rfl
  have failing (u : State) (i : Fin 48) : (u.loadFailingOfftake i).ot.permanentLock = u.ot.permanentLock := by
    unfold State.loadFailingOfftake; dsimp only; split <;> rfl
  have counter (u : State) : u.loadCounter.ot.permanentLock = u.ot.permanentLock := by
    unfold State.loadCounter; dsimp only; (repeat' split) <;> rfl
  unfold State.loadOfftakes
  rw [counter, foldl_same (fun u : State => u.ot.permanentLock) failing,
    foldl_same (fun u : State => u.ot.permanentLock) good]

theorem State.concluded_facts (u : State) :
    u.concluded.startingUp = false ∧ u.concluded.sm = Supply.blank u.settings.roles ∧
    u.concluded.esu = Settlement.blank u.settings.roles.export_ ∧
    u.concluded.ae.dispatch = secondsTimer u.now u.settings.dispatchInterval ∧
    u.concluded.ae.flarePoint = u.now ∧ u.concluded.ae.flareTimer = some (u.now + 3600000) ∧
    u.concluded.cl.silence = secondsTimer u.now u.settings.linkTimeout := by
  unfold State.concluded
  refine ⟨?_, ?_, ?_, ?_, ?_, ?_, ?_⟩ <;> simp [State.placeRoles, State.startTimers, after, Config.kwhMs]

theorem State.accountsLoaded_frame (s : State) :
    s.accountsLoaded.settings = s.goodAccounts.settings ∧ s.accountsLoaded.nvs = s.goodAccounts.nvs ∧
    s.accountsLoaded.now = s.now ∧ s.accountsLoaded.flc = s.flc ∧ s.accountsLoaded.cl = s.cl ∧
    s.accountsLoaded.ot.permanentLock = s.store.lock.mark := by
  have lock : s.goodAccounts.ot.permanentLock = s.store.lock.mark := by
    unfold State.goodAccounts
    simp [s.settled.loadOfftakes_permanentLock, s.settled_facts.2.2.2.2]
  have kept : s.goodAccounts.now = s.now ∧ s.goodAccounts.flc = s.flc ∧ s.goodAccounts.cl = s.cl := by
    rw [s.goodAccounts_eq]
    simp [s.reloadedAccounts_frame]
  rw [State.accountsLoaded_eq]
  generalize s.goodAccounts = u at lock kept ⊢
  simp [lock, kept]

/-- The live settings after start-up: those settled but for the roles that yield (R132, R171). -/
theorem State.startUp_settings (s : State) :
    s.startUp.settings = { s.settled.settings with roles := s.reloadedAccounts.freeRoles s.settled.settings.roles } ∧
    s.startUp.nvs.settingsFault = (!s.store.settings.good) ∧
    s.startUp.nvs.unsaved = (s.settled.nvs.unsaved || decide (s.startUp.settings ≠ s.settled.settings)) := by
  obtain ⟨-, settings, -, -, -, -, -, -, -, nvs, -⟩ := s.startUp_concluded
  obtain ⟨-, settings', -, -, nvs', -⟩ := s.accountsLoaded.concluded_frame
  obtain ⟨settings'', nvs'', -⟩ := s.accountsLoaded_frame
  obtain ⟨yielded, fault, unsaved⟩ := s.reloadedAccounts.yieldRoles_facts
  obtain ⟨live, marks, -⟩ := s.reloadedAccounts_frame
  rw [settings, settings', settings'', nvs, nvs', nvs'', s.goodAccounts_eq, yielded, fault, unsaved, live, marks]
  exact ⟨rfl, s.settled_facts.2.1, rfl⟩

/-- The live settings are those loaded but for roles and band (R40, R132). -/
theorem State.startUp_settings_loaded (s : State) :
    s.startUp.settings = { s.store.loadedSettings with
      roles := s.startUp.settings.roles, bandSide := s.startUp.settings.bandSide
      bandSize := s.startUp.settings.bandSize } ∧
    s.startUp.settings.pollList = s.store.loadedSettings.pollList ∧
    s.startUp.settings.roles = s.reloadedAccounts.freeRoles s.store.loadedSettings.roles ∧
    s.startUp.settings.bandSide =
      (if s.store.lock.mark = true then s.store.lock.side else s.store.loadedSettings.bandSide) ∧
    s.startUp.settings.bandSize =
      (if s.store.lock.mark = true then s.store.lock.size else s.store.loadedSettings.bandSize) := by
  have live := s.startUp_settings.1
  rw [s.settled_facts.1] at live
  generalize s.startUp.settings = d at live
  subst live
  exact ⟨rfl, rfl, rfl, rfl, rfl⟩

/-- What yields and what the lock holds is what differs from the settings loaded. -/
theorem State.startUp_unsaved {s : State} (good : s.store.settings.good = true) :
    s.startUp.nvs.unsaved = decide (s.startUp.settings ≠ s.store.loadedSettings) := by
  obtain ⟨live, -, unsaved⟩ := s.startUp_settings
  obtain ⟨settled, -, mark, -⟩ := s.settled_facts
  rw [unsaved, mark, good, Bool.not_true, Bool.false_or, Bool.eq_iff_iff]
  simp only [Bool.or_eq_true, decide_eq_true_eq, ne_eq, ← not_and_or, not_iff_not]
  constructor
  · rintro ⟨first, second⟩
    exact second.trans first
  · intro whole
    have roles : s.startUp.settings.roles = s.settled.settings.roles := by rw [whole, settled]
    have same : s.startUp.settings = s.settled.settings := by
      rw [live] at roles ⊢
      rw [show s.reloadedAccounts.freeRoles s.settled.settings.roles = _ from roles]
    exact ⟨same.symm.trans whole, same⟩

/-- Polling after start-up, from STOPPED (R112, R171). -/
theorem State.startUp_polling {s : State} (stopped : s.flc.polling = .stopped) :
    s.startUp.flc.polling = (if s.store.settings.good = false then .stopped
      else if s.startUp.settings.pollList = [] then .empty else .running) := by
  obtain ⟨-, settings, -, -, -, -, -, -, -, nvs, -⟩ := s.startUp_concluded
  have fault := s.startUp_settings.2.1
  have flc : s.accountsLoaded.concluded.flc = s.flc :=
    s.accountsLoaded.concluded_frame.2.2.2.1.trans s.accountsLoaded_frame.2.2.2.1
  rw [settings]
  rw [nvs] at fault
  rw [State.startUp_eq, State.loaded_eq]
  generalize s.accountsLoaded.concluded = u at fault flc ⊢
  rw [fault]
  cases s.store.settings.good with
  | false => simpa [flc] using stopped
  | true =>
    have begins : u.beginPolling = u.walkTo 0 := if_pos (by rw [flc]; exact stopped)
    simp only [Bool.not_true, Bool.false_eq_true, if_false, begins, Bool.true_eq_false]
    split
    · next list => rw [State.walkTo_of_empty list]; rfl
    · next list => rw [State.walkTo_of_list list]; rfl

/-- RECORD_DAMAGED and ACCOUNT_EVENT are the only flags the loads of the tables set. -/
theorem State.startUp_alert_settingsFault {s : State} (clear : s.fs.alerts = 0) :
    s.startUp.alert .settingsFault = !s.store.settings.good := by
  have offtakes : s.settled.loadOfftakes.alert .settingsFault = s.settled.alert .settingsFault := by
    unfold State.loadOfftakes
    rw [State.loadCounter_alert,
      foldl_same (fun u : State => u.alert .settingsFault) (fun u i => by simp [State.loadFailingOfftake_alert])]
    rw [State.alert_of_alerts (s := s.settled) (by simp)]
    simp
  have accounts : s.accountsLoaded.alert .settingsFault = s.goodAccounts.alert .settingsFault := by
    rw [State.accountsLoaded_eq]
    exact foldl_same (fun u : State => u.alert .settingsFault)
      (fun u i => by simp [State.loadFailingAccount_alert]) _ _
  have before : s.alert .settingsFault = false := by rw [State.alert, clear]; rfl
  rw [State.startUp_alert, accounts, s.goodAccounts_alert, offtakes, s.settled_facts.2.2.2.1, before]
  simp

/-- Settles O6: start-up in its order, each of its steps leaving the rest to the others. -/
theorem startUpCompletes : Obligations.StartUpCompletes := by
  intro s up stopped clear
  have runs : exec .startUpComplete s = .next s.startUp :=
    congrArg Host.Outcome.next (if_pos up : (if s.startingUp then s.startUp else s) = s.startUp)
  obtain ⟨now, settings, sm, ot, ae, -, -, esu, cl, -, -⟩ := s.startUp_concluded
  obtain ⟨now', settings', ot', -, -, -, cause, -⟩ := s.accountsLoaded.concluded_frame
  obtain ⟨-, supply, settlement, dispatch, point, timer, silence⟩ := s.accountsLoaded.concluded_facts
  obtain ⟨-, -, now'', -, cl'', lock⟩ := s.accountsLoaded_frame
  rw [← settings', ← settings] at supply settlement dispatch silence
  rw [now''] at dispatch point timer silence

  obtain ⟨-, fault, unsaved⟩ := s.startUp_settings
  have mark := s.settled_facts.2.2.1
  obtain ⟨live, list, roles, side, size⟩ := s.startUp_settings_loaded
  have polling := State.startUp_polling stopped
  have alert := State.startUp_alert_settingsFault clear
  have differs := State.startUp_unsaved (s := s)
  refine ⟨s.startUp, runs, s.startUp_startingUp, ?_⟩
  generalize s.startUp = t at *
  rw [list] at polling
  refine ⟨now.trans (now'.trans now''), ?_, ?_, ?_, ?_, ?_, fun held => ?_, fault, alert,
    ⟨live, fun free => ?_, fun blank => ?_, differs, polling⟩, fun bad => ?_, fun src => ?_, ?_, ?_, ?_⟩
  · rw [ae]; exact dispatch
  · rw [ae]; exact timer
  · rw [ae]; exact point
  · rw [cl]; exact silence
  · rw [ot, ot']; exact lock
  · rw [side, size, if_pos held, if_pos held]; exact ⟨rfl, rfl⟩
  · rw [side, size, free]; exact ⟨rfl, rfl⟩
  · rw [roles, State.freeRoles_list]
    exact List.map_congr_left fun a _ => State.reloadedAccounts_freeRole blank a
  · rw [unsaved, mark, bad]; simp
  · unfold State.source
    rw [sm, supply]
    cases src <;> rfl
  · rw [sm, supply]; rfl
  · rw [esu, settlement]; rfl
  · rw [cl, cause, cl'']

end Sys2Proof.Machine
end

section
/-! PROOF. What the owners make of stations that a new poll list delists (R6, R15, R80, R106, R109, R124,
R143). -/

namespace Sys2Proof.Machine

/-! ## The role of a station, under changes to the accounts' states -/

theorem findSome?_fst {α β γ : Type} {f g : α → Option (β × γ)} (h : ∀ a, (f a).map Prod.fst = (g a).map Prod.fst)
    (l : List α) : (l.findSome? f).map Prod.fst = (l.findSome? g).map Prod.fst := by
  induction l with
  | nil => rfl
  | cons a l ih =>
    have head := h a
    rw [List.findSome?_cons, List.findSome?_cons]
    cases hf : f a with
    | none =>
      cases hg : g a with
      | none => exact ih
      | some y => rw [hf, hg] at head; cases head
    | some x =>
      cases hg : g a with
      | none => rw [hf, hg] at head; cases head
      | some y => rw [hf, hg] at head; exact head

theorem State.boundAccount_fst {s t : State}
    (h : ∀ i, (t.account i).map Account.station = (s.account i).map Account.station) (a : Nat) :
    (t.boundAccount a).map Prod.fst = (s.boundAccount a).map Prod.fst := by
  unfold State.boundAccount
  split
  · rfl
  · refine findSome?_fst (fun i => ?_) slots64
    have station := h i
    cases hs : s.account i with
    | none =>
      cases ht : t.account i with
      | none => rfl
      | some b => rw [hs, ht] at station; cases station
    | some b =>
      cases ht : t.account i with
      | none => rw [hs, ht] at station; cases station
      | some d =>
        rw [hs, ht] at station
        have same : d.station = b.station := Option.some.inj station
        dsimp only
        rw [same]
        split <;> rfl

/-- The role of an address rests on the role addresses and on the slot it is bound to. -/
theorem State.role_of_bound {s t : State} {a : Nat} (settings : t.settings = s.settings)
    (bound : (t.boundAccount a).map Prod.fst = (s.boundAccount a).map Prod.fst) : t.role a = s.role a := by
  unfold State.role
  rw [settings]
  cases hs : s.boundAccount a with
  | none =>
    cases ht : t.boundAccount a with
    | none => rfl
    | some p => rw [hs, ht] at bound; cases bound
  | some q =>
    cases ht : t.boundAccount a with
    | none => rw [hs, ht] at bound; cases bound
    | some p =>
      rw [hs, ht] at bound
      have same : p.1 = q.1 := Option.some.inj bound
      obtain ⟨i, b⟩ := p
      obtain ⟨j, d⟩ := q
      obtain rfl : i = j := same
      rfl

theorem State.role_of_hau {s t : State} (settings : t.settings = s.settings) (hau : t.hau = s.hau) (a : Nat) :
    t.role a = s.role a :=
  State.role_of_bound settings (State.boundAccount_fst (fun i => by rw [State.account_congr hau]) a)

/-! ## One station delisted -/

/-- A station entered as STALE, before its owner hears of it. -/
def State.staled (s : State) (a : Nat) : State :=
  (s.setStation a { s.station a with state := .stale }).raise .stationStale

@[simp] theorem State.staled_frame (s : State) (a : Nat) :
    (s.staled a).settings = s.settings ∧ (s.staled a).sm = s.sm ∧ (s.staled a).hau = s.hau ∧
    (s.staled a).esu = s.esu ∧ (s.staled a).store = s.store ∧ (s.staled a).fs.monitors = s.fs.monitors := by
  simp [State.staled]

theorem State.staled_role (s : State) (a b : Nat) : (s.staled a).role b = s.role b :=
  State.role_of_hau (by simp) (by simp) b

theorem State.delist_of_live {s : State} {a : Nat} (live : (s.station a).state = .live) :
    s.delist a = (s.staled a).handStale a := if_pos live

theorem State.delist_of_not_live {s : State} {a : Nat} (other : (s.station a).state ≠ .live) : s.delist a = s :=
  if_neg other

/-- The owner of a role takes the change of its station to STALE (R106). -/
@[simp] def State.handTo (s : State) : Role → State
  | .gas src => (s.holdSource src).evaluate (.gas src .stale) true
  | .holder => s.holdHolder.evaluate .holderStale true
  | .export_ => s.meterSilent
  | .heat i => s.holdAccount i
  | .unbound => s

theorem State.handStale_eq (s : State) (a : Nat) : s.handStale a = s.handTo (s.role a) := by
  unfold State.handStale State.handTo
  cases s.role a <;> rfl

/-- A delisted station hands its change to the owner of its role and to nobody else (R106). -/
theorem State.delist_cases (s : State) (a : Nat) : s.delist a =
    if (s.station a).state = .live then (s.staled a).handTo (s.role a) else s := by
  split
  · next live => rw [State.delist_of_live live, State.handStale_eq, s.staled_role]
  · next other => exact State.delist_of_not_live other

/-- The account of a slot, and its record, when its station becomes STALE (R124). -/
def heldSlot (x : Option Account × Checked StoredAccount) : Option Account × Checked StoredAccount :=
  match x.1 with
  | some a => if a.state = .opened
      then (some { a with state := .holding }, ⟨storedAccount (some { a with state := .holding }), true⟩) else x
  | none => x

theorem State.holdAccount_slot (s : State) (i j : Fin 64) :
    ((s.holdAccount i).account j, (s.holdAccount i).accountRecord j) =
      if i = j then heldSlot (s.account j, s.accountRecord j) else (s.account j, s.accountRecord j) := by
  rcases s.holdAccount_cases i with ⟨a, account, opened, held⟩ | ⟨others, held⟩
  · rw [held, State.account_writeAccount, State.accountRecord_writeAccount]
    split
    · next same =>
      subst same
      rw [account, heldSlot]
      exact (if_pos opened).symm
    · rfl
  · rw [held]
    split
    · next same =>
      subst same
      rw [heldSlot]
      cases account : s.account i with
      | none => rfl
      | some a => exact (if_neg (others a account)).symm
    · rfl

theorem heldSlot_heldSlot (x : Option Account × Checked StoredAccount) : heldSlot (heldSlot x) = heldSlot x := by
  obtain ⟨a, r⟩ := x
  cases a with
  | none => rfl
  | some a =>
    by_cases opened : a.state = .opened
    · simp [heldSlot, opened]
    · simp [heldSlot, opened]

theorem heldSlot_station (x : Option Account × Checked StoredAccount) :
    (heldSlot x).1.map Account.station = x.1.map Account.station := by
  obtain ⟨a, r⟩ := x
  cases a with
  | none => rfl
  | some a =>
    unfold heldSlot
    dsimp only
    split <;> rfl

/-- The slot of an account after one delisting. -/
theorem State.delist_slot (s : State) (a : Nat) (j : Fin 64) :
    ((s.delist a).account j, (s.delist a).accountRecord j) =
      if (s.station a).state = .live ∧ s.role a = .heat j then heldSlot (s.account j, s.accountRecord j)
      else (s.account j, s.accountRecord j) := by
  have staled : ((s.staled a).account j, (s.staled a).accountRecord j) = (s.account j, s.accountRecord j) := by
    rw [State.account_congr (by simp : (s.staled a).hau = s.hau),
      State.accountRecord_congr (by simp : (s.staled a).store.accounts = s.store.accounts)]
  have kept (t : State) (hau : t.hau = (s.staled a).hau) (store : t.store = (s.staled a).store) :
      (t.account j, t.accountRecord j) = (s.account j, s.accountRecord j) := by
    rw [State.account_congr hau, State.accountRecord_congr (congrArg Store.accounts store), staled]
  rw [State.delist_cases]
  by_cases live : (s.station a).state = .live
  · simp only [live, if_true, true_and]
    cases role : s.role a with
    | gas src => exact (kept _ (by simp) (by simp)).trans (if_neg nofun).symm
    | holder => exact (kept _ (by simp) (by simp)).trans (if_neg nofun).symm
    | export_ => exact (kept _ rfl rfl).trans (if_neg nofun).symm
    | heat i =>
      rw [State.handTo, State.holdAccount_slot, staled]
      simp only [Role.heat.injEq]
    | unbound => exact staled.trans (if_neg nofun).symm
  · simp only [live, if_false, false_and]

theorem State.delist_role (s : State) (a b : Nat) : (s.delist a).role b = s.role b := by
  refine State.role_of_bound (by simp) (State.boundAccount_fst (fun j => ?_) b)
  have slot := congrArg Prod.fst (s.delist_slot a j)
  dsimp only at slot
  rw [slot]
  split
  · exact heldSlot_station _
  · rfl

theorem State.delist_source (s : State) (a : Nat) (src : Source) : (s.delist a).sm.sources.get src =
    if (s.station a).state = .live ∧ s.role a = .gas src
      then { s.sm.sources.get src with reading := (s.sm.sources.get src).reading.onStale }
      else s.sm.sources.get src := by
  rw [State.delist_cases]
  by_cases live : (s.station a).state = .live
  · simp only [live, if_true, true_and]
    cases role : s.role a with
    | gas o =>
      simp only [State.handTo, State.evaluate_frame, State.holdSource, State.setSource, Role.gas.injEq]
      by_cases same : o = src
      · subst same; simp [State.source]
      · simp [same, PerSource.get_put]
    | holder => simp [State.holdHolder, State.setHolder]
    | export_ => simp [State.meterSilent]
    | heat i => simp
    | unbound => simp
  · simp only [live, if_false, false_and]

theorem State.delist_holder (s : State) (a : Nat) : (s.delist a).sm.holder =
    if (s.station a).state = .live ∧ s.role a = .holder
      then { s.sm.holder with reading := s.sm.holder.reading.onStale } else s.sm.holder := by
  rw [State.delist_cases]
  by_cases live : (s.station a).state = .live
  · simp only [live, if_true, true_and]
    cases role : s.role a with
    | gas o => simp [State.holdSource, State.setSource]
    | holder => simp [State.holdHolder, State.setHolder]
    | export_ => simp [State.meterSilent]
    | heat i => simp
    | unbound => simp
  · simp only [live, if_false, false_and]

theorem State.delist_esu (s : State) (a : Nat) : (s.delist a).esu =
    if (s.station a).state = .live ∧ s.role a = .export_ then s.esu.markSilent else s.esu := by
  rw [State.delist_cases]
  by_cases live : (s.station a).state = .live
  · simp only [live, if_true, true_and]
    cases role : s.role a with
    | gas o => simp [State.holdSource, State.setSource]
    | holder => simp [State.holdHolder, State.setHolder]
    | export_ => simp [State.meterSilent]
    | heat i => simp
    | unbound => simp
  · simp only [live, if_false, false_and]

/-- The role whose station a STALE monitor watches (R80). -/
def staleRole : Monitor → Option Role
  | .gas src .stale => some (.gas src)
  | .holderStale => some .holder
  | _ => none

theorem staleRole_iff {m : Monitor} {r : Role} : staleRole m = some r ↔
    (∃ src, r = .gas src ∧ m = .gas src .stale) ∨ (r = .holder ∧ m = .holderStale) := by
  rcases m with ⟨src, k⟩ | _ | _ | _
  · cases k <;> simp [staleRole, eq_comm]
  all_goals simp [staleRole, eq_comm]

theorem State.evaluate_present_monitors (s : State) (m n : Monitor) : (s.evaluate m true).monitor n =
    if m = n then (s.monitor n).raised (s.mode n) else s.monitor n := by
  split
  · next same => subst same; exact s.evaluate_present_monitor m
  · next other => exact s.evaluate_monitor_of_ne true other

theorem State.delist_monitor (s : State) (a : Nat) (m : Monitor) : (s.delist a).monitor m =
    if (s.station a).state = .live ∧ staleRole m = some (s.role a) then (s.monitor m).raised (s.mode m)
    else s.monitor m := by
  have kept (t : State) (monitors : t.fs.monitors = s.fs.monitors) : t.monitor m = s.monitor m :=
    State.monitor_congr monitors m
  have heard (t : State) (n : Monitor) (monitors : t.fs.monitors = s.fs.monitors) (settings : t.settings = s.settings) :
      (t.evaluate n true).monitor m = if n = m then (s.monitor m).raised (s.mode m) else s.monitor m := by
    rw [State.evaluate_present_monitors, kept t monitors, State.mode, settings]
    exact rfl
  rw [State.delist_cases]
  by_cases live : (s.station a).state = .live
  · simp only [live, if_true, true_and]
    cases role : s.role a with
    | gas o =>
      refine (heard _ _ (by simp [State.holdSource, State.setSource]) (by simp [State.holdSource, State.setSource])).trans
        (if_congr ?_ rfl rfl)
      simp [staleRole_iff, eq_comm]
    | holder =>
      refine (heard _ _ (by simp [State.holdHolder, State.setHolder]) (by simp [State.holdHolder, State.setHolder])).trans
        (if_congr ?_ rfl rfl)
      rw [staleRole_iff]
      simp [eq_comm]
    | export_ => exact (kept _ (by simp [State.meterSilent])).trans (if_neg (by simp [staleRole_iff])).symm
    | heat i => exact (kept _ (by simp)).trans (if_neg (by simp [staleRole_iff])).symm
    | unbound => exact (kept _ (by simp)).trans (if_neg (by simp [staleRole_iff])).symm
  · simp only [live, if_false, false_and]

/-! ## Alerts of a change of settings -/

/-- From `s` to `t` no flag is cleared, and what the supervisor tells is told (R82, R85). -/
structure State.Told (s t : State) : Prop where
  settings : t.settings = s.settings
  keeps : ∀ f, s.alert f = true → t.alert f = true
  latches : ∀ m, (s.monitor m).latched = false → (t.monitor m).latched = true → t.alert .sourceFault = true
  appears : ∀ m, (s.monitor m).raw = false → (t.monitor m).raw = true → s.mode m ≠ .off →
    t.alert .sourceFault = true

theorem State.Told.of_monitors {s t : State} (settings : t.settings = s.settings)
    (monitors : t.fs.monitors = s.fs.monitors) (keeps : ∀ f, s.alert f = true → t.alert f = true) : s.Told t where
  settings := settings
  keeps := keeps
  latches := fun m h k => by rw [State.monitor_congr monitors, h] at k; cases k
  appears := fun m h k => by rw [State.monitor_congr monitors, h] at k; cases k

theorem State.Told.refl (s : State) : s.Told s := .of_monitors rfl rfl fun _ h => h

theorem State.Told.trans {s t u : State} (h : s.Told t) (k : t.Told u) : s.Told u where
  settings := k.settings.trans h.settings
  keeps := fun f set => k.keeps f (h.keeps f set)
  latches := fun m before after => by
    cases between : (t.monitor m).latched with
    | true => exact k.keeps _ (h.latches m before between)
    | false => exact k.latches m between after
  appears := fun m before after mode => by
    cases between : (t.monitor m).raw with
    | true => exact k.keeps _ (h.appears m before between mode)
    | false => exact k.appears m between after (by rwa [State.mode, h.settings])

theorem State.Told.foldl {α : Type} {f : State → α → State} (h : ∀ (s : State) a, s.Told (f s a)) (l : List α)
    (s : State) : s.Told (l.foldl f s) := by
  induction l generalizing s with
  | nil => exact .refl s
  | cons a l ih => exact (h s a).trans (ih _)

theorem State.evaluate_told (s : State) (m : Monitor) (b : Bool) : s.Told (s.evaluate m b) := by
  have others (n : Monitor) (other : m ≠ n) : (s.evaluate m b).monitor n = s.monitor n :=
    s.evaluate_monitor_of_ne b other
  refine ⟨by simp, fun f h => State.alert_evaluate h m b, fun n before after => ?_, fun n before after mode => ?_⟩
  · by_cases same : m = n
    · subst same
      cases b with
      | false =>
        rw [State.evaluate_absent_monitor] at after
        split at after <;> exact absurd (before.symm.trans after) nofun
      | true =>
        rw [State.evaluate_present_monitor, MonitorRecord.raised] at after
        split at after
        · rw [before] at after; cases after
        · next absent =>
          have told : s.mode m ≠ .off := by rw [before] at after; simpa using after
          rw [State.evaluate_of_appears (by simpa using absent), State.alert_raiseIf]
          simp [told]
    · rw [others n same, before] at after; cases after
  · by_cases same : m = n
    · subst same
      cases b with
      | false =>
        rw [State.evaluate_of_stands before, before] at after; cases after
      | true =>
        rw [State.evaluate_of_appears before, State.alert_raiseIf]
        simp [mode]
    · rw [others n same, before] at after; cases after

theorem State.staled_alert (s : State) (a : Nat) (f : AlertFlag) :
    (s.staled a).alert f = (s.alert f || decide (.stationStale = f)) :=
  (State.alert_raise _ _ _).trans (congrArg (· || _) (State.alert_of_alerts (by simp) f))

theorem State.evaluate_alert_other (s : State) (m : Monitor) (b : Bool) {f : AlertFlag} (h : f ≠ .sourceFault) :
    (s.evaluate m b).alert f = s.alert f := by
  unfold State.evaluate
  dsimp only
  split
  · rw [State.alert_raiseIf, decide_eq_false (Ne.symm h), Bool.and_false, Bool.or_false]
    exact State.alert_of_alerts rfl f
  · exact State.alert_of_alerts rfl f
  · rfl

theorem State.delist_told (s : State) (a : Nat) : s.Told (s.delist a) := by
  rw [State.delist_cases]
  split
  · have staled : s.Told (s.staled a) := .of_monitors (by simp) (by simp) fun f h => by
      rw [State.staled_alert, h, Bool.true_or]
    cases s.role a with
    | gas src =>
      have held : (s.staled a).Told ((s.staled a).holdSource src) := .of_monitors rfl rfl fun _ h => h
      exact (staled.trans held).trans (State.evaluate_told _ _ _)
    | holder =>
      have held : (s.staled a).Told (s.staled a).holdHolder := .of_monitors rfl rfl fun _ h => h
      exact (staled.trans held).trans (State.evaluate_told _ _ _)
    | export_ => exact staled.trans (.of_monitors rfl rfl fun _ h => h)
    | heat i =>
      exact staled.trans (.of_monitors (by simp) (by simp) fun f h =>
        (State.alert_of_alerts (by simp) f).trans h)
    | unbound => exact staled
  · exact .refl s

/-- Beside SOURCE_FAULT a delisting sets STATION_STALE alone (R109). -/
theorem State.delist_alert (s : State) (a : Nat) {f : AlertFlag} (h : f ≠ .sourceFault) : (s.delist a).alert f =
    (s.alert f || (decide ((s.station a).state = .live) && decide (.stationStale = f))) := by
  rw [State.delist_cases]
  by_cases live : (s.station a).state = .live
  · simp only [live, if_true, decide_true, Bool.true_and]
    rw [← s.staled_alert a f]
    cases s.role a with
    | gas src => exact (State.evaluate_alert_other _ _ _ h).trans (State.alert_of_alerts rfl f)
    | holder => exact (State.evaluate_alert_other _ _ _ h).trans (State.alert_of_alerts rfl f)
    | export_ => exact State.alert_of_alerts rfl f
    | heat i => exact State.alert_of_alerts (by simp) f
    | unbound => rfl
  · simp [live]

/-! ## All the stations of a list delisted -/

/-- Delisting the stations of `l` makes the station STALE that holds a role. -/
def State.strikes (s : State) (l : List Nat) (role : Role) : Bool :=
  l.any fun a => decide ((s.station a).state = .live) && decide (s.role a = role)

/-- What one delisting does to a part of the state by the role struck, a list of them does when it strikes
that role. -/
theorem State.delists_part {β : Type} {g : State → β} {f : β → β} {role : Role} {d : Settings}
    (step : ∀ (u : State) (a : Nat), u.settings = d → g (u.delist a) =
      if (u.station a).state = .live ∧ u.role a = role then f (g u) else g u)
    (idem : ∀ b, f (f b) = f b) {l : List Nat} (unique : l.Nodup) (range : ∀ a ∈ l, 1 ≤ a ∧ a ≤ 127) {s : State}
    (settings : s.settings = d) :
    g (l.foldl State.delist s) = if s.strikes l role = true then f (g s) else g s := by
  induction l generalizing s with
  | nil => rfl
  | cons a l ih =>
    obtain ⟨fresh, unique⟩ := List.nodup_cons.1 unique
    obtain ⟨ha, hl⟩ := List.forall_mem_cons.1 range
    have rest : (s.delist a).strikes l role = s.strikes l role := by
      unfold State.strikes
      rw [Bool.eq_iff_iff, List.any_eq_true, List.any_eq_true]
      refine exists_congr fun b => and_congr_right fun hb => ?_
      have other : b ≠ a := fun same => fresh (same ▸ hb)
      rw [State.delist_station s ha, if_neg fun h => other h.1, State.delist_role]
    have head : s.strikes (a :: l) role =
        ((decide ((s.station a).state = .live) && decide (s.role a = role)) || s.strikes l role) := rfl
    rw [List.foldl_cons, ih unique hl (by simpa using settings), rest, step s a settings, head]
    by_cases struck : (s.station a).state = .live ∧ s.role a = role
    · rw [if_pos struck, idem]
      simp [struck]
    · have missed : (decide ((s.station a).state = .live) && decide (s.role a = role)) = false := by
        simpa [not_and] using struck
      rw [if_neg struck, missed, Bool.false_or]

theorem State.delists_alert (s : State) {l : List Nat} (unique : l.Nodup) (range : ∀ a ∈ l, 1 ≤ a ∧ a ≤ 127)
    {f : AlertFlag} (h : f ≠ .sourceFault) : (l.foldl State.delist s).alert f = (s.alert f ||
      ((l.any fun a => decide ((s.station a).state = .live)) && decide (.stationStale = f))) := by
  induction l generalizing s with
  | nil => simp
  | cons a l ih =>
    obtain ⟨fresh, unique⟩ := List.nodup_cons.1 unique
    obtain ⟨ha, hl⟩ := List.forall_mem_cons.1 range
    have rest : (l.any fun b => decide (((s.delist a).station b).state = .live)) =
        l.any fun b => decide ((s.station b).state = .live) := by
      rw [Bool.eq_iff_iff, List.any_eq_true, List.any_eq_true]
      refine exists_congr fun b => and_congr_right fun hb => ?_
      have other : b ≠ a := fun same => fresh (same ▸ hb)
      rw [State.delist_station s ha, if_neg fun h => other h.1]
    rw [List.foldl_cons, ih (s.delist a) unique hl, rest, State.delist_alert s a h, List.any_cons,
      Bool.and_or_distrib_right, Bool.or_assoc]

theorem ReadingState.onStale_onStale (x : ReadingState) : x.onStale.onStale = x.onStale := by cases x <;> rfl

theorem MonitorRecord.raised_raised (r : MonitorRecord) (mode : FaultMode) :
    (r.raised mode).raised mode = r.raised mode := by
  refine if_pos ?_
  unfold MonitorRecord.raised
  split
  · assumption
  · rfl

theorem Settlement.markSilent_markSilent (e : Settlement) : e.markSilent.markSilent = e.markSilent := by
  unfold Settlement.markSilent
  cases e.current <;> rfl

end Sys2Proof.Machine
end

section
/-! PROOF. The supervisor's share of a settings change (R81, R85). -/

namespace Sys2Proof.Machine

/-- A record after its condition has been evaluated (R78 to R82). -/
def MonitorRecord.evaluated (r : MonitorRecord) (present : Bool) (mode : FaultMode) (expiry : Time) : MonitorRecord :=
  if present = r.raw then r else if present = true then r.appear mode else r.disappear mode expiry

theorem State.evaluate_monitor (s : State) (m n : Monitor) (b : Bool) : (s.evaluate m b).monitor n =
    if m = n then (s.monitor n).evaluated b (s.mode n) s.retryExpiry else s.monitor n := by
  split
  · next same =>
    subst same
    unfold MonitorRecord.evaluated
    cases raw : (s.monitor m).raw <;> cases b
    · rw [State.evaluate_of_stands raw]; rfl
    · rw [State.evaluate_of_appears raw, State.monitor_raiseIf, State.monitor_setMonitor]; simp
    · rw [State.evaluate_of_goes raw, State.monitor_setMonitor]; simp
    · rw [State.evaluate_of_stands raw]; rfl
  · next other => exact s.evaluate_monitor_of_ne b other

@[simp] theorem State.evaluate_mode (s : State) (m n : Monitor) (b : Bool) : (s.evaluate m b).mode n = s.mode n := by
  simp [State.mode]

@[simp] theorem State.evaluate_retryExpiry (s : State) (m : Monitor) (b : Bool) :
    (s.evaluate m b).retryExpiry = s.retryExpiry := by
  simp [State.retryExpiry]

/-- The condition of a monitor whose target has another role address: STALE is the station's, any other is
absent (R81). -/
def State.presentNow (s : State) : Monitor → Bool
  | .gas src .stale => s.isStale (s.settings.roles.gas.get src)
  | .holderStale => s.isStale s.settings.roles.holder
  | _ => false

/-- The source a monitor watches; none for the holder's monitors (R76). -/
def watchedSource : Monitor → Option Source
  | .gas src _ => some src
  | _ => none

theorem State.reevaluateGas_monitor (s : State) (src : Source) (m : Monitor) : (s.reevaluateGas src).monitor m =
    if watchedSource m = some src then (s.monitor m).evaluated (s.presentNow m) (s.mode m) s.retryExpiry
    else s.monitor m := by
  unfold State.reevaluateGas
  rcases m with ⟨o, k⟩ | _ | _ | _
  · by_cases same : o = src
    · subst same
      cases k <;> simp [State.evaluate_monitor, State.presentNow, watchedSource]
    · simp [State.evaluate_monitor, watchedSource, same, Ne.symm same]
  all_goals simp [State.evaluate_monitor, watchedSource]

theorem State.reevaluateHolder_monitor (s : State) (m : Monitor) : s.reevaluateHolder.monitor m =
    if watchedSource m = none then (s.monitor m).evaluated (s.presentNow m) (s.mode m) s.retryExpiry
    else s.monitor m := by
  unfold State.reevaluateHolder
  rcases m with ⟨src, k⟩ | _ | _ | _ <;> simp [State.evaluate_monitor, State.presentNow, watchedSource]

theorem State.changeMode_monitor (s : State) (m n : Monitor) : (s.changeMode m).monitor n =
    if m = n then (s.monitor n).forMode (s.mode n) s.retryExpiry else s.monitor n := by
  unfold State.changeMode
  dsimp only
  rw [State.monitor_raiseIf, State.monitor_setMonitor]
  split
  · next same => subst same; rfl
  · rfl

/-! ## A fold that acts once on a part -/

/-- A part of the state on which one member of a list acts, and no other, is as that member leaves it. -/
theorem foldl_part {α β : Type} {P : State → Prop} {g : State → β} {f : β → β} {step : State → α → State} {k : α}
    (keeps : ∀ u a, P u → P (step u a)) (hit : ∀ u, P u → g (step u k) = f (g u))
    (miss : ∀ u a, a ≠ k → P u → g (step u a) = g u) {l : List α} (unique : l.Nodup) {s : State} (start : P s) :
    (k ∈ l → g (l.foldl step s) = f (g s)) ∧ (k ∉ l → g (l.foldl step s) = g s) := by
  induction l generalizing s with
  | nil => exact ⟨nofun, fun _ => rfl⟩
  | cons a l ih =>
    obtain ⟨fresh, unique⟩ := List.nodup_cons.1 unique
    obtain ⟨acts, rests⟩ := ih unique (keeps s a start)
    rw [List.foldl_cons]
    by_cases same : a = k
    · subst same
      exact ⟨fun _ => (rests fresh).trans (hit s start), fun h => absurd List.mem_cons_self h⟩
    · refine ⟨fun h => ?_, fun h => ?_⟩
      · exact (acts ((List.mem_cons.1 h).resolve_left (Ne.symm same))).trans (congrArg f (miss s a same start))
      · exact (rests fun hk => h (List.mem_cons_of_mem _ hk)).trans (miss s a same start)

/-- The settings, the moment and the stations that an evaluation rests on. -/
def State.SameScene (s u : State) : Prop := u.settings = s.settings ∧ u.now = s.now ∧ u.flc = s.flc

theorem State.SameScene.mode {s u : State} (h : s.SameScene u) (m : Monitor) : u.mode m = s.mode m := by
  rw [State.mode, h.1]; exact rfl

theorem State.SameScene.retryExpiry {s u : State} (h : s.SameScene u) : u.retryExpiry = s.retryExpiry := by
  rw [State.retryExpiry, h.1, h.2.1]; exact rfl

theorem State.SameScene.presentNow {s u : State} (h : s.SameScene u) (m : Monitor) :
    u.presentNow m = s.presentNow m := by
  have stale (a : Nat) : u.isStale a = s.isStale a := by
    unfold State.isStale; rw [State.station_congr h.2.2]
  rcases m with ⟨src, k⟩ | _ | _ | _
  · cases k <;> simp only [State.presentNow, stale, h.1]
  all_goals simp only [State.presentNow, stale, h.1]

theorem State.SameScene.trans {s u v : State} (h : s.SameScene u) (k : u.SameScene v) : s.SameScene v :=
  ⟨k.1.trans h.1, k.2.1.trans h.2.1, k.2.2.trans h.2.2⟩

/-- The target of a monitor has another role address under `new` than under `old` (R81). -/
def targetMoved (new old : Settings) (m : Monitor) : Bool :=
  (watchedSource m).elim (decide (new.roles.holder ≠ old.roles.holder)) fun src =>
    decide (new.roles.gas.get src ≠ old.roles.gas.get src)

/-- A record re-evaluated when its target's address has changed, and otherwise as it was (R81). -/
def State.retargeted (s : State) (changed : Bool) (m : Monitor) (r : MonitorRecord) : MonitorRecord :=
  if changed = true then r.evaluated (s.presentNow m) (s.mode m) s.retryExpiry else r

/-- A record set for a mode that has changed, and otherwise as it was (R85). -/
def State.remoded (s : State) (old : Settings) (m : Monitor) (r : MonitorRecord) : MonitorRecord :=
  if s.mode m ≠ old.mode m then r.forMode (s.mode m) s.retryExpiry else r

/-- One source's share of the re-evaluation (R81). -/
def State.gasStep (old : Settings) (t : State) (src : Source) : State :=
  if t.settings.roles.gas.get src ≠ old.roles.gas.get src then t.reevaluateGas src else t

def State.holderStep (old : Settings) (t : State) : State :=
  if t.settings.roles.holder ≠ old.roles.holder then t.reevaluateHolder else t

/-- One monitor's share of the change of modes (R85). -/
def State.modeStep (old : Settings) (t : State) (m : Monitor) : State :=
  if t.mode m ≠ old.mode m then t.changeMode m else t

theorem State.superviseChange_eq (s : State) (old : Settings) : s.superviseChange old =
    Monitor.all.foldl (State.modeStep old) (State.holderStep old (Source.all.foldl (State.gasStep old) s)) := rfl

theorem State.gasStep_scene (old : Settings) (u : State) (src : Source) : u.SameScene (State.gasStep old u src) := by
  unfold State.gasStep State.SameScene
  split <;> simp

theorem State.holderStep_scene (old : Settings) (u : State) : u.SameScene (State.holderStep old u) := by
  unfold State.holderStep State.SameScene
  split <;> simp

theorem State.modeStep_scene (old : Settings) (u : State) (m : Monitor) : u.SameScene (State.modeStep old u m) := by
  unfold State.modeStep State.SameScene
  split <;> simp

theorem State.SameScene.foldl {α : Type} {step : State → α → State} (h : ∀ (u : State) a, u.SameScene (step u a)) (l : List α)
    (s : State) : s.SameScene (l.foldl step s) := by
  induction l generalizing s with
  | nil => exact ⟨rfl, rfl, rfl⟩
  | cons a l ih => exact (h s a).trans (ih _)

theorem State.gasSteps_monitor (s : State) (old : Settings) (m : Monitor) :
    (Source.all.foldl (State.gasStep old) s).monitor m = s.retargeted ((watchedSource m).elim false fun src =>
      decide (s.settings.roles.gas.get src ≠ old.roles.gas.get src)) m (s.monitor m) := by
  cases watched : watchedSource m with
  | none =>
    refine foldl_same (fun u : State => u.monitor m) (fun u src => ?_) _ _
    unfold State.gasStep
    split
    · rw [State.reevaluateGas_monitor, if_neg (by rw [watched]; nofun)]
    · rfl
  | some src =>
    refine (foldl_part (P := s.SameScene) (g := fun u : State => u.monitor m) (k := src)
      (fun u o h => h.trans (State.gasStep_scene old u o)) (fun u h => ?_) (fun u o other h => ?_) (by decide)
      ⟨rfl, rfl, rfl⟩).1 (by cases src <;> decide)
    · unfold State.gasStep State.retargeted
      rw [h.1, Option.elim_some]
      by_cases moved : s.settings.roles.gas.get src ≠ old.roles.gas.get src
      · rw [if_pos moved, if_pos (decide_eq_true moved), State.reevaluateGas_monitor, if_pos watched, h.mode,
          h.presentNow, h.retryExpiry]
      · rw [if_neg moved, if_neg (by simpa using moved)]
    · unfold State.gasStep
      split
      · rw [State.reevaluateGas_monitor, if_neg]
        rw [watched]
        exact fun same => other (Option.some.inj same).symm
      · rfl

theorem Monitor.nodup_all : Monitor.all.Nodup := by decide

/-- A monitor after the supervisor's share of a settings change: its target's address first, its mode second
(R81, R85). -/
theorem State.superviseChange_monitor (s : State) (old : Settings) (m : Monitor) :
    (s.superviseChange old).monitor m = s.remoded old m (s.retargeted (targetMoved s.settings old m) m (s.monitor m)) := by
  have gas := s.gasSteps_monitor old m
  have scene : s.SameScene (Source.all.foldl (State.gasStep old) s) := .foldl (State.gasStep_scene old) _ _
  rw [State.superviseChange_eq]
  generalize Source.all.foldl (State.gasStep old) s = u at gas scene ⊢
  have holder : (State.holderStep old u).monitor m = s.retargeted (targetMoved s.settings old m) m (s.monitor m) := by
    unfold State.holderStep targetMoved
    rw [scene.1]
    cases watched : watchedSource m with
    | some src =>
      rw [watched] at gas
      refine Eq.trans ?_ gas
      split
      · rw [State.reevaluateHolder_monitor, if_neg (by rw [watched]; nofun)]
      · rfl
    | none =>
      rw [watched] at gas
      have same : u.monitor m = s.monitor m := gas
      unfold State.retargeted
      rw [Option.elim_none]
      by_cases moved : s.settings.roles.holder ≠ old.roles.holder
      · rw [if_pos moved, if_pos (decide_eq_true moved), State.reevaluateHolder_monitor, if_pos watched, same,
          scene.mode, scene.presentNow, scene.retryExpiry]
      · rw [if_neg moved, if_neg (by simpa using moved), same]
  rw [← holder]
  refine (foldl_part (P := s.SameScene) (g := fun u : State => u.monitor m) (k := m)
    (fun v n h => h.trans (State.modeStep_scene old v n)) (fun v h => ?_) (fun v n other h => ?_) Monitor.nodup_all
    (scene.trans (State.holderStep_scene old u))).1 (Monitor.mem_all m)
  · unfold State.modeStep State.remoded
    rw [h.mode]
    split
    · rw [State.changeMode_monitor, if_pos rfl, h.mode, h.retryExpiry]
    · rfl
  · unfold State.modeStep
    split
    · rw [State.changeMode_monitor, if_neg other]
    · rfl

/-! ## What it tells -/

theorem MonitorRecord.forMode_eq (r : MonitorRecord) (mode : FaultMode) (expiry : Time) :
    r.forMode mode expiry = r.underMode mode expiry := by
  obtain ⟨raw, latched, hold, counter, timer⟩ := r
  cases mode with
  | off => rfl
  | report => rfl
  | latch => cases raw <;> rfl
  | retry =>
    cases raw with
    | true => rfl
    | false => cases hold <;> rfl

theorem MonitorRecord.underMode_raw (r : MonitorRecord) (mode : FaultMode) (expiry : Time) :
    (r.underMode mode expiry).raw = r.raw := by
  unfold MonitorRecord.underMode
  (repeat' split) <;> rfl

/-- A change of mode latches only where the condition is present and the mode holds (R85). -/
theorem MonitorRecord.latchesAnew_of_latched {r : MonitorRecord} {mode : FaultMode} {expiry : Time}
    (before : r.latched = false) (after : (r.underMode mode expiry).latched = true) : r.latchesAnew mode = true := by
  unfold MonitorRecord.underMode at after
  unfold MonitorRecord.latchesAnew
  split at after
  · rw [before] at after; cases after
  · next holds =>
    split at after
    · next raw =>
      rw [raw, before]
      cases mode with
      | off => exact absurd (.inl rfl) holds
      | report => exact absurd (.inr rfl) holds
      | latch => rfl
      | retry => rfl
    · rw [before] at after; cases after

theorem State.changeMode_told (s : State) (m : Monitor) : s.Told (s.changeMode m) := by
  have alert (f : AlertFlag) : (s.changeMode m).alert f =
      (s.alert f || ((s.monitor m).latchesAnew (s.mode m) && decide (.sourceFault = f))) :=
    (State.alert_raiseIf _ _ _ _).trans (congrArg (· || _) (State.alert_of_alerts rfl f))
  refine ⟨by simp, fun f h => by rw [alert, h, Bool.true_or], fun n before after => ?_, fun n before after _ => ?_⟩
  · rw [State.changeMode_monitor] at after
    split at after
    · next same =>
      subst same
      rw [MonitorRecord.forMode_eq] at after
      rw [alert, MonitorRecord.latchesAnew_of_latched before after]; simp
    · rw [before] at after; cases after
  · rw [State.changeMode_monitor] at after
    split at after
    · rw [MonitorRecord.forMode_eq, MonitorRecord.underMode_raw, before] at after; cases after
    · rw [before] at after; cases after

theorem State.superviseChange_told (s : State) (old : Settings) : s.Told (s.superviseChange old) := by
  have gas (u : State) (src : Source) : u.Told (State.gasStep old u src) := by
    unfold State.gasStep State.reevaluateGas
    split
    · exact (((u.evaluate_told _ _).trans (State.evaluate_told _ _ _)).trans (State.evaluate_told _ _ _)).trans
        (State.evaluate_told _ _ _)
    · exact .refl u
  have holder (u : State) : u.Told (State.holderStep old u) := by
    unfold State.holderStep State.reevaluateHolder
    split
    · exact ((u.evaluate_told _ _).trans (State.evaluate_told _ _ _)).trans (State.evaluate_told _ _ _)
    · exact .refl u
  have mode (u : State) (m : Monitor) : u.Told (State.modeStep old u m) := by
    unfold State.modeStep
    split
    · exact u.changeMode_told m
    · exact .refl u
  rw [State.superviseChange_eq]
  exact ((State.Told.foldl gas _ _).trans (holder _)).trans (State.Told.foldl mode _ _)

theorem State.superviseChange_alert (s : State) (old : Settings) {f : AlertFlag} (h : f ≠ .sourceFault) :
    (s.superviseChange old).alert f = s.alert f := by
  refine State.superviseChange_same (fun u : State => u.alert f) (fun u src => ?_) (fun u => ?_) (fun u m => ?_) s old
  · simp only [State.reevaluateGas, State.evaluate_alert_other _ _ _ h]
  · simp only [State.reevaluateHolder, State.evaluate_alert_other _ _ _ h]
  · refine (State.alert_raiseIf _ _ _ _).trans ?_
    rw [decide_eq_false (Ne.symm h), Bool.and_false, Bool.or_false]
    exact State.alert_of_alerts rfl f

end Sys2Proof.Machine
end

section
/-! PROOF. The Supply Monitor's and the engine's share of a settings change (R7, R14, R50, R64, R87). -/

namespace Sys2Proof.Machine

/-! ## The Supply Monitor -/

/-- A source record under the role addresses of `c` (R7). -/
def State.followed (s : State) (c : Settings) (src : Source) : SourceRecord :=
  if c.roles.gas.get src = (s.sm.sources.get src).address then s.sm.sources.get src
  else SourceRecord.blank (c.roles.gas.get src)

theorem State.followSource_source (s : State) (src o : Source) : (s.followSource src).sm.sources.get o =
    if src = o then s.followed s.settings o else s.sm.sources.get o := by
  unfold State.followSource State.followed State.source
  by_cases same : src = o
  · subst same
    rw [if_pos rfl]
    dsimp only
    split
    · rfl
    · exact PerSource.get_put_self _ _ _
  · rw [if_neg same]
    dsimp only
    split
    · rfl
    · exact (PerSource.get_put _ _ _ _).trans (if_neg same)

theorem State.followSource_holder (s : State) (src : Source) : (s.followSource src).sm.holder = s.sm.holder := by
  unfold State.followSource
  dsimp only
  split <;> rfl

theorem State.followed_congr {s u : State} {o : Source} (h : u.sm.sources.get o = s.sm.sources.get o)
    (settings : u.settings = s.settings) : u.followed u.settings o = s.followed s.settings o := by
  unfold State.followed
  rw [h, settings]

theorem State.followSources_sm (s : State) :
    (((s.followSource .cvg).followSource .bfg).followSource .cog).sm.holder = s.sm.holder ∧
    ∀ o, (((s.followSource .cvg).followSource .bfg).followSource .cog).sm.sources.get o =
      s.followed s.settings o := by
  have before (u : State) (src o : Source) (other : src ≠ o) :
      (u.followSource src).sm.sources.get o = u.sm.sources.get o :=
    (u.followSource_source src o).trans (if_neg other)
  have here (u : State) (o : Source) : (u.followSource o).sm.sources.get o = u.followed u.settings o :=
    (u.followSource_source o o).trans (if_pos rfl)
  refine ⟨by simp only [State.followSource_holder], fun o => ?_⟩
  cases o with
  | cvg => rw [before _ _ _ (by decide), before _ _ _ (by decide), here]
  | bfg =>
    rw [before _ _ _ (by decide), here]
    exact State.followed_congr (before _ _ _ (by decide)) (by simp)
  | cog =>
    rw [here]
    exact State.followed_congr ((before _ _ _ (by decide)).trans (before _ _ _ (by decide))) (by simp)

/-- The holder record under new settings written over `old` (R14). -/
def State.newHolder (s : State) (old : Settings) : HolderRecord :=
  if s.settings.roles.holder ≠ s.sm.holder.address then HolderRecord.blank s.settings.roles.holder
  else if s.settings.holder.dNom ≠ old.holder.dNom ∨ s.settings.holder.dMax ≠ old.holder.dMax
    then { s.sm.holder with draw := drawOf s.sm.holder.band s.settings.holder }
  else s.sm.holder

/-- The converter-gas availability is formed again under new settings written over `old` (R14). -/
def State.refuels (s : State) (old : Settings) : Prop :=
  (s.settings.roles.holder ≠ s.sm.holder.address ∧ s.sm.holder.band ≠ .unknown) ∨
    (¬ s.settings.roles.holder ≠ s.sm.holder.address ∧
      (s.settings.holder.dNom ≠ old.holder.dNom ∨ s.settings.holder.dMax ≠ old.holder.dMax))

/-! ## The engine -/

/-- The figures of the engine that only a completion or a suspension changes are those of `a`. -/
def Engine.SameFigures (a b : Engine) : Prop := b = { a with
  run := b.run, runNumber := b.runNumber, rerunPending := b.rerunPending, dispatch := b.dispatch
  flareTotal := b.flareTotal, flareResidue := b.flareResidue, flarePoint := b.flarePoint
  flareTimer := b.flareTimer }

theorem Engine.SameFigures.refl (a : Engine) : a.SameFigures a := rfl

theorem Engine.SameFigures.trans {a b c : Engine} (h : a.SameFigures b) (k : b.SameFigures c) : a.SameFigures c := by
  unfold Engine.SameFigures at h k ⊢
  rw [h] at k
  exact k

theorem State.requestRun_figures (s : State) : s.ae.SameFigures s.requestRun.ae := by
  unfold State.requestRun
  (repeat' split) <;> rfl

theorem State.abortRun_figures (s : State) : s.ae.SameFigures s.abortRun.ae := by
  rw [State.abortRun_eq]
  have integrated := s.integrateFlare_ae
  unfold Engine.SameFigures
  rw [integrated]

theorem State.withdrawalAtEngine_figures (s : State) : s.ae.SameFigures s.withdrawalAtEngine.ae := by
  rcases s.withdrawalAtEngine_cases with ⟨-, h⟩ | ⟨-, -, h⟩ | ⟨-, -, h⟩
  · rw [h]; exact .refl _
  · rw [h]; exact rfl
  · rw [h]
    exact s.abortRun_figures.trans rfl

theorem State.withdrawalAtEngine_alert (s : State) {f : AlertFlag} (h : f ≠ .runAborted) :
    s.withdrawalAtEngine.alert f = s.alert f := by
  rcases s.withdrawalAtEngine_cases with ⟨-, k⟩ | ⟨-, -, k⟩ | ⟨-, -, k⟩ <;> rw [k]
  · exact State.alert_of_alerts rfl f
  · refine (State.alert_of_alerts (s := s.abortRun) rfl f).trans ?_
    rw [State.abortRun_eq]
    refine (s.alert_raise .runAborted f).trans ?_
    rw [decide_eq_false (Ne.symm h), Bool.or_false]

theorem State.settle_figures (s : State) (src : Source) : s.ae.SameFigures (s.settle src).ae := by
  rcases s.settle_cases src with ⟨-, h⟩ | ⟨-, -, h⟩ | ⟨-, -, h⟩ <;> rw [h]
  · exact .refl _
  · exact (s.setAdmission src .withdrawn).withdrawalAtEngine_figures
  · exact (s.setAdmission src .admitted).requestRun_figures

theorem State.settle_alert (s : State) (src : Source) {f : AlertFlag} (h : f ≠ .runAborted) :
    (s.settle src).alert f = s.alert f := by
  rcases s.settle_cases src with ⟨-, k⟩ | ⟨-, -, k⟩ | ⟨-, -, k⟩ <;> rw [k]
  · exact (State.withdrawalAtEngine_alert _ h).trans (State.alert_of_alerts rfl f)
  · rw [State.requestRun_eq]; exact State.alert_of_alerts rfl f

theorem State.settleAll_figures (s : State) : s.ae.SameFigures s.settleAll.ae :=
  ((s.settle_figures _).trans (State.settle_figures _ _)).trans (State.settle_figures _ _)

theorem State.settleAll_alert (s : State) {f : AlertFlag} (h : f ≠ .runAborted) : s.settleAll.alert f = s.alert f :=
  ((State.settle_alert _ _ h).trans (State.settle_alert _ _ h)).trans (State.settle_alert _ _ h)

/-! ## The Supply Monitor's share as a whole -/

theorem State.changeBand_sm (s : State) (b : HolderBand) : (s.changeBand b).sm =
    { holder := { s.sm.holder with band := b, draw := drawOf b s.settings.holder }
      sources := s.sm.sources.put .cvg { s.sm.sources.get .cvg with
        availability := fuelPower (drawOf b s.settings.holder) (s.sm.sources.get .cvg).ncv } } := by
  unfold State.changeBand
  dsimp only
  rw [State.requestRun_eq]
  rfl

theorem State.changeBand_alert (s : State) (b : HolderBand) (f : AlertFlag) :
    (s.changeBand b).alert f = (s.alert f || decide (.holderBand = f)) := by
  unfold State.changeBand
  dsimp only
  rw [State.requestRun_eq]
  exact State.alert_raise _ _ _

theorem State.changeBand_figures (s : State) (b : HolderBand) : s.ae.SameFigures (s.changeBand b).ae :=
  State.requestRun_figures _

/-- The holder record and the converter gas under new settings (R14). -/
theorem State.followHolder_sm (s : State) (old : Settings) : (s.followHolder old).sm.holder = s.newHolder old ∧
    ∀ src, (s.refuels old → src = .cvg → (s.followHolder old).sm.sources.get src = { s.sm.sources.get src with
        availability := (s.newHolder old).draw * (s.sm.sources.get src).ncv / 3600 }) ∧
      (¬ (src = .cvg ∧ s.refuels old) → (s.followHolder old).sm.sources.get src = s.sm.sources.get src) := by
  unfold State.followHolder State.newHolder State.refuels
  dsimp only
  by_cases moved : s.settings.roles.holder ≠ s.sm.holder.address
  · rw [if_pos moved, if_pos moved]
    by_cases unknown : s.sm.holder.band = .unknown
    · rw [if_pos unknown]
      exact ⟨rfl, fun src => ⟨fun h => (h.elim (fun k => k.2 unknown) fun k => k.1 moved).elim, fun _ => rfl⟩⟩
    · rw [if_neg unknown, State.changeBand_sm]
      refine ⟨rfl, fun src => ⟨fun _ same => ?_, fun other => ?_⟩⟩
      · subst same; exact rfl
      · cases src with
        | cvg => exact absurd ⟨rfl, .inl ⟨moved, unknown⟩⟩ other
        | bfg => rfl
        | cog => rfl
  · rw [if_neg moved, if_neg moved]
    by_cases redrawn : s.settings.holder.dNom ≠ old.holder.dNom ∨ s.settings.holder.dMax ≠ old.holder.dMax
    · rw [if_pos redrawn, if_pos redrawn]
      refine ⟨rfl, fun src => ⟨fun _ same => ?_, fun other => ?_⟩⟩
      · subst same; exact rfl
      · cases src with
        | cvg => exact absurd ⟨rfl, .inr ⟨moved, redrawn⟩⟩ other
        | bfg => rfl
        | cog => rfl
    · rw [if_neg redrawn, if_neg redrawn]
      exact ⟨rfl, fun src => ⟨fun h => (h.elim (fun k => moved k.1) fun k => redrawn k.2).elim, fun _ => rfl⟩⟩

theorem State.followHolder_alert (s : State) (old : Settings) (f : AlertFlag) : (s.followHolder old).alert f =
    (s.alert f || (decide (s.settings.roles.holder ≠ s.sm.holder.address ∧ s.sm.holder.band ≠ .unknown) &&
      decide (.holderBand = f))) := by
  unfold State.followHolder
  dsimp only
  by_cases moved : s.settings.roles.holder ≠ s.sm.holder.address
  · rw [if_pos moved]
    by_cases unknown : s.sm.holder.band = .unknown
    · rw [if_pos unknown, decide_eq_false fun k => k.2 unknown, Bool.false_and, Bool.or_false]
      exact State.alert_of_alerts rfl f
    · have both : decide (s.settings.roles.holder ≠ s.sm.holder.address ∧ s.sm.holder.band ≠ .unknown) = true :=
        decide_eq_true ⟨moved, unknown⟩
      rw [if_neg unknown, State.changeBand_alert, both, Bool.true_and]
      exact congrArg (· || _) (State.alert_of_alerts rfl f)
  · rw [if_neg moved, decide_eq_false fun k => moved k.1, Bool.false_and, Bool.or_false]
    split <;> exact State.alert_of_alerts rfl f

theorem State.followHolder_figures (s : State) (old : Settings) : s.ae.SameFigures (s.followHolder old).ae := by
  unfold State.followHolder
  dsimp only
  (repeat' split)
  · exact .refl _
  · exact State.changeBand_figures _ _
  · exact .refl _
  · exact .refl _

theorem State.newHolder_congr {s u : State} (holder : u.sm.holder = s.sm.holder) (settings : u.settings = s.settings)
    (old : Settings) : u.newHolder old = s.newHolder old := by
  unfold State.newHolder
  rw [holder, settings]

theorem State.refuels_congr {s u : State} (holder : u.sm.holder = s.sm.holder) (settings : u.settings = s.settings)
    (old : Settings) : u.refuels old ↔ s.refuels old := by
  unfold State.refuels
  rw [holder, settings]

/-- The Supply Monitor's records under new settings written over `old` (R7, R14). -/
theorem State.supplyChange_sm (s : State) (old : Settings) : (s.supplyChange old).sm.holder = s.newHolder old ∧
    ∀ src, (s.refuels old → src = .cvg → (s.supplyChange old).sm.sources.get src = { s.followed s.settings src with
        availability := (s.newHolder old).draw * (s.followed s.settings src).ncv / 3600 }) ∧
      (¬ (src = .cvg ∧ s.refuels old) → (s.supplyChange old).sm.sources.get src = s.followed s.settings src) := by
  obtain ⟨same, sources⟩ := s.followSources_sm
  have settings : (((s.followSource .cvg).followSource .bfg).followSource .cog).settings = s.settings := by simp
  unfold State.supplyChange
  generalize ((s.followSource .cvg).followSource .bfg).followSource .cog = u at same sources settings ⊢
  obtain ⟨holder, records⟩ := u.followHolder_sm old
  rw [State.newHolder_congr same settings] at holder records
  simp only [sources, State.refuels_congr same settings] at records
  exact ⟨holder, records⟩

theorem State.supplyChange_alert (s : State) (old : Settings) (f : AlertFlag) : (s.supplyChange old).alert f =
    (s.alert f || (decide (s.settings.roles.holder ≠ s.sm.holder.address ∧ s.sm.holder.band ≠ .unknown) &&
      decide (.holderBand = f))) := by
  have same := s.followSources_sm.1
  have kept : (((s.followSource .cvg).followSource .bfg).followSource .cog).settings = s.settings ∧
      (((s.followSource .cvg).followSource .bfg).followSource .cog).fs = s.fs := by simp
  unfold State.supplyChange
  generalize ((s.followSource .cvg).followSource .bfg).followSource .cog = u at same kept ⊢
  rw [State.followHolder_alert, same, kept.1, State.alert_of_alerts (congrArg Supervisor.alerts kept.2)]

theorem State.supplyChange_figures (s : State) (old : Settings) : s.ae.SameFigures (s.supplyChange old).ae := by
  have kept : (((s.followSource .cvg).followSource .bfg).followSource .cog).ae = s.ae := by simp
  unfold State.supplyChange
  rw [← kept]
  exact State.followHolder_figures _ _

end Sys2Proof.Machine
end

section
/-! PROOF. New live settings come into force: what every owner takes over (R6, R7, R14, R15, R50, R64, R81, R85,
R87, R109, R124, R139, R143, R151). -/

namespace Sys2Proof.Machine

/-! ## The stages -/

/-- The state once the Supply Monitor and the supervisor have taken the settings. -/
def State.supervised (s : State) (c : Settings) : State :=
  (State.supplyChange { s with settings := c } s.settings).superviseChange s.settings

/-- The stations that the list of `new` no longer holds and that of `old` did (R109). -/
def goneStations (new old : Settings) : List Nat :=
  addresses.filter fun a => old.pollList.contains a && !new.pollList.contains a

/-- The state once they have taken the stations delisted too. -/
def State.told (s : State) (c : Settings) : State :=
  (goneStations c s.settings).foldl State.delist (s.supervised c)

@[simp] theorem State.supervised_frame (s : State) (c : Settings) :
    (s.supervised c).settings = c ∧ (s.supervised c).now = s.now ∧ (s.supervised c).ot = s.ot ∧
    (s.supervised c).flc = s.flc ∧ (s.supervised c).hau = s.hau ∧ (s.supervised c).esu = s.esu ∧
    (s.supervised c).cl = s.cl ∧ (s.supervised c).store = s.store := by
  simp [State.supervised]

theorem goneStations_nodup (new old : Settings) : (goneStations new old).Nodup :=
  List.Nodup.filter _ ((List.nodup_range).map fun _ _ h => Nat.succ.inj h)

theorem goneStations_range {new old : Settings} : ∀ a ∈ goneStations new old, 1 ≤ a ∧ a ≤ 127 :=
  fun _ h => mem_addresses.1 (List.mem_filter.1 h).1

theorem State.lineDelist_eq (s : State) (old : Settings) :
    s.lineDelist old = (goneStations s.settings old).foldl State.delist s := by
  unfold State.lineDelist State.delistGone
  split
  · next same =>
    have none_ : goneStations s.settings old = [] := by
      unfold goneStations
      rw [same]
      exact List.filter_eq_nil_iff.2 fun a _ => by simp
    rw [none_]; rfl
  · rfl

theorem State.applySettings_eq (s : State) (c : Settings) : s.applySettings c =
    ((((s.told c).settleAll.engineChange s.settings).settlementChange s.settings).linkChange
      s.settings).lineRestart s.settings := by
  have delisted : (s.supervised c).lineDelist s.settings = s.told c := by
    rw [State.lineDelist_eq, s.supervised_frame c |>.1]; rfl
  rw [← delisted]
  rfl

@[simp] theorem State.told_frame (s : State) (c : Settings) :
    (s.told c).settings = c ∧ (s.told c).now = s.now ∧ (s.told c).ot = s.ot ∧
    (s.told c).ae = (s.supervised c).ae ∧ (s.told c).cl = s.cl := by
  have settings := s.supervised_frame c
  unfold State.told
  exact ⟨(foldl_same State.settings (by simp) _ _).trans (by simp),
    (foldl_same State.now (by simp) _ _).trans (by simp), (foldl_same State.ot (by simp) _ _).trans (by simp),
    foldl_same State.ae (by simp) _ _, (foldl_same State.cl (by simp) _ _).trans (by simp)⟩

@[simp] theorem State.lineRestart_frame (s : State) (old : Settings) :
    (s.lineRestart old).sm = s.sm ∧ (s.lineRestart old).ot = s.ot ∧ (s.lineRestart old).ae = s.ae ∧
    (s.lineRestart old).fs = s.fs ∧ (s.lineRestart old).hau = s.hau ∧ (s.lineRestart old).esu = s.esu ∧
    (s.lineRestart old).cl = s.cl ∧ (s.lineRestart old).store = s.store := by
  unfold State.lineRestart
  split <;> simp

/-! ## Whom the delisting strikes -/

theorem State.supervised_strikes (s : State) (c : Settings) (role : Role) :
    (s.supervised c).strikes (goneStations c s.settings) role = s.dropsRole c role := by
  have station (a : Nat) : (s.supervised c).station a = s.station a := State.station_congr (by simp) a
  have roles (a : Nat) : (s.supervised c).role a = ({ s with settings := c } : State).role a :=
    State.role_of_hau (by simp) (by simp) a
  unfold State.strikes State.dropsRole goneStations
  rw [List.any_filter, Bool.eq_iff_iff, List.any_eq_true, List.any_eq_true]
  refine exists_congr fun a => and_congr_right fun ha => ?_
  obtain ⟨low, high⟩ := mem_addresses.1 ha
  simp only [station, roles, State.drops]
  simp [low, high, and_assoc]

theorem State.told_part {β : Type} {g : State → β} {f : β → β} {role : Role} {c : Settings}
    (step : ∀ (u : State) (a : Nat), u.settings = c → g (u.delist a) =
      if (u.station a).state = .live ∧ u.role a = role then f (g u) else g u)
    (idem : ∀ b, f (f b) = f b) (s : State) :
    g (s.told c) = if s.dropsRole c role = true then f (g (s.supervised c)) else g (s.supervised c) := by
  rw [← s.supervised_strikes c role]
  exact State.delists_part step idem (goneStations_nodup _ _) goneStations_range (by simp)

theorem State.told_source (s : State) (c : Settings) (src : Source) : (s.told c).sm.sources.get src =
    { (s.supervised c).sm.sources.get src with
      reading := if s.dropsRole c (.gas src) = true ∧ ((s.supervised c).sm.sources.get src).reading = .fresh then .held
        else ((s.supervised c).sm.sources.get src).reading } := by
  rw [State.told_part (g := fun u => u.sm.sources.get src) (role := .gas src)
    (f := fun r => { r with reading := r.reading.onStale }) (fun u a _ => u.delist_source a src)
    (fun r => by rw [ReadingState.onStale_onStale]) s, ReadingState.onStale_eq]
  cases s.dropsRole c (.gas src) <;> simp

theorem State.told_holder (s : State) (c : Settings) : (s.told c).sm.holder = { (s.supervised c).sm.holder with
    reading := if s.dropsRole c .holder = true ∧ (s.supervised c).sm.holder.reading = .fresh then .held
      else (s.supervised c).sm.holder.reading } := by
  rw [State.told_part (g := fun u => u.sm.holder) (role := .holder)
    (f := fun r => { r with reading := r.reading.onStale }) (fun u a _ => u.delist_holder a)
    (fun r => by rw [ReadingState.onStale_onStale]) s, ReadingState.onStale_eq]
  cases s.dropsRole c .holder <;> simp

theorem State.told_esu (s : State) (c : Settings) : (s.told c).esu =
    if s.dropsRole c .export_ = true then s.esu.markSilent else s.esu := by
  rw [State.told_part (g := State.esu) (role := .export_) (fun u a _ => u.delist_esu a)
    Settlement.markSilent_markSilent s]
  simp

theorem State.told_slot (s : State) (c : Settings) (i : Fin 64) : ((s.told c).account i, (s.told c).accountRecord i) =
    if s.dropsRole c (.heat i) = true then heldSlot (s.account i, s.accountRecord i)
    else (s.account i, s.accountRecord i) := by
  rw [State.told_part (g := fun u => (u.account i, u.accountRecord i)) (role := .heat i)
    (fun u a _ => u.delist_slot a i) heldSlot_heldSlot s]
  rw [State.account_congr (by simp : (s.supervised c).hau = s.hau),
    State.accountRecord_congr (by simp : (s.supervised c).store.accounts = s.store.accounts)]

theorem State.silences_eq (s : State) (c : Settings) (m : Monitor) :
    s.silences c m = (staleRole m).elim false (s.dropsRole c) := by
  rcases m with ⟨src, k⟩ | _ | _ | _
  · cases k <;> rfl
  all_goals rfl

theorem State.told_monitor (s : State) (c : Settings) (m : Monitor) : (s.told c).monitor m =
    if s.silences c m = true then ((s.supervised c).monitor m).raised (c.mode m) else (s.supervised c).monitor m := by
  rw [State.silences_eq]
  cases watched : staleRole m with
  | none =>
    refine foldl_same (fun u : State => u.monitor m) (fun u a => ?_) _ _
    rw [State.delist_monitor, if_neg]
    rw [watched]
    exact fun h => nomatch h.2
  | some role =>
    rw [State.told_part (g := fun u => u.monitor m) (role := role) (f := fun r => r.raised (c.mode m)) (fun u a h => ?_)
      (fun r => r.raised_raised _) s]
    · rfl
    · rw [State.delist_monitor, watched, State.mode, h]
      refine if_congr ?_ rfl rfl
      simp [eq_comm]

/-! ## The monitors -/

theorem State.presentAt_eq (s : State) (c : Settings) (m : Monitor) :
    s.presentAt c m = ({ s with settings := c } : State).presentNow m := by
  rcases m with ⟨src, k⟩ | _ | _ | _
  · cases k with
    | stale => simp only [State.presentAt, State.presentNow, State.isStale, Bool.decide_and]; rfl
    | _ => rfl
  · rfl
  · rfl
  · simp only [State.presentAt, State.presentNow, State.isStale, Bool.decide_and]; rfl

theorem State.moves_eq (s : State) (c : Settings) (m : Monitor) : s.moves c m = targetMoved c s.settings m := by
  rcases m with ⟨src, k⟩ | _ | _ | _ <;> rfl

/-- A monitor after the supervisor's share (R81, R85). -/
theorem State.supervised_monitor (s : State) (c : Settings) (m : Monitor) : (s.supervised c).monitor m =
    let r := s.monitor m
    let expiry := s.now + BitVec.ofNat 32 (c.retryTime * 1000)
    let moved := if s.moves c m = false ∨ s.presentAt c m = r.raw then r
      else if s.presentAt c m = true then r.appear (c.mode m)
      else r.disappear (c.mode m) expiry
    if c.mode m = s.mode m then moved else moved.underMode (c.mode m) expiry := by
  have scene : ({ s with settings := c } : State).SameScene (State.supplyChange { s with settings := c } s.settings) := by
    unfold State.SameScene; simp
  have before : (State.supplyChange { s with settings := c } s.settings).monitor m = s.monitor m :=
    State.monitor_congr (by simp) m
  unfold State.supervised
  rw [State.superviseChange_monitor, before, State.remoded, State.retargeted, scene.1, scene.mode, scene.presentNow,
    scene.retryExpiry, ← State.presentAt_eq]
  change (if c.mode m ≠ s.mode m then MonitorRecord.forMode (if targetMoved c s.settings m = true then _ else _) _ _
    else _) = _
  rw [← s.moves_eq c m, MonitorRecord.forMode_eq]
  have moved : (if s.moves c m = true then (s.monitor m).evaluated (s.presentAt c m) (c.mode m)
      (s.now + BitVec.ofNat 32 (c.retryTime * 1000)) else s.monitor m) =
      if s.moves c m = false ∨ s.presentAt c m = (s.monitor m).raw then s.monitor m
      else if s.presentAt c m = true then (s.monitor m).appear (c.mode m)
      else (s.monitor m).disappear (c.mode m) (s.now + BitVec.ofNat 32 (c.retryTime * 1000)) := by
    unfold MonitorRecord.evaluated
    cases s.moves c m <;> simp
  dsimp only
  rw [← moved]
  by_cases same : c.mode m = s.mode m
  · rw [if_pos same, if_neg (not_not.2 same)]; rfl
  · rw [if_neg same, if_pos same]; rfl

/-- Every monitor after the settings have come into force. -/
theorem State.told_monitorUnder (s : State) (c : Settings) (m : Monitor) :
    (s.told c).monitor m = s.monitorUnder c m := by
  rw [State.told_monitor, State.supervised_monitor]
  unfold State.monitorUnder
  dsimp only
  generalize (if c.mode m = s.mode m then _ else _ : MonitorRecord) = r
  cases s.silences c m with
  | false => simp
  | true =>
    cases raw : r.raw with
    | true => simp [MonitorRecord.raised, raw]
    | false => simp [MonitorRecord.appear_eq_raised raw]

/-! ## The alerts -/

theorem State.told_told (s : State) (c : Settings) :
    (State.supplyChange { s with settings := c } s.settings).Told (s.told c) :=
  (State.superviseChange_told _ _).trans (State.Told.foldl State.delist_told _ _)

theorem State.settleAll_told (s : State) : s.Told s.settleAll :=
  .of_monitors (by simp) (by simp) fun _ h => State.alert_settle (State.alert_settle (State.alert_settle h _) _) _

theorem State.applySettings_fs (s : State) (c : Settings) : (s.applySettings c).fs = (s.told c).settleAll.fs := by
  rw [State.applySettings_eq]
  simp

theorem State.applySettings_monitor (s : State) (c : Settings) (m : Monitor) :
    (s.applySettings c).monitor m = s.monitorUnder c m := by
  rw [State.monitor_congr (congrArg Supervisor.monitors (s.applySettings_fs c)),
    State.monitor_congr (State.settleAll_monitors _), State.told_monitorUnder]

/-- What the supervisor has to tell of a settings change it tells (R82, R85). -/
theorem State.applySettings_tells (s : State) (c : Settings) (m : Monitor)
    (h : ((s.monitor m).latched = false ∧ ((s.applySettings c).monitor m).latched = true) ∨
      ((s.monitor m).raw = false ∧ ((s.applySettings c).monitor m).raw = true ∧ c.mode m ≠ .off)) :
    (s.applySettings c).alert .sourceFault = true := by
  have told := (s.told_told c).trans (s.told c).settleAll_told
  have before : (State.supplyChange { s with settings := c } s.settings).monitor m = s.monitor m :=
    State.monitor_congr (by simp) m
  have mode : (State.supplyChange { s with settings := c } s.settings).mode m = c.mode m := by simp [State.mode]
  have after : (s.applySettings c).monitor m = (s.told c).settleAll.monitor m :=
    State.monitor_congr (congrArg Supervisor.monitors (s.applySettings_fs c)) m
  rw [after] at h
  rw [State.alert_of_alerts (congrArg Supervisor.alerts (s.applySettings_fs c))]
  rcases h with ⟨clear, latched⟩ | ⟨absent, present, acts⟩
  · exact told.latches m (by rw [before]; exact clear) latched
  · exact told.appears m (by rw [before]; exact absent) present (by rw [mode]; exact acts)

theorem State.applySettings_alert (s : State) (c : Settings) {f : AlertFlag} (fault : f ≠ .sourceFault)
    (abort : f ≠ .runAborted) : (s.applySettings c).alert f = (s.alert f ||
      ((decide (c.roles.holder ≠ s.sm.holder.address ∧ s.sm.holder.band ≠ .unknown) && decide (.holderBand = f)) ||
        ((addresses.any fun a => s.drops c a) && decide (.stationStale = f)))) := by
  have station (a : Nat) : (s.supervised c).station a = s.station a := State.station_congr (by simp) a
  have gone : ((goneStations c s.settings).any fun a => decide (((s.supervised c).station a).state = .live)) =
      addresses.any fun a => s.drops c a := by
    unfold goneStations
    rw [List.any_filter, Bool.eq_iff_iff, List.any_eq_true, List.any_eq_true]
    refine exists_congr fun a => and_congr_right fun ha => ?_
    obtain ⟨low, high⟩ := mem_addresses.1 ha
    simp [station, State.drops, low, high, and_assoc]
  have supplied : (s.supervised c).alert f = (s.alert f ||
      (decide (c.roles.holder ≠ s.sm.holder.address ∧ s.sm.holder.band ≠ .unknown) && decide (.holderBand = f))) := by
    unfold State.supervised
    rw [State.superviseChange_alert _ _ fault, State.supplyChange_alert]
    exact congrArg (· || _) (State.alert_of_alerts rfl f)
  rw [State.alert_of_alerts (congrArg Supervisor.alerts (s.applySettings_fs c)), State.settleAll_alert _ abort]
  unfold State.told
  rw [State.delists_alert _ (goneStations_nodup _ _) goneStations_range fault, gone, supplied, Bool.or_assoc]

/-! ## The Supply Monitor, the engine, the settlement unit and the accounts -/

theorem State.applySettings_sm (s : State) (c : Settings) : (s.applySettings c).sm = (s.told c).sm := by
  rw [State.applySettings_eq]
  simp

theorem State.applySettings_hau (s : State) (c : Settings) : (s.applySettings c).hau = (s.told c).hau := by
  rw [State.applySettings_eq]
  simp

theorem State.applySettings_accountRecord (s : State) (c : Settings) (i : Fin 64) :
    (s.applySettings c).accountRecord i = (s.told c).accountRecord i := by
  rw [State.applySettings_eq]
  exact State.accountRecord_congr (by simp) i

theorem State.engineChange_figures (s : State) (old : Settings) : (s.engineChange old).ae = { s.ae with
    dispatch := if s.settings.dispatchInterval ≠ old.dispatchInterval
      then secondsTimer s.now s.settings.dispatchInterval else s.ae.dispatch
    exportEstimate := if s.settings.stationLoad ≠ old.stationLoad then s.ae.yieldSum - s.settings.stationLoad
      else s.ae.exportEstimate } := by
  unfold State.engineChange
  by_cases interval : s.settings.dispatchInterval ≠ old.dispatchInterval
  · rw [if_pos interval, if_pos interval]
    dsimp only
    by_cases load : s.settings.stationLoad ≠ old.stationLoad
    · rw [if_pos load, if_pos (by exact load)]; rfl
    · rw [if_neg load, if_neg (by exact load)]; rfl
  · rw [if_neg interval, if_neg interval]
    dsimp only
    split <;> rfl

theorem State.applySettings_ae (s : State) (c : Settings) : ∃ a : Engine, s.ae.SameFigures a ∧
    (s.applySettings c).ae = { a with
      dispatch := if c.dispatchInterval ≠ s.settings.dispatchInterval
        then secondsTimer s.now c.dispatchInterval else a.dispatch
      exportEstimate := if c.stationLoad ≠ s.settings.stationLoad then s.ae.yieldSum - c.stationLoad
        else s.ae.exportEstimate } := by
  have figures : s.ae.SameFigures (s.told c).settleAll.ae := by
    refine Engine.SameFigures.trans ?_ (s.told c).settleAll_figures
    rw [(s.told_frame c).2.2.2.1]
    unfold State.supervised
    rw [(State.superviseChange_frame _ _).2.2.2.2.2.2.2.2.1]
    exact State.supplyChange_figures { s with settings := c } s.settings
  refine ⟨_, figures, ?_⟩
  have estimate : (s.told c).settleAll.ae.exportEstimate = s.ae.exportEstimate ∧
      (s.told c).settleAll.ae.yieldSum = s.ae.yieldSum := by
    unfold Engine.SameFigures at figures
    rw [figures]; exact ⟨rfl, rfl⟩
  rw [State.applySettings_eq]
  simp only [State.lineRestart_frame, State.linkChange_frame, State.settlementChange_frame]
  rw [State.engineChange_figures]
  simp [estimate]

theorem State.applySettings_ot (s : State) (c : Settings) :
    (s.applySettings c).ot = { s.ot with entries := (s.applySettings c).ot.entries } := by
  have change (u : State) (old : Settings) : (u.settlementChange old).ot =
      { u.ot with entries := (u.settlementChange old).ot.entries } := by
    unfold State.settlementChange
    dsimp only
    (repeat' split) <;> rfl
  rw [State.applySettings_eq]
  simp only [State.lineRestart_frame, State.linkChange_frame]
  rw [change]
  simp

/-- The meter under new settings (R143). -/
theorem State.settlementChange_esu (s : State) (old : Settings) : (s.settlementChange old).esu =
    if s.settings.roles.export_ ≠ old.roles.export_
      then Settlement.settleSilent { s.esu with baseline := none } s.meterIsSilent else s.esu := by
  unfold State.settlementChange
  by_cases cap : s.settings.boostMax ≠ old.boostMax
  · rw [if_pos cap]
    dsimp only
    split
    · next moved => exact (if_pos moved).symm
    · next same => exact (if_neg same).symm
  · rw [if_neg cap]
    dsimp only
    split <;> rfl

theorem State.told_station (s : State) (c : Settings) (a : Nat) : (s.told c).station a =
    if s.drops c a = true then { s.station a with state := .stale } else s.station a := by
  have station : (s.supervised c).station a = s.station a := State.station_congr (by simp) a
  unfold State.told
  rw [State.delists_station _ goneStations_range, station]
  refine if_congr ?_ rfl rfl
  unfold goneStations State.drops
  simp [mem_addresses, and_assoc]

theorem State.applySettings_esu (s : State) (c : Settings) : (s.applySettings c).esu =
    if c.roles.export_ = s.settings.roles.export_ then (s.told c).esu
    else Settlement.settleSilent { (s.told c).esu with baseline := none }
      (decide (c.roles.export_ = 0 ∨ (s.station c.roles.export_).state = .stale ∨ s.drops c c.roles.export_ = true)) := by
  have silent : ((s.told c).settleAll.engineChange s.settings).meterIsSilent =
      decide (c.roles.export_ = 0 ∨ (s.station c.roles.export_).state = .stale ∨
        s.drops c c.roles.export_ = true) := by
    rw [State.meterIsSilent_eq]
    have settings : ((s.told c).settleAll.engineChange s.settings).settings = c := by simp
    rw [settings, State.station_congr (by simp : ((s.told c).settleAll.engineChange s.settings).flc = (s.told c).flc),
      State.told_station]
    cases s.drops c c.roles.export_ <;> simp
  rw [State.applySettings_eq]
  simp only [State.lineRestart_frame, State.linkChange_frame]
  rw [State.settlementChange_esu, silent]
  by_cases same : c.roles.export_ = s.settings.roles.export_
  · rw [if_pos same, if_neg (by simpa using same)]; simp
  · rw [if_neg same, if_pos (by simpa using same)]; simp

theorem State.applySettings_silence (s : State) (c : Settings) : (s.applySettings c).cl =
    { s.cl with silence := if c.linkTimeout ≠ s.settings.linkTimeout then secondsTimer s.now c.linkTimeout
      else s.cl.silence } := by
  have change (u : State) (old : Settings) : (u.linkChange old).cl =
      { u.cl with silence := if u.settings.linkTimeout ≠ old.linkTimeout then secondsTimer u.now u.settings.linkTimeout
        else u.cl.silence } := by
    unfold State.linkChange
    split <;> rfl
  rw [State.applySettings_eq]
  simp only [State.lineRestart_frame]
  rw [change]
  simp

end Sys2Proof.Machine
end

section
/-! PROOF. SET SETTING, SAVE SETTINGS, RESTORE SETTINGS and CLEAR SETTINGS FAULT (section 10.2). -/

namespace Sys2Proof.Machine

/-! ## What the owners take over -/

theorem State.supervised_sm (s : State) (c : Settings) :
    (s.supervised c).sm = (State.supplyChange { s with settings := c } s.settings).sm := by
  simp [State.supervised]

/-- The Supply Monitor after new settings have come into force (R6, R7, R14, R15). -/
theorem State.applySettings_supply (s : State) (c : Settings) :
    let h := State.newHolder { s with settings := c } s.settings
    (s.applySettings c).sm.holder = { h with
      reading := if s.dropsRole c .holder = true ∧ h.reading = .fresh then .held else h.reading } ∧
    ∀ src, (s.applySettings c).sm.sources.get src = { s.followed c src with
      reading := if s.dropsRole c (.gas src) = true ∧ (s.followed c src).reading = .fresh then .held
        else (s.followed c src).reading
      availability :=
        if src = .cvg ∧ ((c.roles.holder ≠ s.sm.holder.address ∧ s.sm.holder.band ≠ .unknown) ∨
          (¬ c.roles.holder ≠ s.sm.holder.address ∧
            (c.holder.dNom ≠ s.settings.holder.dNom ∨ c.holder.dMax ≠ s.settings.holder.dMax)))
        then h.draw * (s.followed c src).ncv / 3600 else (s.followed c src).availability } := by
  obtain ⟨holder, sources⟩ := State.supplyChange_sm { s with settings := c } s.settings
  intro h
  rw [s.applySettings_sm c]
  refine ⟨?_, fun src => ?_⟩
  · rw [State.told_holder, State.supervised_sm, holder]
  · rw [State.told_source, State.supervised_sm]
    by_cases fuels : src = .cvg ∧ State.refuels { s with settings := c } s.settings
    · rw [(sources src).1 fuels.2 fuels.1]
      refine Eq.trans rfl (congrArg (fun n => ({ s.followed c src with
        reading := _, availability := n } : SourceRecord)) (if_pos fuels).symm)
    · rw [(sources src).2 fuels]
      refine Eq.trans rfl (congrArg (fun n => ({ s.followed c src with
        reading := _, availability := n } : SourceRecord)) (if_neg fuels).symm)

theorem heldSlot_of_opened {x : Option Account × Checked StoredAccount} {a : Account} (account : x.1 = some a)
    (opened : a.state = .opened) : heldSlot x =
      (some { a with state := .holding }, ⟨storedAccount (some { a with state := .holding }), true⟩) := by
  unfold heldSlot
  rw [account]
  exact if_pos opened

theorem heldSlot_of_other {x : Option Account × Checked StoredAccount} (other : ∀ a, x.1 = some a → a.state ≠ .opened) :
    heldSlot x = x := by
  obtain ⟨a, r⟩ := x
  cases a with
  | none => rfl
  | some a => exact if_neg (other a rfl)

/-- The accounts whose stations the settings delist are in HOLDING, and no other changes (R124). -/
theorem State.applySettings_slot (s : State) (c : Settings) (i : Fin 64) :
    (∀ a, s.account i = some a → a.state = .opened → s.dropsRole c (.heat i) = true →
      (s.applySettings c).account i = some { a with state := .holding } ∧
      (s.applySettings c).accountRecord i = ⟨storedAccount ((s.applySettings c).account i), true⟩) ∧
    ((∀ a, s.account i = some a → a.state = .opened → s.dropsRole c (.heat i) = false) →
      (s.applySettings c).account i = s.account i ∧ (s.applySettings c).accountRecord i = s.accountRecord i) := by
  have slot := s.told_slot c i
  rw [State.account_congr (s.applySettings_hau c), s.applySettings_accountRecord c]
  refine ⟨fun a account opened struck => ?_, fun stands => ?_⟩
  · rw [if_pos struck, heldSlot_of_opened account opened] at slot
    obtain ⟨hold, record⟩ := Prod.mk.inj slot
    rw [hold]
    exact ⟨rfl, record⟩
  · have same : ((s.told c).account i, (s.told c).accountRecord i) = (s.account i, s.accountRecord i) := by
      rw [slot]
      split
      · next struck =>
        exact heldSlot_of_other fun a account opened => by
          have free := stands a account opened
          rw [struck] at free; cases free
      · rfl
    exact Prod.mk.inj same

theorem State.applySettings_hau_frame (s : State) (c : Settings) :
    (s.applySettings c).hau = { s.hau with accounts := (s.applySettings c).hau.accounts } := by
  have step (u : State) (a : Nat) : (u.delist a).hau = { u.hau with accounts := (u.delist a).hau.accounts } := by
    rw [State.delist_cases]
    split
    · cases u.role a with
      | gas src => simp [State.holdSource, State.setSource]
      | holder => simp [State.holdHolder, State.setHolder]
      | export_ => simp [State.meterSilent]
      | heat i =>
        rcases (u.staled a).holdAccount_cases i with ⟨b, -, -, held⟩ | ⟨-, held⟩
        · rw [State.handTo, held]; simp [State.writeAccount, State.setAccount]
        · rw [State.handTo, held]; simp
      | unbound => simp
    · rfl
  have cursor : (s.told c).hau.cursor = s.hau.cursor := by
    unfold State.told
    exact (foldl_same (fun u : State => u.hau.cursor) (fun u a => by rw [step]) _ _).trans (by simp)
  have number : (s.told c).hau.closeNumber = s.hau.closeNumber := by
    unfold State.told
    exact (foldl_same (fun u : State => u.hau.closeNumber) (fun u a => by rw [step]) _ _).trans (by simp)
  rw [s.applySettings_hau c]
  generalize (s.told c).hau = x at cursor number ⊢
  obtain ⟨accounts, k, n⟩ := x
  subst cursor number
  rfl

theorem takenOver_engine {a b e : Engine} {load old : Nat} {x : Option Time} (figures : a.SameFigures b)
    (engine : e = { b with dispatch := x, exportEstimate := if load ≠ old then a.yieldSum - load else a.exportEstimate }) :
    e = { a with
      run := e.run, runNumber := e.runNumber, rerunPending := e.rerunPending, dispatch := e.dispatch
      flareTotal := e.flareTotal, flareResidue := e.flareResidue, flarePoint := e.flarePoint
      flareTimer := e.flareTimer
      exportEstimate := if load = old then a.exportEstimate else a.yieldSum - load } := by
  subst engine
  unfold Engine.SameFigures at figures
  rw [figures]
  simp only [ne_eq, ite_not]

theorem boosted_eq (c old : Settings) (e : Offtake) :
    Offtake.boosted (if c.boostMax ≠ old.boostMax then fun b => min b c.boostMax else id) e = { e with
      boost := if c.boostMax ≠ old.boostMax ∧ e.use.isPower = true ∧ e.takesPart = true
        then min e.boost c.boostMax else e.boost } := by
  unfold Offtake.boosted
  by_cases capped : c.boostMax ≠ old.boostMax
  · by_cases takes : e.use.isPower = true ∧ e.takesPart = true
    · simp [capped, takes]
    · rw [if_neg (show ¬ (e.use.isPower && e.takesPart) = true by simpa using takes)]
      exact (congrArg (fun b => ({ e with boost := b } : Offtake)) (if_neg fun h => takes h.2)).symm
  · rw [if_neg capped]
    refine Eq.trans (ite_self _) ?_
    exact (congrArg (fun b => ({ e with boost := b } : Offtake)) (if_neg fun h => capped h.1)).symm

theorem Store.eq_of_items {d e : Store} (settings : d.settings = e.settings) (offtakes : d.offtakes = e.offtakes)
    (counter : d.counter = e.counter) (closeNumber : d.closeNumber = e.closeNumber) (lock : d.lock = e.lock) :
    d = { e with accounts := d.accounts, flare := d.flare } := by
  obtain ⟨_, _, _, _, _, _, _⟩ := d
  dsimp only at *
  subst settings offtakes counter closeNumber lock
  rfl

/-- The settings in force and each owner's share taken, whatever the link answers (R167, R169). -/
theorem State.applySettings_takesOver (s : State) (c : Settings) (k : Link)
    (link : k = { s.linkAfter ⟨.ok, []⟩ with silence := secondsTimer s.now c.linkTimeout }) :
    State.TakesOver { s.applySettings c with cl := k } s c := by
  obtain ⟨holder, sources⟩ := s.applySettings_supply c
  obtain ⟨a, figures, engine⟩ := s.applySettings_ae c
  have entries := s.applySettings_entry c
  have slots := s.applySettings_slot c
  have meter : (s.applySettings c).esu = _ := s.applySettings_esu c
  have tells := s.applySettings_tells c
  have alert := fun f => s.applySettings_alert c (f := f)
  have follows := s.applySettings_follows c
  have monitors := s.applySettings_monitor c
  have ot := s.applySettings_ot c
  have hau := s.applySettings_hau_frame c
  have settings := s.applySettings_settings c
  obtain ⟨pending, now, picks, startingUp, lockLine, -⟩ := s.applySettings_frame c
  obtain ⟨store1, store2, store3, store4, store5⟩ := s.applySettings_stored c
  rw [s.told_esu c] at meter
  generalize s.applySettings c = t at *
  unfold State.TakesOver
  refine ⟨?_, ⟨?_, fun src => ?_⟩, ⟨monitors, tells, ?_, ?_, fun f other => ?_, ?_⟩, ⟨?_, fun changed => ?_⟩,
    ⟨ot, fun i => ?_, ?_⟩, ⟨hau, ?_, slots⟩, link⟩
  · apply State.ext_blocks <;> simp [pending, now, picks, startingUp, lockLine, settings]
  · exact holder
  · exact sources src
  · refine (alert .holderBand nofun nofun).trans ?_
    simp
  · refine (alert .stationStale nofun nofun).trans ?_
    simp
  · simp only [List.mem_cons, List.not_mem_nil, or_false, not_or] at other
    obtain ⟨fault, abort, band, stale⟩ := other
    refine (alert f fault abort).trans ?_
    simp [Ne.symm band, Ne.symm stale]
  · exact follows
  · exact takenOver_engine figures engine
  · exact (congrArg Engine.dispatch engine).trans (if_pos changed)
  · exact (entries i).trans (congrFun (congrArg Option.map (funext (boosted_eq c s.settings))) _)
  · exact meter
  · exact Store.eq_of_items store1 store2 store3 store4 store5

/-! ## The line -/

theorem State.drops_of_same {s : State} {c : Settings} (same : c.pollList = s.settings.pollList) (a : Nat) :
    s.drops c a = false := by
  unfold State.drops
  rw [same]
  exact decide_eq_false fun ⟨_, _, mem, gone, _⟩ => gone mem

theorem State.dropsRole_of_same {s : State} {c : Settings} (same : c.pollList = s.settings.pollList) (role : Role) :
    s.dropsRole c role = false := by
  unfold State.dropsRole
  simp [State.drops_of_same same]

theorem State.told_of_same {s : State} {c : Settings} (same : c.pollList = s.settings.pollList) :
    s.told c = s.supervised c := by
  have none_ : goneStations c s.settings = [] := by
    unfold goneStations
    rw [same]
    exact List.filter_eq_nil_iff.2 fun a _ => by simp
  unfold State.told
  rw [none_, List.foldl_nil]

theorem State.told_flc (s : State) (c : Settings) : (s.told c).flc = { s.flc with stations := (s.told c).flc.stations } := by
  have before : (s.supervised c).flc = s.flc := by simp
  have line := State.delists_flc (s.supervised c) (goneStations c s.settings)
  rw [before] at line
  exact line

theorem State.applySettings_flc_of_same {s : State} {c : Settings} (same : c.pollList = s.settings.pollList) :
    (s.applySettings c).flc = s.flc := by
  rw [State.applySettings_eq, State.told_of_same same]
  unfold State.lineRestart
  rw [if_pos (by simpa using same)]
  simp

/-- Another poll list discards the staged one and restarts the walk (R109). -/
theorem State.applySettings_flc {s : State} {c : Settings} (other : c.pollList ≠ s.settings.pollList) :
    ∃ u : State, u.settings = c ∧ u.flc = { s.flc with staged := none, stations := (s.told c).flc.stations } ∧
      (s.applySettings c).flc = u.restartWalk.flc := by
  rw [State.applySettings_eq]
  unfold State.lineRestart
  rw [if_neg (by simpa using other)]
  refine ⟨_, ?_, ?_, rfl⟩
  · simp
  · simp only [State.linkChange_frame, State.settlementChange_frame, State.engineChange_frame, State.settleAll_frame]
    rw [s.told_flc c]

theorem State.applySettings_station (s : State) (c : Settings) (a : Nat) : (s.applySettings c).station a =
    if s.drops c a = true then { s.station a with state := .stale } else s.station a := by
  by_cases same : c.pollList = s.settings.pollList
  · rw [State.station_congr (State.applySettings_flc_of_same same), if_neg]
    rw [State.drops_of_same same]
    nofun
  · obtain ⟨u, -, line, walk⟩ := State.applySettings_flc same
    have stations : (s.applySettings c).flc.stations = (s.told c).flc.stations := by
      rw [walk, u.restartWalk_flc.1, line]
    rw [State.station_of_stations stations, s.told_station]

theorem State.restartWalk_of_other {s : State} (running : s.flc.polling = .running) (other : s.flc.phase ≠ some .gap) :
    s.restartWalk = { s with flc := { s.flc with replacementWaiting := true } } := by
  unfold State.restartWalk
  split
  · next stopped => rw [running] at stopped; cases stopped
  · next empty => rw [running] at empty; cases empty
  · next gap => exact absurd gap other
  · rfl

/-- The walk after another list has come into force, by what polling was doing (R109). -/
theorem State.restartWalk_flc_eq (s : State) : s.restartWalk.flc = match s.flc.polling with
    | .stopped => s.flc
    | .empty => if s.settings.pollList = [] then { s.flc with
        polling := .empty, position := 0, phase := none, replyTimer := none, gapTimer := none }
      else { s.flc with
        polling := .running, position := 0, phase := some .query
        queried := (s.settings.pollList[0]?).getD 0, replyTimer := none, gapTimer := none }
    | .running => if s.flc.phase = some .gap then { s.flc with position := s.settings.pollList.length - 1 }
      else { s.flc with replacementWaiting := true } := by
  cases polling : s.flc.polling with
  | stopped => rw [State.restartWalk_of_stopped polling]
  | empty =>
    rw [State.restartWalk_of_empty polling]
    dsimp only
    split
    · next list => rw [State.walkTo_of_empty list]; rfl
    · next list => rw [State.walkTo_of_list list]; rfl
  | running =>
    dsimp only
    split
    · next gap => rw [State.restartWalk_of_gap polling gap]
    · next other => rw [State.restartWalk_of_other polling other]

theorem State.beginPolling_flc (s : State) : s.beginPolling.flc = (if s.flc.polling ≠ .stopped then s.flc
    else if s.settings.pollList = [] then { s.flc with
      polling := .empty, position := 0, phase := none, replyTimer := none, gapTimer := none }
    else { s.flc with
      polling := .running, position := 0, phase := some .query
      queried := (s.settings.pollList[0]?).getD 0, replyTimer := none, gapTimer := none }) := by
  unfold State.beginPolling
  by_cases stopped : s.flc.polling = .stopped
  · rw [if_pos stopped, if_neg (not_not.2 stopped)]
    split
    · next list => rw [State.walkTo_of_empty list]; rfl
    · next list => rw [State.walkTo_of_list list]; rfl
  · rw [if_neg stopped, if_pos stopped]

/-! ## Behind a frame -/

theorem State.TakesOver.of_link {s t : State} {k : Link} {n : SettingsState} {c : Settings}
    (h : t.TakesOver { s with cl := k, nvs := n } c) (standalone : k.standalone = s.cl.standalone)
    (cause : k.resetCause = s.cl.resetCause) : t.TakesOver s c := by
  obtain ⟨rest, supply, supervisor, engine, settlement, accounts, link⟩ := h
  refine ⟨rest, supply, supervisor, engine, settlement, accounts, link.trans ?_⟩
  unfold State.linkAfter
  dsimp only
  rw [standalone, cause]

/-- New settings that a good frame brings, with its answer OK. -/
def State.renewed (s : State) (unsaved : Bool) (c : Settings) : State :=
  State.respond ((s.frameTaken.setUnsaved unsaved).applySettings c) ⟨.ok, []⟩

theorem State.frameTaken_setUnsaved (s : State) (b : Bool) : s.frameTaken.setUnsaved b =
    { s with cl := s.linkAfter s.cl.response, nvs := { s.nvs with unsaved := b } } := by
  rw [State.frameTaken_eq]
  rfl

theorem State.renewed_takesOver {s : State} (linked : s.cl.standalone = false) (b : Bool) (c : Settings) :
    (s.renewed b c).TakesOver s c := by
  unfold State.renewed
  rw [State.frameTaken_setUnsaved]
  refine State.TakesOver.of_link (State.applySettings_takesOver _ c _ ?_) rfl rfl
  rw [State.applySettings_silence]
  unfold State.linkAfter
  dsimp only
  rw [linked]
  by_cases same : c.linkTimeout = s.settings.linkTimeout
  · simp [same]
  · simp [same]

theorem State.renewed_facts (s : State) (b : Bool) (c : Settings) :
    (s.renewed b c).settings = c ∧ (s.renewed b c).nvs = { s.nvs with unsaved := b } ∧
    (s.renewed b c).cl.response = ⟨.ok, []⟩ ∧ (s.renewed b c).store.settings = s.store.settings ∧
    (s.renewed b c).store.offtakes = s.store.offtakes ∧
    (∀ a, (s.renewed b c).station a =
      if s.drops c a = true then { s.station a with state := .stale } else s.station a) ∧
    (c.pollList = s.settings.pollList → (s.renewed b c).flc = s.flc) ∧
    (c.pollList ≠ s.settings.pollList → ∃ u : State, u.settings = c ∧
      u.flc = { s.flc with staged := none, stations := (s.renewed b c).flc.stations } ∧
      (s.renewed b c).flc = u.restartWalk.flc) := by
  have same : s.renewed b c = State.respond (State.applySettings
      { s with cl := s.linkAfter s.cl.response, nvs := { s.nvs with unsaved := b } } c) ⟨.ok, []⟩ := by
    rw [← State.frameTaken_setUnsaved]; exact rfl
  obtain ⟨-, -, -, -, -, nvs⟩ := State.applySettings_frame
    { s with cl := s.linkAfter s.cl.response, nvs := { s.nvs with unsaved := b } } c
  obtain ⟨stored, offtakes, -⟩ := State.applySettings_stored
    { s with cl := s.linkAfter s.cl.response, nvs := { s.nvs with unsaved := b } } c
  have settings := State.applySettings_settings
    { s with cl := s.linkAfter s.cl.response, nvs := { s.nvs with unsaved := b } } c
  have station := State.applySettings_station
    { s with cl := s.linkAfter s.cl.response, nvs := { s.nvs with unsaved := b } } c
  have stands := State.applySettings_flc_of_same
    (s := { s with cl := s.linkAfter s.cl.response, nvs := { s.nvs with unsaved := b } }) (c := c)
  have walks := State.applySettings_flc
    (s := { s with cl := s.linkAfter s.cl.response, nvs := { s.nvs with unsaved := b } }) (c := c)
  rw [same]
  generalize State.applySettings _ c = t at *
  refine ⟨settings, nvs, rfl, stored, offtakes, station, stands, fun other => ?_⟩
  obtain ⟨u, live, line, walk⟩ := walks other
  refine ⟨u, live, line.trans ?_, walk⟩
  have stations := congrArg FieldLine.stations line
  rw [← u.restartWalk_flc.1, ← walk] at stations
  exact congrArg (fun x => ({ s.flc with staged := none, stations := x } : FieldLine)) stations.symm

end Sys2Proof.Machine
end

section
/-! PROOF. Saving and restoring the settings (R112, R168 to R170). -/

namespace Sys2Proof.Machine

theorem State.beginPolling_flc_congr {s u : State} (flc : u.flc = s.flc) (settings : u.settings = s.settings) :
    u.beginPolling.flc = s.beginPolling.flc := by
  rw [State.beginPolling_flc, State.beginPolling_flc, flc, settings]

/-- The settings-fault condition cleared, and polling begun (R112). -/
theorem State.clearCondition_eq (s : State) : s.clearCondition = { s with
    nvs := { s.nvs with settingsFault := false }, flc := s.beginPolling.flc } := by
  have flc : s.clearCondition.flc = s.beginPolling.flc :=
    State.beginPolling_flc_congr (u := { s with nvs := { s.nvs with settingsFault := false } }) rfl rfl
  apply State.ext_blocks
  case flc => exact flc
  all_goals simp [State.clearCondition]

theorem execSaveSettings_eq {s : State} (h : s.Serving) (idle : s.nvs.saving = none) :
    exec (.saveSettings []) s = .next { s with
      cl := s.linkAfter ⟨.ok, []⟩
      nvs := { s.nvs with saving := some s.settings }
      store := { s.store with settings := { s.store.settings with good := false } } } := by
  have hown : saveCommand s.frameTaken = State.ok { s.frameTaken with
      nvs := { s.frameTaken.nvs with saving := some s.frameTaken.settings }
      store := { s.frameTaken.store with settings := { s.frameTaken.store.settings with good := false } } } [] :=
    if_neg (by simp [idle])
  refine (congrArg Host.Outcome.next (State.takeFrame_gated_bare_nil_of_answer h hown (by simp))).trans ?_
  rw [State.frameTaken_eq]
  rfl

theorem execSaveSettings_busy {s : State} (h : s.Serving) (saving : s.nvs.saving.isSome = true) :
    exec (.saveSettings []) s = .next (s.answered ⟨.busy, []⟩) := by
  have hown : saveCommand s.frameTaken = s.frameTaken.refuse .busy := if_pos (by simpa using saving)
  exact congrArg Host.Outcome.next (State.takeFrame_gated_bare_nil_of_refuse h hown)

theorem execSaveCompletion_eq {s : State} {c : Settings} (saving : s.nvs.saving = some c) :
    exec .saveCompletion s = .next { s with
      nvs := ⟨false, none, false⟩
      store := { s.store with settings := ⟨c, true⟩ }
      flc := s.beginPolling.flc } := by
  have runs : exec .saveCompletion s = .next (s.completeSave c) := by
    simp only [exec, execSaveCompletion, saving]
  rw [runs, State.completeSave, State.clearCondition_eq]
  refine congrArg Host.Outcome.next ?_
  apply State.ext_blocks <;> simp
  exact State.beginPolling_flc_congr rfl rfl

theorem execClearSettingsFault_eq {s : State} (h : s.Serving) :
    exec (.clearSettingsFault []) s = .next (if s.nvs.settingsFault = true then { s with
      cl := s.linkAfter ⟨.ok, []⟩
      nvs := { s.nvs with settingsFault := false }
      flc := s.beginPolling.flc } else s.answered ⟨.ok, []⟩) := by
  cases fault : s.nvs.settingsFault with
  | false =>
    have hown : clearSettingsFaultCommand s.frameTaken = s.frameTaken.ok [] := if_neg (by simp [fault])
    refine (congrArg Host.Outcome.next (State.takeFrame_gated_bare_nil_of_answer h hown (by simp))).trans ?_
    rw [State.frameTaken_eq]
    rfl
  | true =>
    have hown : clearSettingsFaultCommand s.frameTaken = s.frameTaken.clearCondition.ok [] := if_pos (by simp [fault])
    refine (congrArg Host.Outcome.next (State.takeFrame_gated_bare_nil_of_answer h hown (by simp))).trans ?_
    rw [State.clearCondition_eq, State.beginPolling_flc_congr (u := s.frameTaken) (s := s) (by simp) (by simp),
      State.frameTaken_eq]
    rfl

/-! ## Restoring -/

theorem State.takeFrame_renewed {s : State} (h : s.Serving) {own : State → Answer} {b : Bool} {c : Settings}
    (k : own s.frameTaken = ((s.frameTaken.setUnsaved b).applySettings c).ok []) :
    s.takeFrame (gated own) = s.renewed b c := by
  rw [State.takeFrame_gated_of_serving h, k]
  unfold State.renewed
  generalize (s.frameTaken.setUnsaved b).applySettings c = t
  exact rfl

theorem State.frameTaken_restored (s : State) (c : Settings) : s.frameTaken.restored c = s.restored c := by
  rw [State.frameTaken_eq]; exact rfl

theorem restoreCommand_of_good {s : State} (idle : s.nvs.saving = none) (good : s.store.settings.good = true) :
    restoreCommand s.frameTaken = ((s.frameTaken.setUnsaved
      (decide (s.restored s.store.settings.value ≠ s.store.settings.value))).applySettings
      (s.restored s.store.settings.value)).ok [] := by
  unfold restoreCommand
  rw [if_neg (by simp [idle]), if_neg (by simp [good])]
  dsimp only
  rw [State.frameTaken_restored, (State.frameTaken_frame s).2.2.2.2.2.2.2.2.2.2.2.2.2.2]

theorem execRestoreSettings_bad {s : State} (h : s.Serving) (idle : s.nvs.saving = none)
    (bad : s.store.settings.good = false) :
    exec (.restoreSettings []) s = .next (s.answered ⟨.settingsFault, []⟩) := by
  have hown : restoreCommand s.frameTaken = s.frameTaken.refuse .settingsFault := by
    unfold restoreCommand
    rw [if_neg (by simp [idle]), if_pos (by simp [bad])]
  exact congrArg Host.Outcome.next (State.takeFrame_gated_bare_nil_of_refuse h hown)

theorem execRestoreSettings_good {s : State} (h : s.Serving) (idle : s.nvs.saving = none)
    (good : s.store.settings.good = true) : exec (.restoreSettings []) s = .next (s.renewed
      (decide (s.restored s.store.settings.value ≠ s.store.settings.value)) (s.restored s.store.settings.value)) :=
  congrArg Host.Outcome.next (State.takeFrame_renewed (own := bare [] restoreCommand) h
    (restoreCommand_of_good idle good))

/-- The settings a restore brings (R40, R169). -/
theorem State.restored_facts (s : State) (c : Settings) :
    s.restored c = { c with
      roles := (s.restored c).roles, bandSide := (s.restored c).bandSide
      bandSize := (s.restored c).bandSize, lockMode := (s.restored c).lockMode } ∧
    (s.bandEnforced = true → (s.restored c).bandSide = s.settings.bandSide ∧
      (s.restored c).bandSize = s.settings.bandSize ∧ (s.restored c).lockMode = s.settings.lockMode) ∧
    (s.bandEnforced = false → (s.restored c).bandSide = c.bandSide ∧
      (s.restored c).bandSize = c.bandSize ∧ (s.restored c).lockMode = c.lockMode) ∧
    (s.restored c).roles.list = c.roles.list.map (fun a => if s.isBound a = true then 0 else a) := by
  refine ⟨?_, fun enforced => ?_, fun free => ?_, ?_⟩
  · unfold State.restored; split <;> rfl
  · unfold State.restored; rw [if_pos enforced]; exact ⟨rfl, rfl, rfl⟩
  · unfold State.restored; rw [if_neg (by simp [free])]; exact ⟨rfl, rfl, rfl⟩
  · rw [State.restored_roles]; exact rfl

theorem State.TakesOver.entry {s t : State} {c : Settings} (h : t.TakesOver s c) {i : Fin 48} {e : Offtake}
    (he : s.entry i = some e) : ∃ f, t.entry i = some f ∧ e.sameTerms f ∧ f.state = e.state := by
  obtain ⟨-, -, -, -, ⟨-, entries, -⟩, -, -⟩ := h
  have entry := entries i
  rw [he, Option.map_some] at entry
  exact ⟨_, entry, ⟨rfl, rfl, rfl, rfl, rfl, rfl, rfl, rfl⟩, rfl⟩

/-- Settles O60: saving by its two commands, restoring by what a change of settings hands to every owner. -/
theorem settingsAreSavedAndRestored : Obligations.SettingsAreSavedAndRestored := by
  refine ⟨fun s => ⟨execSaveSettings_eq, execSaveSettings_busy, fun c => execSaveCompletion_eq,
    execClearSettingsFault_eq, s.beginPolling_flc⟩, fun s h idle => ⟨execRestoreSettings_bad h idle, fun good => ?_⟩⟩
  have taken := State.renewed_takesOver (s := s) h.2
    (decide (s.restored s.store.settings.value ≠ s.store.settings.value)) (s.restored s.store.settings.value)
  obtain ⟨settings, nvs, response, stored, -, station, stands, walks⟩ := s.renewed_facts
    (decide (s.restored s.store.settings.value ≠ s.store.settings.value)) (s.restored s.store.settings.value)
  obtain ⟨whole, held, free, roles⟩ := s.restored_facts s.store.settings.value
  refine ⟨_, execRestoreSettings_good h idle good, ?_⟩
  generalize s.renewed (decide (s.restored s.store.settings.value ≠ s.store.settings.value))
    (s.restored s.store.settings.value) = t at *
  rw [settings]
  refine ⟨response, nvs, whole, held, free, roles, stored, fun i e he => taken.entry he, taken, station, stands,
    fun other => ?_⟩
  obtain ⟨u, live, line, walk⟩ := walks other
  have walked := walk.trans u.restartWalk_flc_eq
  rw [live, line] at walked
  generalize t.flc.stations = stations at walked ⊢
  generalize s.flc = before at walked ⊢
  obtain ⟨polling, position, phase, queried, replyTimer, gapTimer, staged, waiting, _⟩ := before
  cases polling with
  | stopped => exact walked
  | empty => exact walked
  | running => exact walked

end Sys2Proof.Machine
end

section
/-! PROOF. SET SETTING: its items, its checks and its effect (R38, R167). -/

namespace Sys2Proof.Machine

/-! ## The payload -/

theorem settingItems_item {code v : Nat} (small : code < 256) (range : v < 4294967296) (rest : List Byte) :
    settingItems (beBytes 1 code ++ beBytes 4 v ++ rest) =
      (settingItems rest).map fun l => (code, v) :: l := by
  obtain ⟨b3, b2, b1, b0, bytes⟩ : ∃ b3 b2 b1 b0, beBytes 4 v = [b3, b2, b1, b0] := ⟨_, _, _, _, rfl⟩
  have value : beNat [b3, b2, b1, b0] = v := bytes ▸ beNat_beBytes_of_lt range
  have byte : (BitVec.ofNat 8 code).toNat = code := by simpa using small
  rw [bytes, beBytes_one]
  simp only [List.cons_append, List.nil_append, settingItems, byte, value]

theorem settingItems_flatMap {l : List (Nat × Nat)} (range : ∀ x ∈ l, x.1 < 256 ∧ x.2 < 4294967296) :
    settingItems (l.flatMap fun x => beBytes 1 x.1 ++ beBytes 4 x.2) = some l := by
  induction l with
  | nil => rfl
  | cons x l ih =>
    obtain ⟨⟨code, value⟩, rest⟩ := List.forall_mem_cons.1 range
    rw [List.flatMap_cons, settingItems_item code value, ih rest]
    rfl

/-! ## The items -/

/-- An option that holds at most settings with the poll list of `c`. -/
def Settings.KeepsList (c : Settings) (o : Option Settings) : Prop := ∀ d, o = some d → d.pollList = c.pollList

theorem Settings.KeepsList.written {c e : Settings} (same : e.pollList = c.pollList) : c.KeepsList (some e) :=
  fun _ h => Option.some.inj h ▸ same

theorem Settings.KeepsList.refused (c : Settings) : c.KeepsList none := nofun

theorem Settings.KeepsList.map {c : Settings} {α : Type} {o : Option α} {f : α → Settings}
    (same : ∀ a, (f a).pollList = c.pollList) : c.KeepsList (o.map f) := by
  intro d h
  obtain ⟨a, -, rfl⟩ := Option.map_eq_some_iff.1 h
  exact same a

theorem Settings.KeepsList.either {c : Settings} {p : Prop} [Decidable p] {a b : Option Settings}
    (first : c.KeepsList a) (rest : c.KeepsList b) : c.KeepsList (if p then a else b) := by
  split
  · exact first
  · exact rest

/-- An item written under its code, before the items of the other codes. -/
theorem Settings.KeepsList.item {c e : Settings} {p : Prop} [Decidable p] {b : Option Settings}
    (rest : c.KeepsList b) (same : e.pollList = c.pollList := by rfl) : c.KeepsList (if p then some e else b) :=
  .either (.written same) rest

/-- No item changes the poll list. -/
theorem Settings.setItem_pollList (c : Settings) (code v : Nat) : c.KeepsList (c.setItem code v) := by
  have modes : c.KeepsList (match Monitor.all[code - 0x12]? with
      | some m => c.setMode m v
      | none => none) := by
    cases Monitor.all[code - 0x12]? with
    | none => exact .refused c
    | some m => exact .map fun _ => rfl
  have numbers : c.KeepsList (if v = 900 ∨ v = 1800 ∨ v = 3600 then some { c with periodLength := v } else none) :=
    .item (.refused c)
  have sizes : c.KeepsList (if bandSizes.contains v then some { c with bandSize := v } else none) :=
    .item (.refused c)
  unfold Settings.setItem
  refine .item (.item (.item (.either modes (.item (.item (.item (.item ?_)))))))
  refine .either numbers (.item (.item (.item (.item (.item (.item (.item ?_)))))))
  exact .either (.map fun _ => rfl) (.either sizes (.either (.map fun _ => rfl) (.refused c)))

theorem Settings.setItems_pollList {c d : Settings} {l : List (Nat × Nat)} (h : c.setItems l = some d) :
    d.pollList = c.pollList := by
  induction l generalizing c with
  | nil => exact congrArg Settings.pollList (Option.some.inj h).symm
  | cons x l ih =>
    obtain ⟨code, v⟩ := x
    unfold Settings.setItems at h
    split at h
    · next e item => exact (ih h).trans (Settings.setItem_pollList c code v e item)
    · cases h

theorem Settings.setItem_mode (c : Settings) (m : Monitor) (v : Nat) :
    c.setItem (0x12 + m.index.val) v = c.setMode m v := by
  rcases m with ⟨src, k⟩ | _ | _ | _
  · cases src <;> cases k <;> rfl
  all_goals rfl

theorem Settings.setMode_mode (c : Settings) (m k : Monitor) (mode : FaultMode) :
    ({ c with modes := setAt c.modes m.index (storedMode m mode) } : Settings).mode k =
      if m = k then storedMode m mode else c.mode k := by
  refine (getElem_setAt _ _ _ _).trans ?_
  exact if_congr ⟨Monitor.index_injective, congrArg Monitor.index⟩ rfl rfl

theorem storedMode_eq (m : Monitor) (mode : FaultMode) : storedMode m mode =
    if m = .levelHighTrip ∧ (mode = .latch ∨ mode = .retry) then .report else mode := by
  unfold storedMode
  split
  · rfl
  · rfl
  · next latch retry =>
    refine (if_neg ?_).symm
    rintro ⟨rfl, rfl | rfl⟩
    · exact latch rfl rfl
    · exact retry rfl rfl

/-- A mode written by an item, and the other monitors' modes kept (R86). -/
theorem Settings.setItem_setsMode (c : Settings) (m : Monitor) (mode : FaultMode) : ∃ d,
    c.setItem (0x12 + m.index.val) mode.code = some d ∧ d = { c with modes := d.modes } ∧
    (∀ k, k ≠ m → d.mode k = c.mode k) ∧
    d.mode m = if m = .levelHighTrip ∧ (mode = .latch ∨ mode = .retry) then .report else mode := by
  refine ⟨{ c with modes := setAt c.modes m.index (storedMode m mode) }, ?_, rfl, fun k other => ?_, ?_⟩
  · rw [Settings.setItem_mode]
    cases mode <;> rfl
  · exact (c.setMode_mode m k mode).trans (if_neg other.symm)
  · exact ((c.setMode_mode m m mode).trans (if_pos rfl)).trans (storedMode_eq m mode)

theorem Settings.setItem_mode_none (c : Settings) (m : Monitor) {v : Nat} (high : 3 < v) :
    c.setItem (0x12 + m.index.val) v = none := by
  rw [Settings.setItem_mode]
  unfold Settings.setMode
  obtain ⟨n, rfl⟩ := Nat.exists_eq_add_of_le' high
  rfl

/-- A code outside the table of parameters is refused (R167). -/
theorem Settings.setItem_unknown (c : Settings) {code : Nat} (v : Nat) (h : code = 0 ∨ 0x34 < code) :
    c.setItem code v = none := by
  unfold Settings.setItem
  rw [if_neg (by omega), if_neg (by omega), if_neg (by omega), if_neg (by omega), if_neg (by omega),
    if_neg (by omega), if_neg (by omega), if_neg (by omega), if_neg (by omega), if_neg (by omega),
    if_neg (by omega), if_neg (by omega), if_neg (by omega), if_neg (by omega), if_neg (by omega),
    if_neg (by omega), if_neg (by omega), if_neg (by omega), if_neg (by omega)]

theorem Settings.setItem_limits (c : Settings) (src : Source) (v : Nat) :
    c.setItem (0x02 + 3 * src.index) v = some { c with
      limits := c.limits.put src { c.limits.get src with ncvMin := min 40000 v } } ∧
    c.setItem (0x03 + 3 * src.index) v = some { c with
      limits := c.limits.put src { c.limits.get src with ncvMax := min 40000 v } } ∧
    c.setItem (0x04 + 3 * src.index) v = some { c with
      limits := c.limits.put src { c.limits.get src with flowMax := min 999999 v } } := by
  cases src <;> exact ⟨rfl, rfl, rfl⟩

/-- The codes of side, size, lock mode and period length name no value but those of their lists (R36, R139). -/
theorem Settings.setItem_listed (c : Settings) (v : Nat) :
    (c.setItem 0x2A v = if v ∈ [900, 1800, 3600] then some { c with periodLength := v } else none) ∧
    (c.setItem 0x32 v = if v = 0 then some { c with bandSide := .low }
      else if v = 1 then some { c with bandSide := .high } else none) ∧
    (c.setItem 0x33 v = if v ∈ [0, 4, 8, 16, 32, 48] then some { c with bandSize := v } else none) ∧
    (c.setItem 0x34 v = if v = 0 then some { c with lockMode := .none }
      else if v = 1 then some { c with lockMode := .line } else none) := by
  have period : c.setItem 0x2A v = if v = 900 ∨ v = 1800 ∨ v = 3600
      then some { c with periodLength := v } else none := rfl
  have size : c.setItem 0x33 v = if bandSizes.contains v then some { c with bandSize := v } else none := rfl
  refine ⟨period.trans (if_congr (by simp) rfl rfl), ?_, size.trans (if_congr (by simp [bandSizes]) rfl rfl), ?_⟩
  · rcases v with _ | _ | v <;> rfl
  · rcases v with _ | _ | v <;> rfl

/-! ## Consistency -/

theorem distinctNonZero_iff (l : List Nat) : distinctNonZero l = true ↔ (l.filter fun a => a != 0).Nodup := by
  induction l with
  | nil => simp [distinctNonZero]
  | cons a l ih =>
    by_cases zero : a = 0
    · simp [distinctNonZero, zero, ih]
    · simp [distinctNonZero, zero, ih]

theorem Settings.consistent_iff (c : Settings) : c.consistent = true ↔
    ((c.holder.lLo : Int) + c.holder.hyst ≤ (c.holder.lHi : Int) - c.holder.hyst ∧
      c.holder.dNom ≤ c.holder.dMax ∧
      (∀ src, (c.limits.get src).ncvMin ≤ (c.limits.get src).ncvMax) ∧
      (c.roles.list.filter fun a => a != 0).Nodup) := by
  have band : c.holder.lLo + 2 * c.holder.hyst ≤ c.holder.lHi ↔
      (c.holder.lLo : Int) + c.holder.hyst ≤ (c.holder.lHi : Int) - c.holder.hyst := by omega
  have limits : (∀ src, (c.limits.get src).ncvMin ≤ (c.limits.get src).ncvMax) ↔
      c.limits.cvg.ncvMin ≤ c.limits.cvg.ncvMax ∧ c.limits.bfg.ncvMin ≤ c.limits.bfg.ncvMax ∧
        c.limits.cog.ncvMin ≤ c.limits.cog.ncvMax :=
    ⟨fun h => ⟨h .cvg, h .bfg, h .cog⟩, fun ⟨cvg, bfg, cog⟩ src => by cases src; exacts [cvg, bfg, cog]⟩
  unfold Settings.consistent
  simp only [Bool.and_eq_true, decide_eq_true_eq, GasLimits.ordered, distinctNonZero_iff, band, limits, and_assoc]

/-! ## The command -/

/-- A payload of one to ten items, and no save in progress. -/
structure State.TakesItems (s : State) (p : List Byte) (l : List (Nat × Nat)) : Prop where
  items : settingItems p = some l
  one : 1 ≤ l.length
  few : l.length ≤ 10
  idle : s.nvs.saving = none

theorem setSettingCommand_of_band {s : State} {p : List Byte} {l : List (Nat × Nat)} (h : s.TakesItems p l)
    (named : l.any namesBand = true) (enforced : s.bandEnforced = true) :
    setSettingCommand p s = s.refuse .protected_ := by
  obtain ⟨items, one, few, idle⟩ := h
  unfold setSettingCommand
  rw [items]
  dsimp only
  rw [if_neg (by omega), if_neg (by simp [idle]), if_pos (by simp [named, enforced])]

theorem setSettingCommand_of_items {s : State} {p : List Byte} {l : List (Nat × Nat)} (h : s.TakesItems p l)
    (free : (l.any namesBand && s.bandEnforced) = false) :
    (∀ c, s.settings.setItems l = some c → (c.consistent && s.rolesUnbound c.roles) = true →
      setSettingCommand p s = ((s.setUnsaved true).applySettings c).ok []) ∧
    (s.settings.setItems l = none → setSettingCommand p s = s.refuse .badValue) ∧
    (∀ c, s.settings.setItems l = some c → (c.consistent && s.rolesUnbound c.roles) = false →
      setSettingCommand p s = s.refuse .badValue) := by
  obtain ⟨items, one, few, idle⟩ := h
  unfold setSettingCommand
  rw [items]
  dsimp only
  rw [if_neg (by omega), if_neg (by simp [idle]), if_neg (by simp [free])]
  refine ⟨fun c written good => ?_, fun refused => ?_, fun c written bad => ?_⟩
  · rw [written]
    exact if_pos good
  · rw [refused]
  · rw [written]
    exact if_neg (by simp [bad])

theorem State.frameTaken_takesItems {s : State} {p : List Byte} {l : List (Nat × Nat)} (h : s.TakesItems p l) :
    s.frameTaken.TakesItems p l :=
  ⟨h.items, h.one, h.few, by simpa using h.idle⟩

theorem rolesUnbound_iff {s : State} {r : RoleAddresses} :
    s.rolesUnbound r = true ↔ ∀ a ∈ r.list, s.isBound a = false := by
  unfold State.rolesUnbound
  simp

theorem State.frameTaken_rolesUnbound (s : State) (r : RoleAddresses) :
    s.frameTaken.rolesUnbound r = s.rolesUnbound r := by
  unfold State.rolesUnbound
  simp

theorem namesBand_eq : namesBand = fun x => decide (0x32 ≤ x.1 ∧ x.1 ≤ 0x34) := by
  funext x
  exact (Bool.decide_and _ _).symm

/-- Under the live poll list a source record stands but for its availability, or begins anew (R7). -/
theorem State.TakesOver.source {s t : State} {c : Settings} (h : t.TakesOver s c)
    (list : c.pollList = s.settings.pollList) (src : Source) :
    t.source src = if c.roles.gas.get src = (s.source src).address
      then { s.source src with availability := (t.source src).availability }
      else ⟨c.roles.gas.get src, .noReading, 0, 0, 0⟩ := by
  obtain ⟨-, ⟨-, sources⟩, -⟩ := h
  have record := sources src
  rw [State.dropsRole_of_same list] at record
  dsimp only at record
  unfold State.source
  by_cases same : c.roles.gas.get src = (s.sm.sources.get src).address
  · rw [if_pos same]
    rw [if_pos same] at record
    generalize t.sm.sources.get src = r at record ⊢
    rw [record]
    simp
  · rw [if_neg same]
    rw [if_neg same] at record
    rw [record]
    simp [SourceRecord.blank]

theorem State.TakesOver.accounts {s t : State} {c : Settings} (h : t.TakesOver s c)
    (list : c.pollList = s.settings.pollList) : t.hau = s.hau := by
  obtain ⟨-, -, -, -, -, ⟨hau, -, slots⟩, -⟩ := h
  have accounts : t.hau.accounts = s.hau.accounts :=
    Vector.ext fun i hi => ((slots ⟨i, hi⟩).2 fun _ _ _ => State.dropsRole_of_same list _).1
  rw [hau, accounts]

/-- Settles O59: the items by their codes, the checks in their order, and the effect by what a change of
settings hands to every owner. -/
theorem settingsAreWrittenWhole : Obligations.SettingsAreWrittenWhole := by
  refine ⟨fun s l h one few range idle => ?_, fun c v => ?_, Settings.consistent_iff⟩
  · have takes : s.frameTaken.TakesItems (l.flatMap fun x => beBytes 1 x.1 ++ beBytes 4 x.2) l :=
      State.frameTaken_takesItems ⟨settingItems_flatMap range, one, few, idle⟩
    generalize (l.flatMap fun x => beBytes 1 x.1 ++ beBytes 4 x.2) = p at takes
    rw [← namesBand_eq]
    intro payload named
    refine ⟨fun names enforced => ?_, fun free => ?_⟩
    · exact congrArg Host.Outcome.next (State.takeFrame_gated_of_reply h
        (setSettingCommand_of_band takes names (by simpa using enforced)))
    · obtain ⟨written, refused, rejected⟩ := setSettingCommand_of_items takes (by
        rw [State.frameTaken_bandEnforced, Bool.eq_false_iff, ne_eq, Bool.and_eq_true]; exact free)
      have settings : s.frameTaken.settings = s.settings := by simp
      rw [settings] at written refused rejected
      simp only [State.frameTaken_rolesUnbound] at written rejected
      refine ⟨fun c items consistent unbound => ?_, fun bad => ?_⟩
      · have list := Settings.setItems_pollList items
        have taken := State.renewed_takesOver (s := s) h.2 true c
        obtain ⟨live, nvs, response, stored, offtakes, -, stands, -⟩ := s.renewed_facts true c
        exact ⟨_, congrArg Host.Outcome.next (State.takeFrame_renewed h (written c items
            (by rw [consistent, rolesUnbound_iff.2 unbound]; rfl))), live, nvs, taken.accounts list, stored,
          offtakes, response, stands list, taken.source list, taken⟩
      · have answer : setSettingCommand p s.frameTaken = s.frameTaken.refuse .badValue := by
          rcases bad with none_ | ⟨c, items, wrong⟩
          · exact refused none_
          · refine rejected c items ?_
            rcases wrong with inconsistent | ⟨a, mem, bound⟩
            · rw [inconsistent]; rfl
            · have held : s.rolesUnbound c.roles = false := by
                rw [Bool.eq_false_iff]
                intro free
                rw [rolesUnbound_iff.1 free a mem] at bound
                cases bound
              rw [held, Bool.and_false]
        exact congrArg Host.Outcome.next (State.takeFrame_gated_of_reply h answer)
  · obtain ⟨period, side, size, mode⟩ := c.setItem_listed v
    exact ⟨rfl, fun src => c.setItem_limits src v, rfl, rfl, rfl, rfl, rfl, rfl, rfl, rfl, rfl, rfl, rfl, rfl, rfl, rfl, rfl,
      rfl, period, rfl, rfl, rfl, rfl, rfl, rfl, rfl, side, size, mode, fun code => c.setItem_unknown v,
      fun m => c.setItem_mode_none m, fun m k => c.setItem_setsMode m k⟩

end Sys2Proof.Machine
end
